-- ==== Sys2Proof/Word.lean ====
section
/-!
DEFINITION. The word types of the RM824, and nothing else.

A value is a bit vector where the manual treats it as bits: the bytes of frames and packets (R200, R202), the 48-bit
local clock that wraps (R12), the 13-bit identifier and mask (R4, R50) and the 4-bit continuity count (R7).
Counts, lengths, durations, rates and credits are `Nat`.
-/
namespace Sys2Proof

/-- One byte of a frame, of a port's line or of a packet. -/
abbrev Byte := BitVec 8

/-- A value of the 48-bit local clock (R12). Differences wrap modulo 2^48, as every interval of the part does. -/
abbrev Clock := BitVec 48

/-- A 13-bit packet identifier, match identifier or mask (R4, R50). -/
abbrev Ident := BitVec 13

/-- A 4-bit continuity count (R7). -/
abbrev Continuity := BitVec 4

/-- The bytes of one transport packet, the sync byte first (R1, R202). `Packet.wf` says that there are 188. -/
abbrev Packet := List Byte

/-- A region mask (R200): bit n stands for region RGn. -/
abbrev RegionMask := BitVec 8

end Sys2Proof
end

