-- ==== Sys2Proof/Syntax.lean ====
section
/-!
DEFINITION. The commands of the RM824: one constructor of `Instr` for each row of spec/opcode_table.json.

A row is one whole, indivisible step of the part (spec/95_what_each_step_holds.md). Three kinds of row stand in the
table, and each carries what its rule says arrives with it:
* something arrives from outside: a byte on a link (R186), a byte on a port's line (R26), the reset pin (R198);
* a link TAKES the oldest frame of its request queue (R187): the row names the request, the operand names the link, and
  the request's own fields are the body of that frame, laid out by R200 (see `Machine/Operands.lean`);
* a moment of the part's own comes: a deadline, a slot instant, the classifier's or a transmitter's turn.
-/
namespace Sys2Proof

/-- The two control links (chapter 11). -/
inductive Link where
  | management
  | cue
  deriving DecidableEq, Repr

/-- Input ports IN0..IN11. -/
abbrev PortId := Fin 12
/-- Component table entries C0..C255. -/
abbrev ComponentId := Fin 256
/-- Meters M0..M31. -/
abbrev MeterId := Fin 32
/-- Service slots S0..S23. -/
abbrev SlotId := Fin 24
/-- Roles 0..5 within a slot. -/
abbrev RoleId := Fin 6
/-- Variants V0..V47. -/
abbrev VariantId := Fin 48
/-- Regions RG0..RG7. -/
abbrev RegionId := Fin 8
/-- Feeds FD0..FD15. -/
abbrev FeedId := Fin 16
/-- Carousels K0..K31. -/
abbrev CarouselId := Fin 32
/-- Tally lines TL0..TL7. -/
abbrev TallyId := Fin 8

/-- A control link frame without its marker, length and check (R201): what a good frame leaves in a request queue. -/
structure Frame where
  /-- The request kind (R189). -/
  kind : Byte
  /-- The tag chosen by the computer, echoed in the reply. -/
  tag : Byte
  /-- The body, 0..1,600 bytes. -/
  body : List Byte
  deriving DecidableEq, Repr

/-- The commands, in the order of spec/opcode_table.json. -/
inductive Instr where
  /-- The reset pin (R198). -/
  | powerOnReset
  /-- The last byte of the RESET reply has been sent (R198). -/
  | resetTakesEffect
  /-- A byte arrives on a control link (R186). -/
  | linkByteReceived (l : Link) (b : Byte)
  /-- The gap between two bytes of one frame exceeds 50 ms (R186). -/
  | frameGapTimeout (l : Link)
  /-- A free transmitter begins the oldest reply, or else the oldest notice (R190). -/
  | frameSendBegin (l : Link)
  /-- A transmitter completes the frame it was sending (R190). -/
  | frameSent (l : Link)
  /-- The link takes a request whose kind is no request kind (R189). -/
  | unsupportedKind (l : Link)
  | identify (l : Link)
  | statusRead (l : Link)
  | statusClear (l : Link)
  | reportSet (l : Link)
  | reset (l : Link)
  | timeSet (l : Link)
  | timeRead (l : Link)
  /-- The local clock passes from 2^48 − 1 to 0 (R14). -/
  | localClockWrap
  | portStart (l : Link)
  | portStop (l : Link)
  | portConfig (l : Link)
  | portClear (l : Link)
  | portRead (l : Link)
  /-- A byte arrives on a port's line (R26). -/
  | portLineByte (p : PortId) (b : Byte)
  /-- The classifier takes its next packet (R41, R42). -/
  | classifierTake
  | componentWrite (l : Link)
  | componentClear (l : Link)
  | componentRead (l : Link)
  | meterWrite (l : Link)
  | meterRead (l : Link)
  /-- A meter has been idle for 2^46 ticks (R69). -/
  | meterIdleRefresh (m : MeterId)
  | slotWrite (l : Link)
  | slotClear (l : Link)
  | slotRead (l : Link)
  | variantWrite (l : Link)
  | variantClear (l : Link)
  | variantRead (l : Link)
  /-- A variant's starvation timer is reached (R89). -/
  | starvationExpiry (v : VariantId)
  /-- A variant's recovery timer is reached (R89). -/
  | recoveryExpiry (v : VariantId)
  | cueAdd (l : Link)
  /-- Station time reaches the due time of the first such PENDING cue in schedule order (R98). -/
  | cueFallsDue
  | cueCancel (l : Link)
  | cueConfirm (l : Link)
  | cueList (l : Link)
  /-- A route's deadline is reached (R124). -/
  | routeDeadline (g : RegionId) (sl : SlotId)
  | routeTake (l : Link)
  | routeHold (l : Link)
  | routeFree (l : Link)
  | routeRead (l : Link)
  | tallyBind (l : Link)
  | claim (l : Link)
  | unclaim (l : Link)
  | claimBreak (l : Link)
  | claimRead (l : Link)
  | regionConfig (l : Link)
  | regionStart (l : Link)
  | regionStop (l : Link)
  | regionRead (l : Link)
  /-- A slot instant of a RUNNING region (R144). -/
  | slotInstant (g : RegionId)
  | feedBind (l : Link)
  | carouselConfig (l : Link)
  | carouselAppend (l : Link)
  | carouselSwap (l : Link)
  | carouselStart (l : Link)
  /-- A carousel's interval deadline is reached (R170, R172). -/
  | carouselIntervalDeadline (k : CarouselId)
  | carouselStop (l : Link)
  | carouselClear (l : Link)
  | carouselRead (l : Link)
  | captureRead (l : Link)
  | captureRelease (l : Link)
  /-- After a REGION_STOP, a feed completes its last packet (R162). -/
  | feedGoesIdle (fd : FeedId)
  deriving DecidableEq, Repr

end Sys2Proof
end

