-- ==== Sys2Proof/Config.lean ====
section
/-!
DEFINITION. The figures of the RM824 (00_scope, Capacities) and the values that the manual leaves open.

An `opaque` constant has no body: nothing in Lean can evaluate it, so a claim about it holds whatever it is.
-/
namespace Sys2Proof.Config

/-- Receive FIFO entries per port (R32). -/
abbrev fifoCap : Nat := 64
/-- Packet pool buffers (R60). -/
abbrev poolCap : Nat := 4096
/-- Cues in the switch schedule (R93). -/
abbrev cueCap : Nat := 128
/-- Main queue entries per region (R147). -/
abbrev mainCap : Nat := 512
/-- Expendable queue entries per region (R147). -/
abbrev expendableCap : Nat := 256
/-- Identifiers per region registry (R157). -/
abbrev registryCap : Nat := 192
/-- Carousel memory buffers (R164). -/
abbrev carouselCap : Nat := 1024
/-- Packets per live or building list (R166). -/
abbrev listCap : Nat := 64
/-- Capture ring entries (R178). -/
abbrev captureCap : Nat := 128
/-- Requests waiting per link (R187). -/
abbrev requestCap : Nat := 4
/-- Replies waiting per link (R190). -/
abbrev replyCap : Nat := 8
/-- Notices waiting per link (R192). -/
abbrev noticeCap : Nat := 32
/-- Longest frame body in bytes (R185). -/
abbrev bodyCap : Nat := 1600
/-- The packets that REGION_READ's null count looks back over (R159). -/
abbrev nullWindow : Nat := 65536

/-- The part code of IDENTIFY and READY (R199). -/
abbrev partCode : Nat := 0x0824

/-- Ticks per millisecond (R13). -/
abbrev ticksPerMs : Nat := 27000
/-- Ticks of one station day (R14). -/
abbrev dayTicks : Nat := 2332800000000
/-- The station time span of 65,536 days (R14). -/
abbrev stationSpan : Nat := 152882380800000000
/-- Half the station time span (R94). -/
abbrev halfSpan : Nat := 76441190400000000
/-- Ten seconds, the lateness at which a cue may still fall due (R94). -/
abbrev lateLimit : Nat := 270000000
/-- Ticks of the 50 ms gap that ends a frame (R186). -/
abbrev gapTicks : Nat := 1350000
/-- Meter credit units per byte (chapter 4). -/
abbrev unitsPerByte : Nat := 216000000
/-- N, the ticks of a packet times the rate in bit/s (R144). -/
abbrev packetTicks : Nat := 40608000000
/-- The modulus of a clock sample, 2^33 × 300 (R10). -/
abbrev sampleSpan : Nat := 2576980377600
/-- The highest value of the schedule's insertion counter (R93). -/
abbrev insertionMax : Nat := 4294967295

/-- The silicon revision of IDENTIFY and READY: R199 fixes it for the first revision alone (log entry 3). -/
opaque siliconRevision : Byte

/-- Which of several of the part's own events that fall at one tick is taken next: the manual leaves their order open
(the "can fall together" paragraphs), so a fresh, unconstrained value decides each time (log entry 4). -/
opaque raceChoice : Nat → Nat

end Sys2Proof.Config
end

