-- ==== Sys2Proof/Machine/State.lean ====
section
/-!
DEFINITION. The state of the RM824 as plain data, and its value after a power-on reset.

Each record follows the record table of its chapter. The constructors of an enumeration stand in the order of the list
that its rule gives, which is the order of its codes (R200).
-/
namespace Sys2Proof.Machine

/-! ## Time (chapter 1) -/

/-- A deadline: the local clock value at which it was set and its length in ticks (R13). -/
structure Deadline where
  set : Clock
  len : Nat
  deriving DecidableEq, Repr

/-! ## Input ports (chapter 2) -/

/-- Whether a port's packets may reach the component table (R34). -/
inductive Admission where
  | admitted
  | notAdmitted
  deriving DecidableEq, Repr

/-- What becomes of an unadmitted or unmatched packet (R34). -/
inductive Policy where
  | discard
  | capture
  deriving DecidableEq, Repr

/-- The run state of a port, with its sync counts and its place in the line's bytes (R22 to R26). `left` is the number
of bytes still to come before the next sync position; `packet` holds the bytes gathered so far of a packet that is being
received, and is absent while a packet with a bad sync byte passes. -/
inductive PortRun where
  | stopped
  | search
  | verify (good : Nat) (left : Nat)
  | locked (bad : Nat) (left : Nat) (packet : Option Packet)
  deriving DecidableEq, Repr

/-- The four sticky flags of a port (R37). -/
structure PortFlags where
  syncLost : Bool
  overrun : Bool
  continuity : Bool
  errorFlagged : Bool
  deriving DecidableEq, Repr

/-- A packet with its arrival time (R20). -/
structure Arrived where
  packet : Packet
  arrival : Clock
  deriving DecidableEq, Repr

/-- The port record (2.1). -/
structure Port where
  run : PortRun
  admission : Admission
  unadmitted : Policy
  unmatched : Policy
  /-- The receive FIFO, oldest first (R32). -/
  fifo : List Arrived
  flags : PortFlags
  deriving DecidableEq, Repr

/-! ## Components and the pool (chapter 3) -/

/-- The class of a component (3.2). -/
inductive CompClass where
  | essential
  | expendable
  deriving DecidableEq, Repr

/-- What a component's packets are delivered as (3.2). -/
inductive Binding where
  | unbound
  | common (mask : RegionMask) (out : Ident)
  | national (sl : SlotId) (r : RoleId)
  | variant (v : VariantId) (r : RoleId)
  deriving DecidableEq, Repr

/-- A DEFINED entry of the component table (3.2). -/
structure Component where
  port : PortId
  ident : Ident
  mask : Ident
  cls : CompClass
  clockBearing : Bool
  meter : Option MeterId
  capture : Bool
  lastSeen : Option Continuity
  binding : Binding
  deriving DecidableEq, Repr

/-- A pool buffer in use: its number, the packet as it arrived and its reference count (R60). -/
structure Buffer where
  id : Nat
  packet : Packet
  refs : Nat
  deriving DecidableEq, Repr

/-! ## Meters (chapter 4) -/

/-- The counting mode of a meter (R70). -/
inductive Counting where
  | full
  | payload
  deriving DecidableEq, Repr

/-- The fields of a DEFINED meter (4.1). -/
structure MeterDef where
  rate : Nat
  burst : Nat
  mode : Counting
  credit : Nat
  updated : Clock
  deriving DecidableEq, Repr

/-- A meter: UNDEFINED when `defn` is absent. EXCESS stands in either state (R64). -/
structure Meter where
  defn : Option MeterDef
  excess : Bool
  deriving DecidableEq, Repr

/-! ## Slots and variants (chapter 5) -/

/-- A role entry of a slot (5.1). -/
structure SlotRole where
  role : RoleId
  out : Ident
  national : Option ComponentId
  deriving DecidableEq, Repr

/-- A DEFINED slot (5.1). -/
structure SlotDef where
  roles : List SlotRole
  anchor : RoleId
  clockRole : Option RoleId
  deriving DecidableEq, Repr

/-- The fallback of a variant (5.2). -/
inductive Fallback where
  | national
  | blank
  deriving DecidableEq, Repr

/-- The judgement of a variant's contribution (5.2, 5.3). -/
inductive Health where
  | healthy
  | starved
  | recovering
  deriving DecidableEq, Repr

/-- A DEFINED variant (5.2). A stopped timer is absent (R86). -/
structure VariantDef where
  slot : SlotId
  comps : List (RoleId × ComponentId)
  fallback : Fallback
  starveMs : Nat
  recoverMs : Nat
  returnMs : Nat
  health : Health
  starveTimer : Option Deadline
  recoverTimer : Option Deadline
  deriving DecidableEq, Repr

/-! ## Routes (chapter 7) -/

/-- The source a region carries for a slot (7.1). -/
inductive Source where
  | national
  | variant (v : VariantId)
  | blank
  deriving DecidableEq, Repr

/-- A source that a cue or take may ask for and a route may intend: never BLANK (7.1, R95). -/
inductive Target where
  | national
  | variant (v : VariantId)
  deriving DecidableEq, Repr

/-- What a route is doing, with the pending fields that stand in that state (the second table of 7.1). A pending cue
id is absent for a take. -/
inductive RouteState where
  | steady
  | pendingSplice (target : Target) (cue : Option Nat) (deadline : Deadline)
  | awaitConfirm (target : Target) (cue : Option Nat) (deadline : Deadline)
  | fallback
  | returning (v : VariantId) (deadline : Deadline)
  deriving DecidableEq, Repr

/-- The route record (7.1). -/
structure Route where
  current : Source
  intended : Target
  state : RouteState
  hold : Bool
  markPending : Bool
  deriving DecidableEq, Repr

/-! ## The switch schedule (chapter 6) -/

/-- The switching policy of a cue (6.1). -/
inductive SwitchPolicy where
  | immediate
  | atMark
  | onConfirm
  deriving DecidableEq, Repr

/-- Whether a cue repeats (6.1). -/
inductive Repeat where
  | once
  | daily
  deriving DecidableEq, Repr

/-- The state of a cue (6.1). -/
inductive CueState where
  | pending
  | active
  deriving DecidableEq, Repr

/-- The outcomes of a cue or take in one region (6.1). -/
inductive CueOutcome where
  | none
  | switched
  | forced
  | noChange
  | held
  | fallback
  | expired
  | superseded
  | cancelled
  deriving DecidableEq, Repr

/-- The cue record (6.1). The due time is kept as a station tick count (R14); the outcome list has one entry for each
region of the mask, in ascending region order. -/
structure Cue where
  id : Nat
  due : Nat
  mask : RegionMask
  slot : SlotId
  target : Target
  policy : SwitchPolicy
  waitMs : Option Nat
  rpt : Repeat
  owner : Nat
  state : CueState
  outcomes : List (RegionId × CueOutcome)
  insertion : Nat
  deriving DecidableEq, Repr

/-! ## Region multiplexers and feeds (chapter 8) -/

/-- How carousel packets and the main queue share slot instants (8.1). -/
inductive ArbiterMode where
  | fixed
  | rotate
  deriving DecidableEq, Repr

/-- The kind of packet begun at a slot instant (8.1). -/
inductive Begun where
  | carousel
  | main
  | expendable
  | null
  deriving DecidableEq, Repr

/-- A queue entry (R59, R147). -/
structure QEntry where
  buf : Nat
  arrival : Clock
  out : Ident
  clockBearing : Bool
  setDisc : Bool
  deriving DecidableEq, Repr

/-- Who registered an identifier (R157). -/
inductive Definer where
  | slotRole (sl : SlotId) (r : RoleId)
  | component (c : ComponentId)
  | carousel (k : CarouselId)
  deriving DecidableEq, Repr

/-- A registry entry (R157). -/
structure RegEntry where
  ident : Ident
  definer : Definer
  last : Continuity
  owed : Bool
  deriving DecidableEq, Repr

/-- A drain record (R158). -/
structure DrainRec where
  ident : Ident
  last : Continuity
  owed : Bool
  deriving DecidableEq, Repr

/-- The slot clock of a RUNNING region (R144): schedule base, next instant, accumulator and slot index. -/
structure SlotClock where
  base : Clock
  next : Clock
  acc : Nat
  index : Nat
  deriving DecidableEq, Repr

/-- The region record (8.1). The region is RUNNING when its slot clock is present. `nulls` tells, newest first, which
of the packets begun since the region was last started, at most 65,536 of them, were null packets (R159). -/
structure Region where
  clk : Option SlotClock
  rate : Nat
  pendingRate : Option Nat
  mode : ArbiterMode
  delayMs : Nat
  ageMs : Nat
  lastBegun : Begun
  lastCarousel : Option CarouselId
  mainQ : List QEntry
  expQ : List QEntry
  registry : List RegEntry
  drains : List DrainRec
  nulls : List Bool
  deriving DecidableEq, Repr

/-- A packet in progress on a feed: its bytes, the slot instant at which it was begun and the region's next slot
instant, at which it ends (R160). -/
structure FeedOut where
  packet : Packet
  begun : Clock
  ends : Clock
  deriving DecidableEq, Repr

/-- A feed: its binding, and the packet in progress; idle when there is none (R160). -/
structure Feed where
  bound : Option RegionId
  out : Option FeedOut
  deriving DecidableEq, Repr

/-! ## Carousels (chapter 9) -/

/-- Whether cycles go on (9.1). -/
inductive CarMode where
  | continuous
  | single
  deriving DecidableEq, Repr

/-- The state of a carousel (9.1). -/
inductive CarState where
  | idle
  | running
  | done
  deriving DecidableEq, Repr

/-- The carousel record (9.1). The interval deadline carries the mark `reached` of a late cycle (R172). -/
structure Carousel where
  region : Option RegionId
  intervalMs : Nat
  mode : CarMode
  state : CarState
  live : List Packet
  building : List Packet
  swapPending : Bool
  cursor : Option Nat
  cycleStart : Option Clock
  interval : Option (Deadline × Bool)
  deriving DecidableEq, Repr

/-! ## Capture (chapter 10) -/

/-- Why a packet was captured (10.1). -/
inductive CapReason where
  | component
  | unmatched
  | unadmitted
  deriving DecidableEq, Repr

/-- A capture entry (10.1). -/
structure CapEntry where
  buf : Nat
  reason : CapReason
  port : PortId
  arrival : Clock
  deriving DecidableEq, Repr

/-! ## Control links and reporting (chapter 11) -/

/-- The result codes of R188. -/
inductive Result where
  | ok
  | unsupported
  | notPermitted
  | badField
  | inUse
  | full
  | duplicate
  | unknown
  | claimed
  | tooLate
  | notReady
  | conflict
  | notDue
  | wrongPolicy
  | empty
  | busy
  deriving DecidableEq, Repr

/-- The object references of R200. -/
inductive ObjRef where
  | port (p : PortId)
  | component (c : ComponentId)
  | meter (m : MeterId)
  | slot (sl : SlotId)
  | slotRole (sl : SlotId) (r : RoleId)
  | variant (v : VariantId)
  | cue (id : Nat)
  | region (g : RegionId)
  | route (g : RegionId) (sl : SlotId)
  | feed (fd : FeedId)
  | carousel (k : CarouselId)
  | tally (t : TallyId)
  | link (l : Link)
  | owner (o : Nat)
  | reason (n : Nat)
  deriving DecidableEq, Repr

/-- The causes of 11.4.1, in the order of their codes. -/
inductive Cause where
  | continuityGap
  | meterExcess
  | expendableOverflow
  | ageDiscard
  | carouselLate
  | captureOverflow
  | linkFrame
  | syncLost
  | variantStarved
  | forcedSplice
  | mainOverflow
  | lateDiscard
  | nationalSyncLost
  | poolEmpty
  | refused (r : Result)
  deriving DecidableEq, Repr

/-- A flag for each of the four event classes: the detected flags (R194) and the report enables of a link (R197). -/
structure ClassSet where
  note : Bool
  degraded : Bool
  fault : Bool
  refused : Bool
  deriving DecidableEq, Repr

/-- The cause of a reset (R198). -/
inductive ResetCause where
  | powerOn
  | request
  deriving DecidableEq, Repr

/-- The causes of a ROUTE_CHANGE notice (R133). -/
inductive RouteCause where
  | cue
  | take
  | mark
  | deadline
  | confirm
  | cancel
  | hold
  | free
  | starved
  | healthy
  deriving DecidableEq, Repr

/-- The causes of a VARIANT_HEALTH notice (R92). -/
inductive HealthCause where
  | written
  | anchorArrival
  | starvationExpiry
  | recoveryExpiry
  | portLost
  | portUnadmitted
  deriving DecidableEq, Repr

/-- Whom an outcome goes to: a cue, by its id, or a take (R118). -/
inductive Waiter where
  | cue (id : Nat)
  | take
  deriving DecidableEq, Repr

/-- An outcome and whom it goes to. -/
abbrev Given := CueOutcome × Waiter

/-- A notice waiting in a notice queue (R191), with the content its owning rule gives. -/
inductive Notice where
  /-- R198 -/
  | ready (cause : ResetCause)
  /-- R194: cause, object, time and repeat count -/
  | event (cause : Cause) (obj : ObjRef) (time : Clock) (rep : Nat)
  /-- R133: the route after the event, its cause, the outcome given, the SUPERSEDED given to an earlier wait, the time -/
  | routeChange (g : RegionId) (sl : SlotId) (route : Route) (cause : RouteCause)
      (given : Option Given) (earlier : Option Given) (time : Clock)
  /-- R92 -/
  | variantHealth (v : VariantId) (before after : Health) (cause : HealthCause) (time : Clock)
  /-- R39 -/
  | portState (p : PortId) (run : PortRun) (admission : Admission) (flags : PortFlags) (fifo : Nat)
  /-- R102: the completed cue with its outcomes, and the due time of its next occurrence; absent when it is removed -/
  | cueDone (c : Cue) (next : Option Nat)
  /-- R181 -/
  | captureReady (count : Nat) (time : Clock)
  deriving DecidableEq, Repr

/-- A reply waiting in a reply queue: the request's kind and tag, and the body, which begins with the result (R188). -/
structure Reply where
  kind : Byte
  tag : Byte
  body : List Byte
  deriving DecidableEq, Repr

/-- The frame a transmitter is sending, as the bytes that leave, and whether it is the RESET reply (R190, R198). -/
structure Sending where
  bytes : List Byte
  resetReply : Bool
  deriving DecidableEq, Repr

/-- A control link (chapter 11). `rx` is absent while the receiver hunts, and holds the bytes received after the marker
while it is in a frame; `rxLast` is the time of the last byte of that frame (R186). -/
structure LinkState where
  rx : Option (List Byte)
  rxLast : Clock
  requests : List Frame
  replies : List Reply
  notices : List Notice
  lost : Bool
  enables : ClassSet
  tx : Option Sending
  deriving DecidableEq, Repr

/-! ## The whole part -/

/-- The state of the RM824. -/
structure State where
  /-- The local clock (R12). -/
  clock : Clock
  /-- The station time offset; absent while station time is unset (R14). -/
  offset : Option Nat
  ports : Vector Port 12
  /-- The port the classifier served last (R41). -/
  lastServed : PortId
  /-- The component table; a FREE entry is absent (R44). -/
  components : Vector (Option Component) 256
  /-- The pool buffers in use; the others are free (R60). -/
  pool : List Buffer
  meters : Vector Meter 32
  slots : Vector (Option SlotDef) 24
  variants : Vector (Option VariantDef) 48
  /-- The switch schedule, in schedule order (R93). -/
  cues : List Cue
  /-- The insertion counter (R93). -/
  insertion : Nat
  /-- The change count of the schedule (R93). -/
  changes : BitVec 16
  /-- The model's own: the cues still to be dealt with by the event in progress (R98); empty between events. -/
  falling : List Nat
  /-- The routes, by region and then slot (R115). -/
  routes : Vector (Vector Route 24) 8
  /-- The route each tally line is bound to (R134). -/
  tallies : Vector (Option (RegionId × SlotId)) 8
  /-- The claimant of each region (R136). -/
  claims : Vector (Option Nat) 8
  regions : Vector Region 8
  feeds : Vector Feed 16
  carousels : Vector Carousel 32
  /-- The capture ring, oldest first (R178). -/
  capture : List CapEntry
  /-- The management link. -/
  mgmt : LinkState
  /-- The cue link. -/
  cueLink : LinkState
  /-- The four detected flags (R194). -/
  detected : ClassSet
  /-- A RESET request has been taken and its reply is not yet sent (R198). -/
  resetting : Bool
  /-- The model's own: how many free choices between events of one tick have been made. -/
  races : Nat
  /-- The model's own: the commands that wait, first in, first out. -/
  pending : List Instr
  deriving DecidableEq, Repr

/-- There is no fault: the manual gives the part no condition in which it stops. -/
inductive Fault where
  deriving DecidableEq

/-- Why a command has no meaning. -/
inductive Refusal where
  /-- Raised by `exec` for a command that has no meaning yet; safe, since no claim can be proved of such a step. No arm
  of `exec` answers with it. -/
  | notModelled (mnemonic : String)
  deriving DecidableEq, Repr

/-! ## Reset -/

/-- A port after a reset (R21). -/
def Port.reset : Port :=
  { run := .stopped, admission := .notAdmitted, unadmitted := .discard, unmatched := .discard, fifo := [],
    flags := { syncLost := false, overrun := false, continuity := false, errorFlagged := false } }

/-- A route after a reset (R115). -/
def Route.reset : Route :=
  { current := .national, intended := .national, state := .steady, hold := false, markPending := false }

/-- A region after a reset (R141). -/
def Region.reset : Region :=
  { clk := none, rate := 20000000, pendingRate := none, mode := .fixed, delayMs := 200, ageMs := 500,
    lastBegun := .null, lastCarousel := none, mainQ := [], expQ := [], registry := [], drains := [], nulls := [] }

/-- A carousel after a reset (R163). -/
def Carousel.reset : Carousel :=
  { region := none, intervalMs := 1000, mode := .continuous, state := .idle, live := [], building := [],
    swapPending := false, cursor := none, cycleStart := none, interval := none }

/-- A link after a reset, with its report enables and READY as the first notice (R198). -/
def LinkState.reset (cause : ResetCause) (enables : ClassSet) : LinkState :=
  { rx := none, rxLast := 0, requests := [], replies := [], notices := [.ready cause], lost := false,
    enables := enables, tx := none }

/-- The part right after a reset of the given cause (R12, R14, R21, R41, R44, R60, R64, R74, R81, R93, R115, R134,
R136, R141, R160, R163, R178, R198). -/
def State.resetBy (cause : ResetCause) : State :=
  { clock := 0
    offset := none
    ports := Vector.replicate 12 Port.reset
    lastServed := 11
    components := Vector.replicate 256 none
    pool := []
    meters := Vector.replicate 32 { defn := none, excess := false }
    slots := Vector.replicate 24 none
    variants := Vector.replicate 48 none
    cues := []
    insertion := 0
    changes := 0
    falling := []
    routes := Vector.replicate 8 (Vector.replicate 24 Route.reset)
    tallies := Vector.replicate 8 none
    claims := Vector.replicate 8 none
    regions := Vector.replicate 8 Region.reset
    feeds := Vector.replicate 16 { bound := none, out := none }
    carousels := Vector.replicate 32 Carousel.reset
    capture := []
    mgmt := LinkState.reset cause { note := true, degraded := true, fault := true, refused := true }
    cueLink := LinkState.reset cause { note := false, degraded := true, fault := true, refused := false }
    detected := { note := false, degraded := false, fault := false, refused := false }
    resetting := false
    races := 0
    pending := [] }

/-- The part right after a power-on reset. -/
def State.reset : State := State.resetBy .powerOn

end Sys2Proof.Machine
end

