-- ==== Sys2Proof/Machine/Ops.lean ====
section
/-!
DEFINITION. The operations that every block shares: reading and writing one record of a table, lists of indices, the
local clock, deadlines, station time, and the reference counts of the packet pool.
-/
namespace Sys2Proof.Machine

/-! ## Records of the state -/

/-- The record of a port. -/
def State.port (s : State) (p : PortId) : Port := s.ports[p]
/-- The entry of a component; absent when FREE. -/
def State.component (s : State) (c : ComponentId) : Option Component := s.components[c]
/-- The record of a meter. -/
def State.meter (s : State) (m : MeterId) : Meter := s.meters[m]
/-- The record of a slot; absent when UNDEFINED. -/
def State.slot (s : State) (sl : SlotId) : Option SlotDef := s.slots[sl]
/-- The record of a variant; absent when UNDEFINED. -/
def State.variant (s : State) (v : VariantId) : Option VariantDef := s.variants[v]
/-- The route of a region and slot. -/
def State.route (s : State) (g : RegionId) (sl : SlotId) : Route := s.routes[g][sl]
/-- The record of a region. -/
def State.region (s : State) (g : RegionId) : Region := s.regions[g]
/-- The record of a feed. -/
def State.feed (s : State) (fd : FeedId) : Feed := s.feeds[fd]
/-- The record of a carousel. -/
def State.carousel (s : State) (k : CarouselId) : Carousel := s.carousels[k]
/-- The state of a link. -/
def State.link (s : State) : Link → LinkState
  | .management => s.mgmt
  | .cue => s.cueLink

def State.setPort (s : State) (p : PortId) (x : Port) : State := { s with ports := s.ports.set p x }
def State.setComponent (s : State) (c : ComponentId) (x : Option Component) : State :=
  { s with components := s.components.set c x }
def State.setMeter (s : State) (m : MeterId) (x : Meter) : State := { s with meters := s.meters.set m x }
def State.setSlot (s : State) (sl : SlotId) (x : Option SlotDef) : State := { s with slots := s.slots.set sl x }
def State.setVariant (s : State) (v : VariantId) (x : Option VariantDef) : State :=
  { s with variants := s.variants.set v x }
def State.setRoute (s : State) (g : RegionId) (sl : SlotId) (x : Route) : State :=
  { s with routes := s.routes.set g (s.routes[g].set sl x) }
def State.setRegion (s : State) (g : RegionId) (x : Region) : State := { s with regions := s.regions.set g x }
def State.setFeed (s : State) (fd : FeedId) (x : Feed) : State := { s with feeds := s.feeds.set fd x }
def State.setCarousel (s : State) (k : CarouselId) (x : Carousel) : State :=
  { s with carousels := s.carousels.set k x }
def State.setLink (s : State) : Link → LinkState → State
  | .management, x => { s with mgmt := x }
  | .cue, x => { s with cueLink := x }

/-! ## Index lists -/

/-- The members of a region mask in ascending order. -/
def regionsOf (mask : RegionMask) : List RegionId := (List.finRange 8).filter fun g => mask.getLsbD g

/-- Every index once, beginning with the one after `k` and going round to `k` itself (R41, R150). -/
def roundFrom {n : Nat} (k : Fin n) : List (Fin n) :=
  (List.finRange n).filter (fun i => k < i) ++ (List.finRange n).filter (fun i => i ≤ k)

/-- Every route's region and slot. -/
def allRoutes : List (RegionId × SlotId) := (List.finRange 8).flatMap fun g => (List.finRange 24).map fun sl => (g, sl)

/-! ## Time -/

/-- A duration in ticks (R13). -/
def msTicks (ms : Nat) : Nat := ms * Config.ticksPerMs

/-- A value brought into a range, as numeric settings are (R65, R82, R95, R142, R165). -/
def clamp (lo hi x : Nat) : Nat := min hi (max lo x)

/-- The ticks from an earlier to a later local clock value, modulo 2^48 (R12). -/
def elapsed (later earlier : Clock) : Nat := (later - earlier).toNat

/-- A deadline is reached once the ticks since it was set equal or exceed its length (R13). -/
def Deadline.reached (d : Deadline) (now : Clock) : Bool := decide (d.len ≤ elapsed now d.set)

/-- The ticks that remain to a deadline. -/
def Deadline.remaining (d : Deadline) (now : Clock) : Nat := d.len - elapsed now d.set

/-- The local clock value of a deadline. -/
def Deadline.value (d : Deadline) : Clock := d.set + BitVec.ofNat 48 d.len

/-- Station time as a station tick count; absent while unset (R14). -/
def State.station (s : State) : Option Nat := s.offset.map fun o => (s.clock.toNat + o) % Config.stationSpan

/-- The lateness of a due time at a station time (R94). -/
def lateness (now due : Nat) : Nat := (now + (Config.stationSpan - due % Config.stationSpan)) % Config.stationSpan

/-- A due time advanced by the smallest whole number of days that puts it in the future, when it is `late` ticks in the
past (R94, R97, R103, R112). -/
def advanceDue (due late : Nat) : Nat := (due + (late / Config.dayTicks + 1) * Config.dayTicks) % Config.stationSpan

/-! ## The packet pool -/

/-- The number of free pool buffers (R60). -/
def State.poolFree (s : State) : Nat := Config.poolCap - s.pool.length

/-- The lowest number that no buffer in use has. -/
def freshBuffer (pool : List Buffer) : Nat :=
  ((List.range (pool.length + 1)).find? fun n => pool.all fun b => b.id != n).getD pool.length

/-- The packet held by a buffer. -/
def bufferPacket (pool : List Buffer) (id : Nat) : Packet :=
  ((pool.find? fun b => b.id == id).map Buffer.packet).getD []

/-- One reference to a buffer is dropped; the drop that brings the count to 0 makes the buffer free (R63). -/
def dropRef (id : Nat) (pool : List Buffer) : List Buffer :=
  pool.filterMap fun b =>
    if b.id == id then (if b.refs ≤ 1 then none else some { b with refs := b.refs - 1 }) else some b

/-- The number of free buffers of carousel memory (R164). -/
def State.carouselFree (s : State) : Nat :=
  Config.carouselCap - s.carousels.toList.foldl (fun n k => n + k.live.length + k.building.length) 0

end Sys2Proof.Machine
end

