-- ==== Sys2Proof/Machine/Operands.lean ====
section
/-!
DEFINITION. The coding of message bodies (R200): how numbers, indices, sets, enumerations, sources, optional fields,
lists and object references become bytes, and how a request body is read back.
-/
namespace Sys2Proof.Machine

/-! ## Writing -/

/-- A number in `k` bytes, high byte first. -/
def be : Nat → Nat → List Byte
  | 0, _ => []
  | k + 1, n => BitVec.ofNat 8 (n / 256 ^ k) :: be k n

/-- A one-byte index, code or small number. -/
def e1 (n : Nat) : List Byte := be 1 n
/-- A two-byte count, identifier, mask, cue id or station day. -/
def e2 (n : Nat) : List Byte := be 2 n
/-- A four-byte rate, duration, count of bytes, insertion number, slot index or count of null packets. -/
def e4 (n : Nat) : List Byte := be 4 n
/-- A six-byte local clock value, count of ticks or meter credit. -/
def e6 (n : Nat) : List Byte := be 6 n

/-- A single flag: 0 clear, 1 set (log entry 9). -/
def eFlag (b : Bool) : List Byte := e1 b.toNat

/-- An optional field: a presence byte, then the field when present. -/
def eOpt {α : Type} (f : α → List Byte) : Option α → List Byte
  | none => [0]
  | some a => 1 :: f a

/-- A list: a count byte, then the entries. -/
def eList {α : Type} (f : α → List Byte) (l : List α) : List Byte := e1 l.length ++ l.flatMap f

/-- A local clock value. -/
def eClock (c : Clock) : List Byte := e6 c.toNat

/-- A station tick count as station day and day tick (R14). -/
def eStation (n : Nat) : List Byte := e2 (n / Config.dayTicks) ++ e6 (n % Config.dayTicks)

/-- A set of up to four items: bit n for the n-th item. -/
def eSet (a b c d : Bool) : List Byte := e1 (a.toNat + 2 * b.toNat + 4 * c.toNat + 8 * d.toNat)

/-- A set of event classes. -/
def eClasses (c : ClassSet) : List Byte := eSet c.note c.degraded c.fault c.refused

/-- The four sticky flags of a port. -/
def eFlags (f : PortFlags) : List Byte := eSet f.syncLost f.overrun f.continuity f.errorFlagged

/-- A source: 0..47 the variant, 0xFE BLANK, 0xFF NATIONAL. -/
def Source.code : Source → Nat
  | .national => 0xFF
  | .variant v => v
  | .blank => 0xFE

/-- The source that a target names. -/
def Target.source : Target → Source
  | .national => .national
  | .variant v => .variant v

/-- The source that a fallback names. -/
def Fallback.source : Fallback → Source
  | .national => .national
  | .blank => .blank

def eSource (x : Source) : List Byte := e1 x.code
def eTarget (x : Target) : List Byte := eSource x.source

/-- MANAGEMENT, CUE (R200). -/
def linkCode : Link → Nat
  | .management => 0
  | .cue => 1

def Admission.code : Admission → Nat
  | .admitted => 0
  | .notAdmitted => 1

def Policy.code : Policy → Nat
  | .discard => 0
  | .capture => 1

def PortRun.code : PortRun → Nat
  | .stopped => 0
  | .search => 1
  | .verify _ _ => 2
  | .locked _ _ _ => 3

def CompClass.code : CompClass → Nat
  | .essential => 0
  | .expendable => 1

def Counting.code : Counting → Nat
  | .full => 0
  | .payload => 1

def Health.code : Health → Nat
  | .healthy => 0
  | .starved => 1
  | .recovering => 2

def RouteState.code : RouteState → Nat
  | .steady => 0
  | .pendingSplice _ _ _ => 1
  | .awaitConfirm _ _ _ => 2
  | .fallback => 3
  | .returning _ _ => 4

def SwitchPolicy.code : SwitchPolicy → Nat
  | .immediate => 0
  | .atMark => 1
  | .onConfirm => 2

def Repeat.code : Repeat → Nat
  | .once => 0
  | .daily => 1

def CueState.code : CueState → Nat
  | .pending => 0
  | .active => 1

def CueOutcome.code : CueOutcome → Nat
  | .none => 0
  | .switched => 1
  | .forced => 2
  | .noChange => 3
  | .held => 4
  | .fallback => 5
  | .expired => 6
  | .superseded => 7
  | .cancelled => 8

def ArbiterMode.code : ArbiterMode → Nat
  | .fixed => 0
  | .rotate => 1

def CarMode.code : CarMode → Nat
  | .continuous => 0
  | .single => 1

def CarState.code : CarState → Nat
  | .idle => 0
  | .running => 1
  | .done => 2

def CapReason.code : CapReason → Nat
  | .component => 0
  | .unmatched => 1
  | .unadmitted => 2

def ResetCause.code : ResetCause → Nat
  | .powerOn => 0
  | .request => 1

def RouteCause.code : RouteCause → Nat
  | .cue => 0
  | .take => 1
  | .mark => 2
  | .deadline => 3
  | .confirm => 4
  | .cancel => 5
  | .hold => 6
  | .free => 7
  | .starved => 8
  | .healthy => 9

def HealthCause.code : HealthCause → Nat
  | .written => 0
  | .anchorArrival => 1
  | .starvationExpiry => 2
  | .recoveryExpiry => 3
  | .portLost => 4
  | .portUnadmitted => 5

/-- The result codes of R188. Code 14 is reserved. -/
def Result.code : Result → Nat
  | .ok => 0
  | .unsupported => 1
  | .notPermitted => 2
  | .badField => 3
  | .inUse => 4
  | .full => 5
  | .duplicate => 6
  | .unknown => 7
  | .claimed => 8
  | .tooLate => 9
  | .notReady => 10
  | .conflict => 11
  | .notDue => 12
  | .wrongPolicy => 13
  | .empty => 15
  | .busy => 16

/-- The cause codes of 11.4.1; a REFUSED event carries the refusal's result code. -/
def Cause.code : Cause → Nat
  | .continuityGap => 1
  | .meterExcess => 2
  | .expendableOverflow => 3
  | .ageDiscard => 4
  | .carouselLate => 5
  | .captureOverflow => 6
  | .linkFrame => 7
  | .syncLost => 8
  | .variantStarved => 9
  | .forcedSplice => 10
  | .mainOverflow => 11
  | .lateDiscard => 12
  | .nationalSyncLost => 13
  | .poolEmpty => 14
  | .refused r => r.code

/-- The four event classes, in the order of their codes (11.4). -/
inductive EventClass where
  | note
  | degraded
  | fault
  | refused
  deriving DecidableEq, Repr

/-- The class of each cause (11.4.1). -/
def Cause.cls : Cause → EventClass
  | .continuityGap | .meterExcess | .expendableOverflow | .ageDiscard | .carouselLate | .captureOverflow
  | .linkFrame => .note
  | .syncLost | .variantStarved | .forcedSplice | .mainOverflow | .lateDiscard => .degraded
  | .nationalSyncLost | .poolEmpty => .fault
  | .refused _ => .refused

def EventClass.code : EventClass → Nat
  | .note => 0
  | .degraded => 1
  | .fault => 2
  | .refused => 3

/-- An object reference: the type code, then three bytes of index (R200). -/
def eObj : ObjRef → List Byte
  | .port p => e1 1 ++ e1 p ++ [0, 0]
  | .component c => e1 2 ++ e1 c ++ [0, 0]
  | .meter m => e1 3 ++ e1 m ++ [0, 0]
  | .slot sl => e1 4 ++ e1 sl ++ [0, 0]
  | .slotRole sl r => e1 5 ++ e1 sl ++ e1 r ++ [0]
  | .variant v => e1 6 ++ e1 v ++ [0, 0]
  | .cue id => e1 7 ++ e2 id ++ [0]
  | .region g => e1 8 ++ e1 g ++ [0, 0]
  | .route g sl => e1 9 ++ e1 g ++ e1 sl ++ [0]
  | .feed fd => e1 10 ++ e1 fd ++ [0, 0]
  | .carousel k => e1 11 ++ e1 k ++ [0, 0]
  | .tally t => e1 12 ++ e1 t ++ [0, 0]
  | .link l => e1 13 ++ e1 (linkCode l) ++ [0, 0]
  | .owner o => e1 14 ++ e1 o ++ [0, 0]
  | .reason n => e1 15 ++ e1 n ++ [0, 0]

/-- The object reference of a definer (R157). -/
def Definer.obj : Definer → ObjRef
  | .slotRole sl r => .slotRole sl r
  | .component c => .component c
  | .carousel k => .carousel k

/-! ## Reading -/

/-- A reader takes an item from the front of a body and leaves the rest; it fails where R200 or the owning rule's range
does not allow what stands there, and the request is then refused BAD_FIELD (R188). -/
abbrev Reader (α : Type) := List Byte → Option (α × List Byte)

/-- A number of `k` bytes, high byte first, added to what has been read. -/
def rNatFrom : Nat → Nat → Reader Nat
  | 0, n, b => some (n, b)
  | k + 1, n, x :: b => rNatFrom k (n * 256 + x.toNat) b
  | _ + 1, _, [] => none

/-- A number of `k` bytes, high byte first. -/
def rNat (k : Nat) : Reader Nat := rNatFrom k 0

/-- An index below `n`. -/
def rIndex (n : Nat) : Reader (Fin n) := fun b =>
  match b with
  | x :: rest => if h : x.toNat < n then some (⟨x.toNat, h⟩, rest) else none
  | [] => none

/-- A byte whose value is its position in a list of values. -/
def rEnum {α : Type} (values : List α) : Reader α := fun b =>
  match b with
  | x :: rest => (values[x.toNat]?).map fun v => (v, rest)
  | [] => none

/-- A single flag (log entry 9). -/
def rFlag : Reader Bool := rEnum [false, true]

/-- A byte of bits. -/
def rByte : Reader Byte := fun b =>
  match b with
  | x :: rest => some (x, rest)
  | [] => none

/-- A set of at most four items; a bit beyond them is refused. -/
def rSet4 : Reader Byte := fun b =>
  match b with
  | x :: rest => if x.toNat < 16 then some (x, rest) else none
  | [] => none

/-- An identifier or mask of 13 bits in two bytes (R45). -/
def rIdent : Reader Ident := fun b =>
  match rNat 2 b with
  | some (n, rest) => if n < 8192 then some (BitVec.ofNat 13 n, rest) else none
  | none => none

/-- An optional field. -/
def rOpt {α : Type} (r : Reader α) : Reader (Option α) := fun b =>
  match b with
  | x :: rest =>
    if x = 0 then some (none, rest)
    else if x = 1 then (r rest).map fun y => (some y.1, y.2)
    else none
  | [] => none

/-- `n` items in a row. -/
def rMany {α : Type} (r : Reader α) : Nat → Reader (List α)
  | 0, b => some ([], b)
  | n + 1, b =>
    match r b with
    | some (x, rest) => (rMany r n rest).map fun y => (x :: y.1, y.2)
    | none => none

/-- A list of at most `most` items behind its count byte. -/
def rList {α : Type} (most : Nat) (r : Reader α) : Reader (List α) := fun b =>
  match b with
  | x :: rest => if x.toNat ≤ most then rMany r x.toNat rest else none
  | [] => none

/-- A target: a variant or NATIONAL; BLANK and other codes are refused (R95, R129). -/
def rTarget : Reader Target := fun b =>
  match b with
  | x :: rest =>
    if x = 0xFF then some (.national, rest)
    else if h : x.toNat < 48 then some (.variant ⟨x.toNat, h⟩, rest) else none
  | [] => none

/-- A fallback, coded as the source it is (R82, log entry 11). -/
def rFallback : Reader Fallback := fun b =>
  match b with
  | x :: rest => if x = 0xFF then some (.national, rest) else if x = 0xFE then some (.blank, rest) else none
  | [] => none

/-- A station time; a day tick above the last of the day is refused (R17, R95). -/
def rStation : Reader Nat := fun b =>
  match rNat 2 b with
  | none => none
  | some (day, b1) =>
    match rNat 6 b1 with
    | none => none
    | some (tick, b2) => if tick < Config.dayTicks then some (day * Config.dayTicks + tick, b2) else none

/-- A packet of 188 bytes (R166). -/
def rPacket : Reader Packet := fun b => if b.length < 188 then none else some (b.take 188, b.drop 188)

/-- One item after another. -/
def rThen {α β : Type} (r : Reader α) (q : Reader β) : Reader (α × β) := fun b =>
  match r b with
  | some (x, rest) => (q rest).map fun y => ((x, y.1), y.2)
  | none => none

/-- An item that must satisfy a condition of its owning rule. -/
def rWhen {α : Type} (r : Reader α) (ok : α → Bool) : Reader α := fun b =>
  match r b with
  | some (x, rest) => if ok x then some (x, rest) else none
  | none => none

/-- The whole of a body: what a reader takes, with nothing left over. -/
def readAll {α : Type} (r : Reader α) (b : List Byte) : Option α :=
  match r b with
  | some (x, []) => some x
  | _ => none

/-- A body without fields. -/
def rNothing : Reader Unit := fun b => some ((), b)

end Sys2Proof.Machine
end

