-- ==== Sys2Proof/Machine/Flags.lean ====
section
/-!
DEFINITION. Reporting: the detected flags and report enables, the placing of notices, events, and the sticky flags of
the ports (11.3, 11.4, 2.5).
-/
namespace Sys2Proof.Machine

/-! ## Event classes -/

/-- The flag of a class. -/
def ClassSet.has (c : ClassSet) : EventClass → Bool
  | .note => c.note
  | .degraded => c.degraded
  | .fault => c.fault
  | .refused => c.refused

/-- The set with the flag of a class set. -/
def ClassSet.with (c : ClassSet) : EventClass → ClassSet
  | .note => { c with note := true }
  | .degraded => { c with degraded := true }
  | .fault => { c with fault := true }
  | .refused => { c with refused := true }

/-- The set without the classes named by the bits of a set byte (R196). -/
def ClassSet.without (c : ClassSet) (b : Byte) : ClassSet :=
  { note := c.note && !b.getLsbD 0, degraded := c.degraded && !b.getLsbD 1,
    fault := c.fault && !b.getLsbD 2, refused := c.refused && !b.getLsbD 3 }

/-- The set whose flags are the bits of a set byte (R197). -/
def ClassSet.ofByte (b : Byte) : ClassSet :=
  { note := b.getLsbD 0, degraded := b.getLsbD 1, fault := b.getLsbD 2, refused := b.getLsbD 3 }

/-! ## Notices -/

/-- Whether two notices have the same kind and coalescing key (R191). READY has no key. -/
def Notice.sameKey : Notice → Notice → Bool
  | .event c o _ _, .event c' o' _ _ => decide (c = c') && decide (o = o')
  | .routeChange g sl _ _ _ _ _, .routeChange g' sl' _ _ _ _ _ => decide (g = g') && decide (sl = sl')
  | .variantHealth v _ _ _ _, .variantHealth v' _ _ _ _ => decide (v = v')
  | .portState p _ _ _ _, .portState p' _ _ _ _ => decide (p = p')
  | .cueDone c _, .cueDone c' _ => decide (c.id = c'.id)
  | .captureReady _ _, .captureReady _ _ => true
  | _, _ => false

/-- The content of a new notice in the place of a waiting one: for an event the repeat count is the waiting one's plus
one, up to 255 (R192, R194). -/
def Notice.over (new old : Notice) : Notice :=
  match new, old with
  | .event c o t _, .event _ _ _ rep => .event c o t (min 255 (rep + 1))
  | n, _ => n

/-- The queue with the waiting notice of the same key replaced in place; absent when none waits (R192). -/
def replaceWaiting (new : Notice) : List Notice → Option (List Notice)
  | [] => none
  | old :: rest => if new.sameKey old then some (new.over old :: rest) else (replaceWaiting new rest).map (old :: ·)

/-- A notice is placed in a link's notice queue: it replaces, joins, or is dropped and sets the lost flag
(R192, R193). -/
def LinkState.place (k : LinkState) (new : Notice) : LinkState :=
  match replaceWaiting new k.notices with
  | some q => { k with notices := q }
  | none => if k.notices.length < Config.noticeCap then { k with notices := k.notices ++ [new] } else { k with lost := true }

/-- A notice that goes to the management link alone (R191). -/
def notifyMgmt (n : Notice) (s : State) : State := { s with mgmt := s.mgmt.place n }

/-- A notice that goes to both links (R191). -/
def notifyBoth (n : Notice) (s : State) : State := { s with mgmt := s.mgmt.place n, cueLink := s.cueLink.place n }

/-- An EVENT notice is placed on a link whose report enable for its class is on (R194). -/
def LinkState.placeEvent (k : LinkState) (c : Cause) (o : ObjRef) (now : Clock) : LinkState :=
  if k.enables.has c.cls then k.place (.event c o now 1) else k

/-- An event is raised: its class's detected flag is set, and an EVENT notice goes to each link whose report enable for
the class is on (R194). -/
def raiseEvent (c : Cause) (o : ObjRef) (s : State) : State :=
  { s with
    detected := s.detected.with c.cls
    mgmt := s.mgmt.placeEvent c o s.clock
    cueLink := s.cueLink.placeEvent c o s.clock }

/-! ## Port flags and PORT_STATE -/

/-- The number of packets in a port's FIFO. -/
def Port.occupancy (p : Port) : Nat := p.fifo.length

/-- The good-sync count of a port: 0 outside VERIFY (2.1). -/
def Port.goodSync (p : Port) : Nat :=
  match p.run with
  | .verify good _ => good
  | .stopped | .search | .locked _ _ _ => 0

/-- The bad-sync count of a port: 0 outside LOCKED (2.1). -/
def Port.badSync (p : Port) : Nat :=
  match p.run with
  | .locked bad _ _ => bad
  | .stopped | .search | .verify _ _ => 0

/-- Whether a port is LOCKED. -/
def Port.isLocked (p : Port) : Bool :=
  match p.run with
  | .locked _ _ _ => true
  | .stopped | .search | .verify _ _ => false

/-- The sticky flags without those named by the bits of a set byte (R38). -/
def PortFlags.without (f : PortFlags) (b : Byte) : PortFlags :=
  { syncLost := f.syncLost && !b.getLsbD 0, overrun := f.overrun && !b.getLsbD 1,
    continuity := f.continuity && !b.getLsbD 2, errorFlagged := f.errorFlagged && !b.getLsbD 3 }

/-- The PORT_STATE notice of a port as it stands (R39). -/
def portNotice (p : PortId) (s : State) : Notice :=
  .portState p (s.port p).run (s.port p).admission (s.port p).flags (s.port p).occupancy

/-- A PORT_STATE notice is sent on the management link (R39). -/
def notifyPort (p : PortId) (s : State) : State := notifyMgmt (portNotice p s) s

/-- A sticky flag is set; going from clear to set it sends a PORT_STATE notice (R37, R39). `f` sets the flag. -/
def raiseFlag (p : PortId) (f : PortFlags → PortFlags) (s : State) : State :=
  let old := s.port p
  let s1 := s.setPort p { old with flags := f old.flags }
  if f old.flags = old.flags then s1 else notifyPort p s1

/-- The CONTINUITY flag set. -/
def PortFlags.withContinuity (f : PortFlags) : PortFlags := { f with continuity := true }
/-- The OVERRUN flag set. -/
def PortFlags.withOverrun (f : PortFlags) : PortFlags := { f with overrun := true }
/-- The SYNC_LOST flag set. -/
def PortFlags.withSyncLost (f : PortFlags) : PortFlags := { f with syncLost := true }
/-- The ERROR_FLAGGED flag set where `e` says so. -/
def PortFlags.withError (f : PortFlags) (e : Bool) : PortFlags := { f with errorFlagged := f.errorFlagged || e }

end Sys2Proof.Machine
end

