-- ==== Sys2Proof/Machine/Links.lean ====
section
/-!
DEFINITION. The control links: the check of a frame, the receiver, the taking, answering and refusing of a request, the
coding of notices and the transmitter (11.1 to 11.3), and the effect of a reset (R198).
-/
namespace Sys2Proof.Machine

/-! ## Frames -/

/-- One bit shifted out of the check register (R185). -/
def crcShift (c : BitVec 16) : BitVec 16 := if c.getLsbD 15 then (c <<< 1) ^^^ 0x1021 else c <<< 1

/-- One byte fed into the check register, its most significant bit first (R185). -/
def crcByte (c : BitVec 16) (b : Byte) : BitVec 16 :=
  (List.range 8).foldl (fun r _ => crcShift r) (c ^^^ (b.setWidth 16 <<< 8))

/-- The check of a sequence of bytes: the register starts at 0xFFFF and is not inverted (R185). -/
def crc16 (bytes : List Byte) : BitVec 16 := bytes.foldl crcByte 0xFFFF

/-- The two bytes of a check, high byte first. -/
def checkBytes (bytes : List Byte) : List Byte := e2 (crc16 bytes).toNat

/-- The marker of a frame (R186). -/
def marker : Byte := 0xA5

/-- The bytes of a frame (R201). -/
def frameBytes (kind tag : Byte) (body : List Byte) : List Byte :=
  let covered := e2 body.length ++ [kind, tag] ++ body
  marker :: covered ++ checkBytes covered

/-! ## The receiver (R186) -/

/-- What the bytes after a marker amount to. -/
inductive FrameTry where
  | incomplete
  | tooLong
  | badCheck
  | good (f : Frame) (after : List Byte)
  deriving DecidableEq, Repr

/-- Reads a frame from the bytes after its marker. -/
def tryFrame : List Byte → FrameTry
  | hi :: lo :: more =>
    let len := hi.toNat * 256 + lo.toNat
    let rest := hi :: lo :: more
    if Config.bodyCap < len then .tooLong
    else if rest.length < len + 6 then .incomplete
    else if checkBytes (rest.take (len + 4)) = (rest.drop (len + 4)).take 2 then
      .good { kind := rest.getD 2 0, tag := rest.getD 3 0, body := (rest.drop 4).take len } (rest.drop (len + 6))
    else .badCheck
  | _ => .incomplete

/-- What a receiver finds in the bytes it examines: a good frame, or a discarded one. -/
inductive RxItem where
  | good (f : Frame)
  | discarded
  deriving DecidableEq, Repr

/-- A hunting receiver examines bytes in order. A discarded frame's bytes after its marker are examined again. The
result is what was found, in order, and the bytes of a frame still incomplete. The first argument bounds the number of
bytes examined. -/
def scanFrames : Nat → List Byte → List RxItem × Option (List Byte)
  | 0, _ => ([], none)
  | _ + 1, [] => ([], none)
  | n + 1, b :: rest =>
    if b ≠ marker then scanFrames n rest
    else
      match tryFrame rest with
      | .incomplete => ([], some rest)
      | .tooLong | .badCheck => (.discarded :: (scanFrames n rest).1, (scanFrames n rest).2)
      | .good f after => (.good f :: (scanFrames n after).1, (scanFrames n after).2)

/-! ## Replies and refusals (R187, R188, R190) -/

/-- A reply joins the link's reply queue. -/
def addReply (l : Link) (f : Frame) (body : List Byte) (s : State) : State :=
  s.setLink l { s.link l with replies := (s.link l).replies ++ [{ kind := f.kind, tag := f.tag, body := body }] }

/-- The body of a refusal: the result, then the objects that the owning rule names (R200). -/
def refusalBody (r : Result) (refs : List ObjRef) : List Byte := e1 r.code ++ eList eObj refs

/-- A request is refused: it changes nothing but its reply and the REFUSED event (R188, R194). -/
def refuse (l : Link) (f : Frame) (r : Result) (refs : List ObjRef) (s : State) : State :=
  raiseEvent (.refused r) (.link l) (addReply l f (refusalBody r refs) s)

/-- A good frame reaches the link's request handling: it is queued, or answered BUSY (R187, R190). -/
def acceptFrame (l : Link) (f : Frame) (s : State) : State :=
  if (s.link l).requests.length < Config.requestCap then
    s.setLink l { s.link l with requests := (s.link l).requests ++ [f] }
  else if (s.link l).replies.length < Config.replyCap then refuse l f .busy [] s
  else raiseEvent (.refused .busy) (.link l) s

/-- One thing the receiver found takes effect. -/
def acceptItem (l : Link) (s : State) : RxItem → State
  | .good f => acceptFrame l f s
  | .discarded => raiseEvent .linkFrame (.link l) s

/-- Whether more than 50 ms have passed since the last byte of a frame in progress (R186). -/
def LinkState.gapOver (k : LinkState) (now : Clock) : Bool :=
  k.rx.isSome && decide (Config.gapTicks < elapsed now k.rxLast)

/-- A partial frame whose gap exceeds 50 ms is discarded (R186). -/
def closeGap (l : Link) (s : State) : State :=
  if (s.link l).gapOver s.clock then raiseEvent .linkFrame (.link l) (s.setLink l { s.link l with rx := none }) else s

/-- The bytes the receiver has before it when a byte arrives. -/
def rxBytes (k : LinkState) (b : Byte) : List Byte :=
  match k.rx with
  | none => [b]
  | some buf => marker :: (buf ++ [b])

/-- A byte arrives on a link (R186). -/
def receiveByte (l : Link) (b : Byte) (s : State) : State :=
  let s0 := closeGap l s
  let bytes := rxBytes (s0.link l) b
  let found := scanFrames bytes.length bytes
  found.1.foldl (acceptItem l) (s0.setLink l { s0.link l with rx := found.2, rxLast := s0.clock })

/-! ## Taking a request (R187 to R190) -/

/-- The request kinds of R189. -/
def isRequestKind (k : Byte) : Bool :=
  decide (1 ≤ k.toNat ∧ k.toNat ≤ 0x17) || decide (0x1B ≤ k.toNat ∧ k.toNat ≤ 0x1E) ||
    decide (0x20 ≤ k.toNat ∧ k.toNat ≤ 0x36)

/-- The link takes the oldest request when its reply queue has room and no RESET waits to take effect
(R187, R190, R198). -/
def takeRequest (l : Link) (s : State) : Option (Frame × State) :=
  if s.resetting || decide (Config.replyCap ≤ (s.link l).replies.length) then none
  else
    match (s.link l).requests with
    | [] => none
    | f :: rest => some (f, s.setLink l { s.link l with requests := rest })

/-- What a block answers to a request: a refusal with the objects it names, or an OK reply's body after the result and
the state after the request. A refusal carries no state, so a refused request changes nothing (R188). -/
inductive Answer where
  | refused (r : Result) (refs : List ObjRef)
  | ok (body : List Byte) (s : State)

/-- The link's own checks and the owning block's answer to a taken request (R188). `mgmtOnly` says whether a body makes
the request one that the cue link refuses. -/
def answerRequest {α : Type} (l : Link) (mgmtOnly : List Byte → Bool) (parse : List Byte → Option α)
    (run : α → State → Answer) (f : Frame) (s : State) : State :=
  if decide (l = .cue) && mgmtOnly f.body then refuse l f .notPermitted [] s
  else
    match parse f.body with
    | none => refuse l f .badField [] s
    | some a =>
      match run a s with
      | .refused r refs => refuse l f r refs s
      | .ok body s' => addReply l f (0 :: body) s'

/-- One request command: when the oldest request that the link may take now is of this kind, it is taken and answered.
When it is not, the command's moment has not come and nothing happens (log entry 1). -/
def serve {α : Type} (l : Link) (kind : Byte) (mgmtOnly : List Byte → Bool) (parse : List Byte → Option α)
    (run : α → State → Answer) (s : State) : State :=
  match takeRequest l s with
  | none => s
  | some (f, s1) => if f.kind = kind then answerRequest l mgmtOnly parse run f s1 else s

/-- A request that either link may carry. -/
def bothLinks : List Byte → Bool := fun _ => false
/-- A request that the management link alone may carry. -/
def mgmtLink : List Byte → Bool := fun _ => true

/-! ## Notices as bytes (R191, R200) -/

/-- The pending target of a route (7.1). -/
def RouteState.target : RouteState → Option Target
  | .steady | .fallback => none
  | .pendingSplice t _ _ | .awaitConfirm t _ _ => some t
  | .returning v _ => some (.variant v)

/-- The code of the pending policy of a route: its place in the field's own list, AT_MARK 0, ON_CONFIRM 1 (7.1, R200). -/
def RouteState.policyCode : RouteState → Option Nat
  | .steady | .fallback | .returning _ _ => none
  | .pendingSplice _ _ _ => some 0
  | .awaitConfirm _ _ _ => some 1

/-- The pending cue id of a route (7.1). -/
def RouteState.cue : RouteState → Option Nat
  | .steady | .fallback | .returning _ _ => none
  | .pendingSplice _ c _ | .awaitConfirm _ c _ => c

/-- The deadline of a route (7.1). -/
def RouteState.deadline : RouteState → Option Deadline
  | .steady | .fallback => none
  | .pendingSplice _ _ d | .awaitConfirm _ _ d => some d
  | .returning _ d => some d

/-- An outcome and whom it goes to: the outcome, then the cue id as an optional field, absent for a take (R133, log
entry 13). -/
def eGiven (g : Given) : List Byte :=
  e1 g.1.code ++
    match g.2 with
    | .cue id => eOpt e2 (some id)
    | .take => eOpt e2 none

/-- A region with an outcome. -/
def eOutcome (x : RegionId × CueOutcome) : List Byte := e1 x.1 ++ e1 x.2.code

/-- The kind code of a notice (R191). -/
def Notice.kind : Notice → Byte
  | .ready _ => 0x81
  | .event _ _ _ _ => 0x82
  | .routeChange _ _ _ _ _ _ _ => 0x83
  | .variantHealth _ _ _ _ _ => 0x84
  | .portState _ _ _ _ _ => 0x85
  | .cueDone _ _ => 0x86
  | .captureReady _ _ => 0x87

/-- The content of a notice, in the order in which its owning rule lists it (R200). The mark "removed" of CUE_DONE is the
absence of the next due time (R102, log entry 13). DESIGN CHOICE: R133 gives ROUTE_CHANGE a first outcome and a second,
SUPERSEDED, and does not say which of the two holds a SUPERSEDED that is the event's only outcome, where the new cue or take
begins to wait; here the first is absent and the second holds it (log entry 13). -/
def eNotice : Notice → List Byte
  | .ready cause => e2 Config.partCode ++ [Config.siliconRevision] ++ e1 cause.code
  | .event c o t rep => e1 c.cls.code ++ e1 c.code ++ eObj o ++ eClock t ++ e1 rep
  | .routeChange g sl r cause given earlier t =>
    e1 g ++ e1 sl ++ e1 r.state.code ++ eSource r.current ++ eTarget r.intended ++ eOpt eTarget r.state.target ++
      eOpt e1 r.state.policyCode ++ eOpt e2 r.state.cue ++ eFlag r.hold ++ e1 cause.code ++
      eOpt eGiven given ++ eOpt eGiven earlier ++ eClock t
  | .variantHealth v before after cause t => e1 v ++ e1 before.code ++ e1 after.code ++ e1 cause.code ++ eClock t
  | .portState p run adm flags fifo => e1 p ++ e1 run.code ++ e1 adm.code ++ eFlags flags ++ e2 fifo
  | .cueDone c next =>
    e2 c.id ++ e1 c.owner ++ eStation c.due ++ e1 c.slot ++ eTarget c.target ++ e1 c.policy.code ++ e1 c.rpt.code ++
      eList eOutcome c.outcomes ++ eOpt eStation next
  | .captureReady count t => e2 count ++ eClock t

/-! ## The transmitter (R190, R193) -/

/-- Whether a reply on a link is the OK reply to the RESET that was taken (R198). -/
def isResetReply (l : Link) (r : Reply) (s : State) : Bool :=
  s.resetting && decide (l = .management) && decide (r.kind = 0x05) && decide (r.body = [0])

/-- A free transmitter begins the oldest reply, or else the oldest notice with the lost flag (R190, R193). A transmitter
that is sending, or that finds nothing to send, is left as it is. -/
def beginSend (l : Link) (s : State) : State :=
  let k := s.link l
  match k.tx with
  | some _ => s
  | none =>
    match k.replies with
    | r :: rest =>
      s.setLink l { k with
        replies := rest
        tx := some { bytes := frameBytes r.kind r.tag r.body, resetReply := isResetReply l r s } }
    | [] =>
      match k.notices with
      | n :: rest =>
        s.setLink l { k with
          notices := rest
          lost := false
          tx := some { bytes := frameBytes n.kind 0 (eFlag k.lost ++ eNotice n), resetReply := false } }
      | [] => s

/-! ## Reset (R198) -/

/-- A reset takes effect: every block and both links return to their reset state. The model's own queue and its counter
of free choices are not the part's, and stay. -/
def resetPart (cause : ResetCause) (s : State) : State :=
  { State.resetBy cause with races := s.races, pending := s.pending }

end Sys2Proof.Machine
end

