-- ==== Sys2Proof/Machine/Capture.lean ====
section
/-!
DEFINITION. The capture ring (chapter 10).
-/
namespace Sys2Proof.Machine

/-- A capture copy that finds room joins the ring; the first entry of an empty ring sends CAPTURE_READY. One that finds
128 entries is dropped with its event (R179 to R181). The result says whether it was accepted. -/
def offerCapture (e : CapEntry) (s : State) : Bool × State :=
  if s.capture.length < Config.captureCap then
    let s1 := { s with capture := s.capture ++ [e] }
    (true, if s.capture.isEmpty then notifyMgmt (.captureReady 1 s.clock) s1 else s1)
  else (false, raiseEvent .captureOverflow (.port e.port) s)

/-- A capture entry with its position (R182). -/
def eCapture (s : State) (x : CapEntry × Nat) : List Byte :=
  e1 x.2 ++ e1 x.1.reason.code ++ e1 x.1.port ++ eClock x.1.arrival ++ bufferPacket s.pool x.1.buf

/-- CAPTURE_READ: the oldest entries, 1 to 8 of them, without removing them (R182). -/
def doCaptureRead (n : Nat) (s : State) : Answer :=
  let count := clamp 1 8 n
  .ok (e2 count ++ e2 s.capture.length ++ eList (eCapture s) (s.capture.zipIdx.take count)) s

/-- CAPTURE_READ (R182). -/
def execCaptureRead (l : Link) (s : State) : Host.Outcome State Fault Refusal :=
  .next (serve l 0x35 mgmtLink (readAll (rNat 2)) doCaptureRead s)

/-- The oldest entries leave the ring, each dropping its reference (R63, R183). -/
def releaseCapture (n : Nat) (s : State) : State :=
  { s with
    capture := s.capture.drop n
    pool := (s.capture.take n).foldl (fun p e => dropRef e.buf p) s.pool }

/-- CAPTURE_RELEASE (R183). -/
def doCaptureRelease (n : Nat) (s : State) : Answer :=
  let taken := clamp 0 s.capture.length n
  .ok (e2 taken ++ e2 (s.capture.length - taken)) (releaseCapture taken s)

/-- CAPTURE_RELEASE (R183). -/
def execCaptureRelease (l : Link) (s : State) : Host.Outcome State Fault Refusal :=
  .next (serve l 0x36 mgmtLink (readAll (rNat 2)) doCaptureRelease s)

end Sys2Proof.Machine
end

