-- ==== Sys2Proof/Machine/Packets.lean ====
section
/-!
DEFINITION. The fields of a transport packet that the part reads and rewrites (chapter 1, R202).
-/
namespace Sys2Proof.Machine

/-- Byte `i` of a packet. -/
def byteAt (p : Packet) (i : Nat) : Byte := p.getD i 0

/-- The four values of the adaptation control (R5). -/
inductive AdaptControl where
  | neither
  | payloadOnly
  | fieldOnly
  | both
  deriving DecidableEq, Repr

/-- The error flag (R3). -/
def errorFlag (p : Packet) : Bool := (byteAt p 1).getLsbD 7

/-- The identifier (R4). -/
def ident (p : Packet) : Ident := (byteAt p 1).extractLsb' 0 5 ++ byteAt p 2

/-- The null identifier (R4). -/
def nullIdent : Ident := 8191

/-- The adaptation control (R5, R202). -/
def adaptControl (p : Packet) : AdaptControl :=
  match (byteAt p 3).getLsbD 5, (byteAt p 3).getLsbD 4 with
  | false, false => .neither
  | false, true => .payloadOnly
  | true, false => .fieldOnly
  | true, true => .both

/-- The continuity count (R7). -/
def continuity (p : Packet) : Continuity := (byteAt p 3).extractLsb' 0 4

/-- A packet carries payload when its adaptation control is PAYLOAD_ONLY or BOTH (R5). -/
def carriesPayload (p : Packet) : Bool :=
  match adaptControl p with
  | .payloadOnly | .both => true
  | .neither | .fieldOnly => false

/-- Whether the adaptation field is present (R5). -/
def hasField (p : Packet) : Bool :=
  match adaptControl p with
  | .fieldOnly | .both => true
  | .neither | .payloadOnly => false

/-- The adaptation length as used: as carried up to 183, and 183 above (R5). -/
def adaptLength (p : Packet) : Nat := min 183 (byteAt p 4).toNat

/-- The payload byte count (R5). -/
def payloadBytes (p : Packet) : Nat :=
  match adaptControl p with
  | .payloadOnly => 184
  | .both => 184 - (1 + adaptLength p)
  | .neither | .fieldOnly => 0

/-- Whether the flags byte exists (R6). -/
def hasFlags (p : Packet) : Bool := hasField p && decide (1 ≤ adaptLength p)

/-- The discontinuity flag, clear when the flags byte is absent (R6). -/
def discFlag (p : Packet) : Bool := hasFlags p && (byteAt p 5).getLsbD 7

/-- The entry flag, clear when the flags byte is absent (R6, R9). -/
def entryFlag (p : Packet) : Bool := hasFlags p && (byteAt p 5).getLsbD 6

/-- A packet has a clock sample when its flags byte exists, its clock flag is set and its adaptation length as used is
at least 7 (R6). -/
def hasSample (p : Packet) : Bool := hasFlags p && (byteAt p 5).getLsbD 4 && decide (7 ≤ adaptLength p)

/-- The 48 bits of bytes 6 to 11 as a number, high byte first. -/
def sampleField (p : Packet) : Nat := ((p.drop 6).take 6).foldl (fun n b => n * 256 + b.toNat) 0

/-- The base of the clock sample, its first 33 bits (R202). -/
def sampleBase (p : Packet) : Nat := sampleField p / 32768

/-- The extension of the clock sample, its last 9 bits (R202). -/
def sampleExt (p : Packet) : Nat := sampleField p % 512

/-- The value of the clock sample, base × 300 + extension, both as carried (R10). -/
def sampleValue (p : Packet) : Nat := sampleBase p * 300 + sampleExt p

/-! ## Rewrites, made on an output copy (R1, 8.6) -/

/-- The identifier is replaced and the other bits of its bytes are kept (R152). -/
def setIdent (i : Ident) (p : Packet) : Packet :=
  (p.set 1 ((byteAt p 1).extractLsb' 5 3 ++ i.extractLsb' 8 5)).set 2 (i.extractLsb' 0 8)

/-- The continuity count is replaced (R154). -/
def setContinuity (c : Continuity) (p : Packet) : Packet := p.set 3 ((byteAt p 3).extractLsb' 4 4 ++ c)

/-- The discontinuity flag is set in the flags byte (R153). -/
def setDiscFlag (p : Packet) : Packet := p.set 5 (byteAt p 5 ||| 0x80)

/-- The bytes of a clock sample field, high byte first. -/
def fieldBytes (x : Nat) : List Byte :=
  [BitVec.ofNat 8 (x / 2 ^ 40), BitVec.ofNat 8 (x / 2 ^ 32), BitVec.ofNat 8 (x / 2 ^ 24),
   BitVec.ofNat 8 (x / 2 ^ 16), BitVec.ofNat 8 (x / 2 ^ 8), BitVec.ofNat 8 x]

/-- The clock sample moved forward by the residence `d`; the six bits between base and extension are kept (R10, R156). -/
def restamp (d : Nat) (p : Packet) : Packet :=
  let v := (sampleValue p + d) % Config.sampleSpan
  p.take 6 ++ fieldBytes ((v / 300) * 32768 + (sampleField p / 512 % 64) * 512 + v % 300) ++ p.drop 12

/-- The null packet of R11. -/
def nullPacket : Packet := [0x47, 0x1F, 0xFF, 0x10] ++ List.replicate 184 0xFF

end Sys2Proof.Machine
end

