-- ==== Sys2Proof/Machine/Registry.lean ====
section
/-!
DEFINITION. The identifier registry of a region and its drain records (8.8), and the continuity and discontinuity
records that emission draws on (R153 to R155).
-/
namespace Sys2Proof.Machine

/-- The registry entry of an identifier. -/
def Region.lookup (r : Region) (i : Ident) : Option RegEntry := r.registry.find? fun e => e.ident == i

/-- The drain record of an identifier. -/
def Region.drain (r : Region) (i : Ident) : Option DrainRec := r.drains.find? fun e => e.ident == i

/-- Whether an entry of the region's queues carries an identifier (R158). -/
def Region.queued (r : Region) (i : Ident) : Bool := (r.mainQ ++ r.expQ).any fun e => e.out == i

/-- A registration asked for: an identifier and its definer. -/
abbrev Registration := Ident × Definer

/-- Why a registration is refused (R157). -/
inductive RegRefusal where
  | conflict (d : Definer)
  | full
  deriving DecidableEq, Repr

/-- The definer found where a registration meets another definer. -/
def Region.conflict (r : Region) (x : Registration) : Option Definer :=
  match r.lookup x.1 with
  | some e => if e.definer = x.2 then none else some e.definer
  | none => none

/-- The registrations asked for that the registry does not hold. -/
def Region.missing (r : Region) (want : List Registration) : List Registration :=
  want.filter fun x => (r.lookup x.1).isNone

/-- Whether an entry is one of the registrations asked for. -/
def RegEntry.among (e : RegEntry) (want : List Registration) : Bool := want.any fun x => decide (x = (e.ident, e.definer))

/-- The registration test of R157 for all that a writer asks for in one region. `own` tells the writer's own entries
that count as removed when they are not kept (R47, R77). A conflict is looked for before room (log entry 17). -/
def Region.testAll (r : Region) (own : RegEntry → Bool) (want : List Registration) : Option RegRefusal :=
  match want.findSome? r.conflict with
  | some d => some (.conflict d)
  | none =>
    if (r.registry.filter fun e => !(own e && !e.among want)).length + (r.missing want).length ≤ Config.registryCap
    then none else some .full

/-- The registry is kept in ascending identifier order. -/
def insertReg (e : RegEntry) : List RegEntry → List RegEntry
  | [] => [e]
  | x :: rest => if e.ident.toNat < x.ident.toNat then e :: x :: rest else x :: insertReg e rest

/-- A registration is made: an entry the definer already holds is kept, a new one starts with last count 15 and the owed
flag clear, and a drain record of the identifier is removed (R157, R158). -/
def Region.register (r : Region) (x : Registration) : Region :=
  match r.lookup x.1 with
  | some _ => r
  | none =>
    { r with
      registry := insertReg { ident := x.1, definer := x.2, last := 15, owed := false } r.registry
      drains := r.drains.filter fun d => d.ident != x.1 }

/-- Registrations given up: each becomes a drain record while queued entries still carry its identifier (R158). -/
def Region.giveUp (r : Region) (which : RegEntry → Bool) : Region :=
  { r with
    registry := r.registry.filter fun e => !which e
    drains := r.drains ++ (r.registry.filter fun e => which e && r.queued e.ident).map fun e =>
      { ident := e.ident, last := e.last, owed := e.owed } }

/-- A writer's registrations become those asked for (R47, R78, R165, R168). -/
def Region.rewrite (r : Region) (own : RegEntry → Bool) (want : List Registration) : Region :=
  want.foldl Region.register (r.giveUp fun e => own e && !e.among want)

/-- The objects that a refused registration names: the region, and the definer found (R47, R77, R157). -/
def RegRefusal.refs (g : RegionId) : RegRefusal → List ObjRef
  | .conflict d => [.region g, d.obj]
  | .full => [.region g]

/-- The result of a refused registration. -/
def RegRefusal.result : RegRefusal → Result
  | .conflict _ => .conflict
  | .full => .full

/-- The first region, from RG0 upwards, that refuses what is asked for there. -/
def State.regRefusal (s : State) (own : RegEntry → Bool) (want : RegionId → List Registration) :
    Option (RegionId × RegRefusal) :=
  (List.finRange 8).findSome? fun g => ((s.region g).testAll own (want g)).map fun x => (g, x)

/-- A writer's registrations become those asked for, in every region. -/
def rewriteAll (own : RegEntry → Bool) (want : RegionId → List Registration) (s : State) : State :=
  (List.finRange 8).foldl (fun t g => t.setRegion g ((t.region g).rewrite own (want g))) s

/-! ## Emission records -/

/-- Drain records whose identifier no queued entry carries any more are removed (R158). -/
def Region.cleanDrains (r : Region) : Region := { r with drains := r.drains.filter fun d => r.queued d.ident }

/-- A discontinuity is owed to an identifier: in its registry entry, or else in its drain record (R155). -/
def Region.owe (r : Region) (i : Ident) : Region :=
  match r.lookup i with
  | some _ => { r with registry := r.registry.map fun e => if e.ident = i then { e with owed := true } else e }
  | none => { r with drains := r.drains.map fun d => if d.ident = i then { d with owed := true } else d }

/-- The record that an identifier's count and owed flag are drawn from: the registry entry, or else the drain record.
An identifier in use always has one; last count 15 stands for none (log entry 18). -/
def Region.lastCount (r : Region) (i : Ident) : Continuity :=
  match r.lookup i with
  | some e => e.last
  | none => ((r.drain i).map DrainRec.last).getD 15

/-- Whether a discontinuity is owed to an identifier. -/
def Region.isOwed (r : Region) (i : Ident) : Bool :=
  match r.lookup i with
  | some e => e.owed
  | none => ((r.drain i).map DrainRec.owed).getD false

/-- The count written on a packet: the last count plus one with payload, the last count without (R154). -/
def Region.nextCount (r : Region) (i : Ident) (payload : Bool) : Continuity :=
  if payload then r.lastCount i + 1 else r.lastCount i

/-- The record of an identifier after a packet: its last count, and its owed flag cleared where `paid` (R153, R154). -/
def Region.note (r : Region) (i : Ident) (last : Continuity) (paid : Bool) : Region :=
  match r.lookup i with
  | some _ =>
    { r with registry := r.registry.map fun e =>
        if e.ident = i then { e with last := last, owed := e.owed && !paid } else e }
  | none =>
    { r with drains := r.drains.map fun d =>
        if d.ident = i then { d with last := last, owed := d.owed && !paid } else d }

end Sys2Proof.Machine
end

