-- ==== Sys2Proof/Machine/Carousels.lean ====
section
/-!
DEFINITION. The carousels (chapter 9).
-/
namespace Sys2Proof.Machine

/-! ## Cycles, swaps and registrations -/

/-- The distinct identifiers of a list of packets, in the order in which they first stand there. -/
def distinctIdents : List Packet → List Ident
  | [] => []
  | p :: rest => ident p :: (distinctIdents rest).filter fun i => i != ident p

/-- The registrations that a list of packets asks for (R165, R167). -/
def packetRegistrations (k : CarouselId) (l : List Packet) : List Registration :=
  (distinctIdents l).map fun i => (i, .carousel k)

/-- Whether a registry entry is a carousel's own. -/
def ownCarousel (k : CarouselId) (e : RegEntry) : Bool := decide (e.definer = .carousel k)

/-- No registration counts as removed (R165, R167). -/
def ownNone (_ : RegEntry) : Bool := false

/-- A cycle begins at a local clock value: the cursor is at 0 and the interval deadline is set from then (R170). -/
def Carousel.begin (c : Carousel) (now : Clock) : Carousel :=
  { c with
    cursor := some 0, cycleStart := some now, interval := some ({ set := now, len := msTicks c.intervalMs }, false) }

/-- The packet due next: the one at the cursor of a cycle in progress (9.1). -/
def Carousel.duePacket (c : Carousel) : Option Packet :=
  match c.cursor with
  | some i => c.live[i]?
  | none => none

/-- The number of packets still due (R173, R177). -/
def Carousel.stillDue (c : Carousel) : Nat :=
  match c.cursor with
  | some i => c.live.length - i
  | none => 0

/-- The building list becomes the live list (R168, steps 1, 2 and 4). -/
def Carousel.swapped (c : Carousel) : Carousel := { c with live := c.building, building := [], swapPending := false }

/-- The registrations of a carousel in its region become those of a list of packets. -/
def registerLive (k : CarouselId) (l : List Packet) (region : Option RegionId) (s : State) : State :=
  match region with
  | some g => s.setRegion g ((s.region g).rewrite (ownCarousel k) (packetRegistrations k l))
  | none => s

/-- A swap takes effect (R168). -/
def swapEffect (k : CarouselId) (s : State) : State :=
  let c := (s.carousel k).swapped
  registerLive k c.live c.region (s.setCarousel k c)

/-- A pending swap takes effect (R171, R173, R175). -/
def settleSwap (k : CarouselId) (s : State) : State := if (s.carousel k).swapPending then swapEffect k s else s

/-- The cycle in progress ends: the cursor and the interval deadline become absent and a pending swap takes effect
(R173, R175). -/
def endCycle (k : CarouselId) (s : State) : State :=
  settleSwap k (s.setCarousel k { s.carousel k with cursor := none, interval := none })

/-- A cycle finishes past the last packet (R171, R172). -/
def finishCycle (k : CarouselId) (s : State) : State :=
  let s1 := settleSwap k (s.setCarousel k { s.carousel k with cursor := none })
  let c := s1.carousel k
  match c.mode with
  | .single => s1.setCarousel k { c with state := .done, interval := none }
  | .continuous =>
    match c.interval with
    | some (_, true) => raiseEvent .carouselLate (.carousel k) (s1.setCarousel k (c.begin s1.clock))
    | some (_, false) | none => s1

/-- The packet at the cursor has been begun: the cursor moves on, past the last packet to the finish (R171). -/
def advanceCursor (k : CarouselId) (s : State) : State :=
  let c := s.carousel k
  match c.cursor with
  | none => s
  | some i => if i + 1 < c.live.length then s.setCarousel k { c with cursor := some (i + 1) } else finishCycle k s

/-- Whether a carousel's region is RUNNING. -/
def State.regionRunning (s : State) (region : Option RegionId) : Bool :=
  match region with
  | some g => (s.region g).clk.isSome
  | none => false

/-- Whether an interval deadline waits to be taken: the carousel is RUNNING, and the deadline is reached and not yet
marked (R170, R172). -/
def Carousel.intervalDue (c : Carousel) (now : Clock) : Bool :=
  decide (c.state = .running) &&
    match c.interval with
    | some (d, false) => d.reached now
    | some (_, true) | none => false

/-- An interval deadline is reached: between cycles the next cycle begins, and in a cycle the deadline is marked
(R170, R172, log entry 25). -/
def intervalReached (k : CarouselId) (s : State) : State :=
  let c := s.carousel k
  if c.intervalDue s.clock then
    match c.cursor with
    | none => s.setCarousel k (c.begin s.clock)
    | some _ => s.setCarousel k { c with interval := c.interval.map fun d => (d.1, true) }
  else s

/-- CAROUSEL_INTERVAL_DEADLINE (R170, R172). Before its moment it does nothing (log entry 15). -/
def execCarouselIntervalDeadline (k : CarouselId) (s : State) : Host.Outcome State Fault Refusal :=
  .next (intervalReached k s)

/-! ## CAROUSEL_CONFIG -/

/-- The fields of CAROUSEL_CONFIG (R165). -/
structure CarouselConfig where
  carousel : CarouselId
  region : Option RegionId
  interval : Option Nat
  mode : Option CarMode
  deriving DecidableEq, Repr

/-- The layout of CAROUSEL_CONFIG (R165). -/
def rCarouselConfig : Reader CarouselConfig := fun b =>
  (rThen (rIndex 32) (rThen (rOpt (rIndex 8)) (rThen (rOpt (rNat 4)) (rOpt (rEnum [CarMode.continuous, .single])))) b).map
    fun x =>
      match x with
      | ((k, g, i, m), rest) => ({ carousel := k, region := g, interval := i, mode := m }, rest)

/-- A carousel with the settings that a request gives (R165). A change of region keeps the cycle start time (log entry
33). -/
def CarouselConfig.apply (x : CarouselConfig) (c : Carousel) : Carousel :=
  { c with
    region := match x.region with
      | some g => some g
      | none => c.region
    intervalMs := match x.interval with
      | some i => clamp 10 30000 i
      | none => c.intervalMs
    mode := x.mode.getD c.mode }

/-- The region to which a request moves a carousel, where it changes the region (R165). -/
def CarouselConfig.moves (x : CarouselConfig) (c : Carousel) : Option RegionId :=
  match x.region with
  | some g => if c.region = some g then none else some g
  | none => none

/-- The live list's registrations move from the old region to the new (R165). -/
def moveRegistrations (k : CarouselId) (c : Carousel) (g : RegionId) (s : State) : State :=
  let s1 := s.setRegion g ((s.region g).rewrite ownNone (packetRegistrations k c.live))
  registerLive k [] c.region s1

/-- The OK reply of CAROUSEL_CONFIG (R165). -/
def eCarouselSettings (c : Carousel) : List Byte :=
  eOpt (fun g : RegionId => e1 g) c.region ++ e4 c.intervalMs ++ e1 c.mode.code

/-- CAROUSEL_CONFIG (R165). -/
def doCarouselConfig (x : CarouselConfig) (s : State) : Answer :=
  let k := x.carousel
  let c := s.carousel k
  let c' := x.apply c
  match x.moves c with
  | none => .ok (eCarouselSettings c') (s.setCarousel k c')
  | some g =>
    if c.state = .running then .refused .inUse []
    else
      match (s.region g).testAll ownNone (packetRegistrations k c.live) with
      | some why => .refused why.result (why.refs g)
      | none => .ok (eCarouselSettings c') ((moveRegistrations k c g s).setCarousel k c')

/-- CAROUSEL_CONFIG (R165). -/
def execCarouselConfig (l : Link) (s : State) : Host.Outcome State Fault Refusal :=
  .next (serve l 0x2E mgmtLink (readAll rCarouselConfig) doCarouselConfig s)

/-! ## CAROUSEL_APPEND and CAROUSEL_SWAP -/

/-- The fields of CAROUSEL_APPEND (R166). -/
structure CarouselAppend where
  carousel : CarouselId
  newList : Bool
  packets : List Packet
  deriving DecidableEq, Repr

/-- Whether a packet may be loaded: its first byte is the sync byte and its identifier is not the null one (R166). -/
def loadable (p : Packet) : Bool := decide (byteAt p 0 = 0x47) && decide (ident p ≠ nullIdent)

/-- The layout of CAROUSEL_APPEND: at most 8 packets of 188 bytes, each one that may be loaded (R166). -/
def rCarouselAppend : Reader CarouselAppend := fun b =>
  (rThen (rIndex 32) (rThen rFlag (rList 8 (rWhen rPacket loadable))) b).map fun x =>
    match x with
    | ((k, new, ps), rest) => ({ carousel := k, newList := new, packets := ps }, rest)

/-- The building list that an append starts from (R166). -/
def CarouselAppend.kept (x : CarouselAppend) (c : Carousel) : List Packet := if x.newList then [] else c.building

/-- CAROUSEL_APPEND (R166). -/
def doCarouselAppend (x : CarouselAppend) (s : State) : Answer :=
  let k := x.carousel
  let c := s.carousel k
  let kept := x.kept c
  let free := s.carouselFree + (c.building.length - kept.length)
  if c.swapPending then .refused .inUse []
  else if decide (Config.listCap < kept.length + x.packets.length) || decide (free < x.packets.length) then
    .refused .full []
  else
    let s' := s.setCarousel k { c with building := kept ++ x.packets }
    .ok (e2 (kept ++ x.packets).length ++ e2 s'.carouselFree) s'

/-- CAROUSEL_APPEND (R166). -/
def execCarouselAppend (l : Link) (s : State) : Host.Outcome State Fault Refusal :=
  .next (serve l 0x2F mgmtLink (readAll rCarouselAppend) doCarouselAppend s)

/-- The swap of a carousel with its building list registered: it takes effect at once, or waits for the cycle in
progress (R167). -/
def takeSwap (k : CarouselId) (s : State) : State :=
  match (s.carousel k).cursor with
  | some _ => s.setCarousel k { s.carousel k with swapPending := true }
  | none => swapEffect k s

/-- CAROUSEL_SWAP: the checks in order, the registrations and the swap (R167, R168). In the reply a flag is 1 where the swap
took effect at once and 0 where it is pending (log entry 9), and the newly registered identifiers stand in the order in
which they first stand in the building list (log entry 13). -/
def doCarouselSwap (k : CarouselId) (s : State) : Answer :=
  let c := s.carousel k
  match c.region with
  | none => .refused .badField []
  | some g =>
    if c.swapPending then .refused .inUse []
    else if c.building.isEmpty then .refused .empty []
    else
      let want := packetRegistrations k c.building
      match (s.region g).testAll ownNone want with
      | some why => .refused why.result (why.refs g)
      | none =>
        .ok (eFlag c.cursor.isNone ++ eList (fun x : Registration => e2 x.1.toNat) ((s.region g).missing want))
          (takeSwap k (s.setRegion g ((s.region g).rewrite ownNone want)))

/-- CAROUSEL_SWAP (R167). -/
def execCarouselSwap (l : Link) (s : State) : Host.Outcome State Fault Refusal :=
  .next (serve l 0x30 mgmtLink (readAll (rIndex 32)) doCarouselSwap s)

/-! ## CAROUSEL_START, CAROUSEL_STOP, CAROUSEL_CLEAR and CAROUSEL_READ -/

/-- A carousel in IDLE or DONE becomes RUNNING, and begins a cycle when its region is RUNNING (R169). -/
def startCarousel (k : CarouselId) (s : State) : State :=
  let c := { s.carousel k with state := .running, cycleStart := none }
  s.setCarousel k (if s.regionRunning c.region then c.begin s.clock else c)

/-- CAROUSEL_START (R169). -/
def doCarouselStart (k : CarouselId) (s : State) : Answer :=
  let c := s.carousel k
  match c.region with
  | none => .refused .badField []
  | some _ =>
    if c.live.isEmpty then .refused .empty []
    else if c.state = .running then .ok (e1 CarState.running.code ++ eOpt eClock none) s
    else .ok (e1 CarState.running.code ++ eOpt eClock ((startCarousel k s).carousel k).cycleStart) (startCarousel k s)

/-- CAROUSEL_START (R169). -/
def execCarouselStart (l : Link) (s : State) : Host.Outcome State Fault Refusal :=
  .next (serve l 0x31 mgmtLink (readAll (rIndex 32)) doCarouselStart s)

/-- A RUNNING or DONE carousel becomes IDLE (R173). -/
def stopCarousel (k : CarouselId) (s : State) : State := endCycle k (s.setCarousel k { s.carousel k with state := .idle })

/-- CAROUSEL_STOP (R173). -/
def doCarouselStop (k : CarouselId) (s : State) : Answer :=
  let c := s.carousel k
  .ok (e1 c.state.code ++ e2 c.stillDue) (if c.state = .idle then s else stopCarousel k s)

/-- CAROUSEL_STOP (R173). -/
def execCarouselStop (l : Link) (s : State) : Host.Outcome State Fault Refusal :=
  .next (serve l 0x32 mgmtLink (readAll (rIndex 32)) doCarouselStop s)

/-- Both lists are emptied, the registrations are removed and the carousel is IDLE (R174). -/
def clearCarousel (k : CarouselId) (s : State) : State :=
  registerLive k [] (s.carousel k).region (s.setCarousel k { s.carousel k with state := .idle, live := [], building := [] })

/-- CAROUSEL_CLEAR (R174). -/
def doCarouselClear (k : CarouselId) (s : State) : Answer :=
  let c := s.carousel k
  if c.state = .running then .refused .inUse []
  else .ok (e2 (c.live.length + c.building.length)) (clearCarousel k s)

/-- CAROUSEL_CLEAR (R174). -/
def execCarouselClear (l : Link) (s : State) : Host.Outcome State Fault Refusal :=
  .next (serve l 0x34 mgmtLink (readAll (rIndex 32)) doCarouselClear s)

/-- The interval deadline as CAROUSEL_READ gives it: absent, the ticks remaining, or the mark "reached"
(R177, log entry 14). -/
def eInterval (now : Clock) : Option (Deadline × Bool) → List Byte
  | none => e1 0
  | some (d, false) => e1 1 ++ e6 (d.remaining now)
  | some (_, true) => e1 2

/-- The identifiers of a list's packets (R177). -/
def eIdents (l : List Packet) : List Byte := eList (fun p : Packet => e2 (ident p).toNat) l

/-- The CAROUSEL_READ answer (R177). -/
def doCarouselRead (k : CarouselId) (s : State) : Answer :=
  let c := s.carousel k
  .ok (eCarouselSettings c ++ e1 c.state.code ++ e2 c.live.length ++ e2 c.building.length ++ eIdents c.live ++
    eIdents c.building ++ eFlag c.swapPending ++ eOpt (fun i => e1 i ++ e2 c.stillDue) c.cursor ++
    eOpt eClock c.cycleStart ++ eInterval s.clock c.interval ++ e2 s.carouselFree) s

/-- CAROUSEL_READ (R177). -/
def execCarouselRead (l : Link) (s : State) : Host.Outcome State Fault Refusal :=
  .next (serve l 0x33 bothLinks (readAll (rIndex 32)) doCarouselRead s)

end Sys2Proof.Machine
end

