-- ==== Sys2Proof/Machine/Claims.lean ====
section
/-!
DEFINITION. The region claims: the claim test and the four claim requests (7.9).
-/
namespace Sys2Proof.Machine

/-- The claimant of a region (R136). -/
def State.claimant (s : State) (g : RegionId) : Option Nat := s.claims[g]

/-- The claimant of a region becomes one given. -/
def State.setClaim (s : State) (g : RegionId) (o : Option Nat) : State := { s with claims := s.claims.set g o }

/-- The claim test: the first region of a mask, from RG0 upwards, that another owner than `o` has claimed, and that
claimant. Owner code 0 differs from every claimant, since a claimant is 1 to 127 (R136). -/
def State.claimedBy (s : State) (mask : RegionMask) (o : Nat) : Option (RegionId × Nat) :=
  (regionsOf mask).findSome? fun g =>
    match s.claimant g with
    | some c => if c = o then none else some (g, c)
    | none => none

/-- The objects that a CLAIMED refusal names (R136, R200). -/
def claimRefs (x : RegionId × Nat) : List ObjRef := [.region x.1, .owner x.2]

/-- A region mask that is not empty. -/
def rMask : Reader RegionMask := rWhen rByte fun m => decide (m ≠ 0)
/-- An owner code 0..127 (R95, R129). -/
def rOwner : Reader Nat := rWhen (rNat 1) fun o => decide (o ≤ 127)
/-- An owner code 1..127 (R137, R138). -/
def rClaimant : Reader Nat := rWhen (rNat 1) fun o => decide (1 ≤ o ∧ o ≤ 127)

/-- The claimant of each region, or its absence. -/
def eClaims (s : State) : List Byte := s.claims.toList.flatMap (eOpt e1)

/-- Each region of a mask is claimed by an owner. -/
def claimAll (mask : RegionMask) (o : Nat) (s : State) : State :=
  (regionsOf mask).foldl (fun t g => t.setClaim g (some o)) s

/-- CLAIM (R137). -/
def doClaim (x : RegionMask × Nat) (s : State) : Answer :=
  match s.claimedBy x.1 x.2 with
  | some y => .refused .claimed (claimRefs y)
  | none => .ok (eClaims (claimAll x.1 x.2 s)) (claimAll x.1 x.2 s)

/-- CLAIM (R137). -/
def execClaim (l : Link) (s : State) : Host.Outcome State Fault Refusal :=
  .next (serve l 0x25 bothLinks (readAll (rThen rMask rClaimant)) doClaim s)

/-- The regions of a mask whose claimant is an owner (R138). -/
def State.claimedOf (s : State) (mask : RegionMask) (o : Nat) : List RegionId :=
  (regionsOf mask).filter fun g => decide (s.claimant g = some o)

/-- Regions become unclaimed. -/
def unclaimAll (gs : List RegionId) (s : State) : State := gs.foldl (fun t g => t.setClaim g none) s

/-- UNCLAIM (R138). -/
def doUnclaim (x : RegionMask × Nat) (s : State) : Answer :=
  let freed := s.claimedOf x.1 x.2
  .ok (eList (fun g : RegionId => e1 g) freed ++ eClaims (unclaimAll freed s)) (unclaimAll freed s)

/-- UNCLAIM (R138). -/
def execUnclaim (l : Link) (s : State) : Host.Outcome State Fault Refusal :=
  .next (serve l 0x26 bothLinks (readAll (rThen rMask rClaimant)) doUnclaim s)

/-- CLAIM_BREAK (R139). -/
def doClaimBreak (mask : RegionMask) (s : State) : Answer :=
  .ok (eList (fun g : RegionId => e1 g ++ eOpt e1 (s.claimant g)) (regionsOf mask)) (unclaimAll (regionsOf mask) s)

/-- CLAIM_BREAK (R139). -/
def execClaimBreak (l : Link) (s : State) : Host.Outcome State Fault Refusal :=
  .next (serve l 0x27 mgmtLink (readAll rMask) doClaimBreak s)

/-- The CLAIM_READ answer (R140). -/
def doClaimRead (_ : Unit) (s : State) : Answer := .ok (eClaims s) s

/-- CLAIM_READ (R140). -/
def execClaimRead (l : Link) (s : State) : Host.Outcome State Fault Refusal :=
  .next (serve l 0x28 bothLinks (readAll rNothing) doClaimRead s)

end Sys2Proof.Machine
end

