-- ==== Sys2Proof/Machine/Meters.lean ====
section
/-!
DEFINITION. The meters (chapter 4).
-/
namespace Sys2Proof.Machine

/-- The cap of a meter: burst × 216,000,000 units (4.1). -/
def MeterDef.cap (d : MeterDef) : Nat := d.burst * Config.unitsPerByte

/-- The credit refilled up to a local clock value: for a difference below 2^47 the credit grows at the rate up to the
cap; for a late arrival it stands (R68). -/
def MeterDef.refilled (d : MeterDef) (t : Clock) : Nat :=
  if elapsed t d.updated < 2 ^ 47 then min (d.credit + d.rate * elapsed t d.updated) d.cap else d.credit

/-- The refill of R68. -/
def MeterDef.refill (d : MeterDef) (t : Clock) : MeterDef :=
  if elapsed t d.updated < 2 ^ 47 then { d with credit := d.refilled t, updated := t } else d

/-- The counted bytes of a packet (R70). -/
def Counting.bytes (c : Counting) (p : Packet) : Nat :=
  match c with
  | .full => 188
  | .payload => payloadBytes p

/-- The cost of a packet (R70). -/
def MeterDef.cost (d : MeterDef) (p : Packet) : Nat := d.mode.bytes p * Config.unitsPerByte

/-- A packet is judged: the refill, the cost, and the decision, true where the packet conforms (R67, R68, R70, R71). -/
def MeterDef.judge (d : MeterDef) (p : Packet) (arrival : Clock) : MeterDef × Bool :=
  let r := d.refill arrival
  if d.cost p ≤ r.credit then ({ r with credit := r.credit - d.cost p }, true) else (r, false)

/-- The fields of METER_WRITE (R65). -/
structure MeterWrite where
  meter : MeterId
  rate : Nat
  burst : Nat
  mode : Counting
  deriving DecidableEq, Repr

/-- The layout of METER_WRITE (R65). -/
def rMeterWrite : Reader MeterWrite := fun b =>
  (rThen (rIndex 32) (rThen (rNat 4) (rThen (rNat 4) (rEnum [Counting.full, .payload]))) b).map fun x =>
    match x with
    | ((m, rate, burst, mode), rest) => ({ meter := m, rate := rate, burst := burst, mode := mode }, rest)

/-- A meter as METER_WRITE leaves it: the settings clamped and the credit at the cap (R65). -/
def MeterWrite.taken (x : MeterWrite) (now : Clock) : MeterDef :=
  let burst := clamp 188 188000 x.burst
  { rate := clamp 64000 40000000 x.rate, burst := burst, mode := x.mode, credit := burst * Config.unitsPerByte,
    updated := now }

/-- METER_WRITE (R65). -/
def doMeterWrite (x : MeterWrite) (s : State) : Answer :=
  let d := x.taken s.clock
  .ok (e4 d.rate ++ e4 d.burst ++ e1 d.mode.code ++ e6 d.credit)
    (s.setMeter x.meter { s.meter x.meter with defn := some d })

/-- METER_WRITE (R65). -/
def execMeterWrite (l : Link) (s : State) : Host.Outcome State Fault Refusal :=
  .next (serve l 0x10 mgmtLink (readAll rMeterWrite) doMeterWrite s)

/-- The layout of METER_READ: the meter and the optional clear field (R66). -/
def rMeterRead : Reader (MeterId × Bool) := fun b =>
  (rThen (rIndex 32) (rOpt rNothing) b).map fun x => ((x.1.1, x.1.2.isSome), x.2)

/-- Only the management link may clear: a body whose clear field, its second byte, is present is refused on the cue link
before anything else of it is read (R66, R188). -/
def meterReadMgmt (body : List Byte) : Bool := decide (body[1]? = some 1)

/-- A meter as METER_READ gives it (R66). -/
def eMeter (m : Meter) (now : Clock) : List Byte :=
  match m.defn with
  | none => e1 0 ++ eFlag m.excess
  | some d =>
    e1 1 ++ e4 d.rate ++ e4 d.burst ++ e1 d.mode.code ++ e6 d.credit ++ eClock d.updated ++ e6 (d.refilled now) ++
      e4 (d.refilled now / Config.unitsPerByte) ++ eFlag m.excess

/-- METER_READ (R66). -/
def doMeterRead (x : MeterId × Bool) (s : State) : Answer :=
  let m := s.meter x.1
  .ok (eMeter m s.clock) (if x.2 then s.setMeter x.1 { m with excess := false } else s)

/-- METER_READ (R66). -/
def execMeterRead (l : Link) (s : State) : Host.Outcome State Fault Refusal :=
  .next (serve l 0x11 meterReadMgmt (readAll rMeterRead) doMeterRead s)

/-- Whether a meter has been idle for 2^46 ticks (R69). -/
def Meter.idle (m : Meter) (now : Clock) : Bool :=
  match m.defn with
  | some d => decide (2 ^ 46 ≤ elapsed now d.updated)
  | none => false

/-- The idle refresh (R69). -/
def refreshMeter (m : MeterId) (s : State) : State :=
  match (s.meter m).defn with
  | some d =>
    if (s.meter m).idle s.clock then
      s.setMeter m { s.meter m with defn := some { d with credit := d.cap, updated := s.clock } }
    else s
  | none => s

/-- METER_IDLE_REFRESH (R69). Before its moment it does nothing (log entry 15). -/
def execMeterIdleRefresh (m : MeterId) (s : State) : Host.Outcome State Fault Refusal := .next (refreshMeter m s)

end Sys2Proof.Machine
end

