-- ==== Sys2Proof/Machine/Components.lean ====
section
/-!
DEFINITION. The component table and its three requests (3.2).
-/
namespace Sys2Proof.Machine

/-- The full mask (3.2). -/
def fullMask : Ident := 0x1FFF

/-- The null identifier and the registered output identifiers share 13 bits; 8191 is never an output (R45, R75). -/
def isNull (i : Ident) : Bool := decide (i = 8191)

/-- The registrations of a binding in a region: those of a COMMON binding whose mask holds it (R47). -/
def Binding.registrations (b : Binding) (c : ComponentId) (g : RegionId) : List Registration :=
  match b with
  | .common mask out => if mask.getLsbD g then [(out, .component c)] else []
  | .unbound | .national _ _ | .variant _ _ => []

/-- Whether a registry entry is a component's own. -/
def ownComponent (c : ComponentId) (e : RegEntry) : Bool := decide (e.definer = .component c)

/-- Whether an entry is bound NATIONAL or VARIANT (R45, R48). -/
def Component.released (k : Component) : Bool :=
  match k.binding with
  | .unbound | .common _ _ => true
  | .national _ _ | .variant _ _ => false

/-- A binding on a link: its kind, then what the kind carries, without a presence byte (R49, log entry 10). -/
def eBinding : Binding → List Byte
  | .unbound => e1 0
  | .common mask out => e1 1 ++ [mask] ++ e2 out.toNat
  | .national sl r => e1 2 ++ e1 sl ++ e1 r
  | .variant v r => e1 3 ++ e1 v ++ e1 r

/-- An entry of the component table on a link: the state, and every field of a DEFINED entry (R49). -/
def eComponent : Option Component → List Byte
  | none => e1 0
  | some k =>
    e1 1 ++ e1 k.port ++ e2 k.ident.toNat ++ e2 k.mask.toNat ++ e1 k.cls.code ++ eFlag k.clockBearing ++
      eOpt (fun m : MeterId => e1 m) k.meter ++ eFlag k.capture ++ eOpt (fun c : Continuity => e1 c.toNat) k.lastSeen ++
      eBinding k.binding

/-- A binding that COMPONENT_WRITE may carry: UNBOUND or COMMON; NATIONAL, VARIANT and unknown kinds are refused
BAD_FIELD (R45). What COMMON carries follows its kind without a presence byte (log entry 10). -/
def rBinding : Reader Binding := fun b =>
  match b with
  | x :: rest =>
    if x = 0 then some (.unbound, rest)
    else if x = 1 then (rThen rByte rIdent rest).map fun y => (.common y.1.1 y.1.2, y.2)
    else none
  | [] => none

/-- The layout of COMPONENT_WRITE (R45): the component, and the entry as asked for. -/
def rComponentWrite : Reader (ComponentId × Component) := fun b =>
  (rThen (rIndex 256) (rThen (rIndex 12) (rThen rIdent (rThen rIdent (rThen (rEnum [CompClass.essential, .expendable])
    (rThen rFlag (rThen (rOpt (rIndex 32)) (rThen rFlag rBinding))))))) b).map fun x =>
      match x with
      | ((c, port, i, mask, cls, clk, m, cap, bind), rest) =>
        ((c, { port := port, ident := i &&& mask, mask := mask, cls := cls, clockBearing := clk, meter := m,
               capture := cap, lastSeen := none, binding := bind }), rest)

/-- Whether another entry on the same port has the same mask and match identifier (R45). -/
def State.sameMatch (s : State) (c : ComponentId) (k : Component) : Bool :=
  (List.finRange 256).any fun d =>
    match s.component d with
    | some e => decide (d ≠ c ∧ e.port = k.port ∧ e.mask = k.mask ∧ e.ident = k.ident)
    | none => false

/-- Whether an entry names no meter, or a DEFINED one (R45). -/
def State.meterNamed (s : State) (k : Component) : Bool :=
  match k.meter with
  | some m => (s.meter m).defn.isSome
  | none => true

/-- Whether a COMMON binding is one that R45 allows: the full mask, some region, and an output identifier below 8191. -/
def Component.commonOk (k : Component) : Bool :=
  match k.binding with
  | .common mask out => decide (k.mask = fullMask) && decide (mask ≠ 0) && !isNull out
  | .unbound | .national _ _ | .variant _ _ => true

/-- Whether the entry that stands may be replaced or cleared: it is FREE, UNBOUND or COMMON (R45, R48). -/
def State.componentReleased (s : State) (c : ComponentId) : Bool :=
  match s.component c with
  | some k => k.released
  | none => true

/-- COMPONENT_WRITE (R45 to R47): the checks in the order of the table, and the effect. -/
def doComponentWrite (x : ComponentId × Component) (s : State) : Answer :=
  let c := x.1
  let k := x.2
  if !s.meterNamed k then .refused .badField []
  else if decide (k.mask = fullMask) && isNull k.ident then .refused .badField []
  else if s.sameMatch c k then .refused .badField []
  else if !k.commonOk then .refused .badField []
  else if !s.componentReleased c then .refused .inUse []
  else
    match s.regRefusal (ownComponent c) (k.binding.registrations c) with
    | some (g, why) => .refused why.result (why.refs g)
    | none =>
      .ok (eComponent (some k)) (rewriteAll (ownComponent c) (k.binding.registrations c) (s.setComponent c (some k)))

/-- COMPONENT_WRITE (R45). -/
def execComponentWrite (l : Link) (s : State) : Host.Outcome State Fault Refusal :=
  .next (serve l 0x0D mgmtLink (readAll rComponentWrite) doComponentWrite s)

/-- COMPONENT_CLEAR (R48). -/
def doComponentClear (c : ComponentId) (s : State) : Answer :=
  if !s.componentReleased c then .refused .inUse []
  else .ok [] (rewriteAll (ownComponent c) (fun _ => []) (s.setComponent c none))

/-- COMPONENT_CLEAR (R48). -/
def execComponentClear (l : Link) (s : State) : Host.Outcome State Fault Refusal :=
  .next (serve l 0x0E mgmtLink (readAll (rIndex 256)) doComponentClear s)

/-- The COMPONENT_READ answer (R49). -/
def doComponentRead (c : ComponentId) (s : State) : Answer := .ok (eComponent (s.component c)) s

/-- COMPONENT_READ (R49). -/
def execComponentRead (l : Link) (s : State) : Host.Outcome State Fault Refusal :=
  .next (serve l 0x0F bothLinks (readAll (rIndex 256)) doComponentRead s)

end Sys2Proof.Machine
end

