-- ==== Sys2Proof/Machine/Switching.lean ====
section
/-!
DEFINITION. The shared operations of the switch schedule and the routes: how a route changes its source, how an outcome
is recorded and a cue completes, how a cue or take reaches a route, and how marks, deadlines and health changes move a
route (chapters 6 and 7).
-/
namespace Sys2Proof.Machine

/-! ## Variants as the routes see them -/

/-- Whether a variant is HEALTHY. -/
def State.healthy (s : State) (v : VariantId) : Bool :=
  match s.variant v with
  | some d => decide (d.health = .healthy)
  | none => false

/-- Whether a target is fit for air: NATIONAL always is (R122). -/
def State.fit (s : State) : Target → Bool
  | .national => true
  | .variant v => s.healthy v

/-- The fallback source of a variant (5.2). -/
def State.fallbackOf (s : State) (v : VariantId) : Source :=
  match s.variant v with
  | some d => d.fallback.source
  | none => .national

/-- The return wait of a variant in ticks (R119). -/
def State.returnTicks (s : State) (v : VariantId) : Nat :=
  match s.variant v with
  | some d => msTicks d.returnMs
  | none => 0

/-! ## One route -/

/-- The current source changes; a change sets mark-pending (R117). -/
def Route.carry (r : Route) (src : Source) : Route :=
  { r with current := src, markPending := r.markPending || decide (r.current ≠ src) }

/-- The route switches to a target (R118). -/
def Route.switchTo (r : Route) (t : Target) : Route :=
  { r.carry t.source with intended := t, state := .steady }

/-- The route falls back: it intends the variant and carries the variant's fallback (R122, R127). -/
def Route.fallBack (r : Route) (v : VariantId) (src : Source) : Route :=
  { r.carry src with intended := .variant v, state := .fallback }

/-- The route enters RETURNING towards a variant, or switches to it at once when its return wait is 0 (R119, R128). -/
def State.returning (s : State) (v : VariantId) (r : Route) : Route :=
  if s.returnTicks v = 0 then r.switchTo (.variant v)
  else { r with state := .returning v { set := s.clock, len := s.returnTicks v } }

/-- The route abandons its wait and settles by its current source (R120). -/
def State.abandon (s : State) (r : Route) : Route :=
  match r.current with
  | .national => { r with intended := .national, state := .steady }
  | .variant v => { r with intended := .variant v, state := .steady }
  | .blank =>
    match r.intended with
    | .variant v => if s.healthy v then s.returning v r else { r with state := .fallback }
    | .national => { r with state := .fallback }

/-- The cue or take that a route in PENDING_SPLICE or AWAIT_CONFIRM waits for (7.1). -/
def Route.waiter (r : Route) : Option Waiter :=
  match r.state with
  | .steady | .fallback | .returning _ _ => none
  | .pendingSplice _ (some id) _ | .awaitConfirm _ (some id) _ => some (.cue id)
  | .pendingSplice _ none _ | .awaitConfirm _ none _ => some .take

/-- Whether a change of a route sends a ROUTE_CHANGE notice: its state, sources, pending target or hold flag changed
(R133), or an earlier take got its SUPERSEDED (R129, log entry 16). -/
def Route.noticed (r r' : Route) (earlier : Option Given) : Bool :=
  decide (r.state.code ≠ r'.state.code) || decide (r.current ≠ r'.current) || decide (r.intended ≠ r'.intended) ||
    decide (r.state.target ≠ r'.state.target) || decide (r.hold ≠ r'.hold) ||
    decide (earlier = some (.superseded, .take))

/-! ## The schedule -/

/-- The schedule's change count rises by one (R93). -/
def countChange (s : State) : State := { s with changes := s.changes + 1 }

/-- The cue with an id. -/
def State.cue (s : State) (id : Nat) : Option Cue := s.cues.find? fun c => c.id == id

/-- Schedule order: by due time, and then by insertion number (R93). -/
def Cue.before (a b : Cue) : Bool := decide (a.due < b.due) || (decide (a.due = b.due) && decide (a.insertion < b.insertion))

/-- A cue takes its place in the order. -/
def insertCue (c : Cue) : List Cue → List Cue
  | [] => [c]
  | x :: rest => if c.before x then c :: x :: rest else x :: insertCue c rest

/-- The schedule without the cue of an id. -/
def withoutCue (id : Nat) (cues : List Cue) : List Cue := cues.filter fun c => c.id != id

/-- The schedule with the cue of an id changed in place. -/
def mapCue (id : Nat) (f : Cue → Cue) (cues : List Cue) : List Cue := cues.map fun c => if c.id = id then f c else c

/-- The cues renumbered 0, 1, 2, … in their order (R93). -/
def renumber : Nat → List Cue → List Cue
  | _, [] => []
  | n, c :: rest => { c with insertion := n } :: renumber (n + 1) rest

/-- The renumbering that comes before an insertion which finds the counter at its maximum (R93). -/
def renumberFull (s : State) : State :=
  if s.insertion = Config.insertionMax then { s with cues := renumber 0 s.cues, insertion := s.cues.length } else s

/-- A cue is entered, or re-entered in place of itself, with the next insertion number (R93). -/
def enterCue (c : Cue) (s : State) : State :=
  let s1 := renumberFull s
  countChange { s1 with
    cues := insertCue { c with insertion := s1.insertion } (withoutCue c.id s1.cues)
    insertion := s1.insertion + 1 }

/-- A cue is removed (R93). -/
def removeCue (id : Nat) (s : State) : State := countChange { s with cues := withoutCue id s.cues }

/-- Every entry of a cue's outcome list holds one outcome. -/
def Cue.allOutcomes (c : Cue) (o : CueOutcome) : Cue := { c with outcomes := c.outcomes.map fun x => (x.1, o) }

/-- The cue as it waits for an occurrence: PENDING, every outcome NONE (R97, R103). -/
def Cue.waiting (c : Cue) (due : Nat) : Cue := { c.allOutcomes .none with due := due, state := .pending }

/-- The due time of a completed daily cue's next occurrence, and whether that falls due at once (R103). -/
def nextOccurrence (now : Option Nat) (due : Nat) : Nat × Bool :=
  let next := (due + Config.dayTicks) % Config.stationSpan
  match now with
  | none => (next, false)
  | some t =>
    let late := lateness t next
    if Config.halfSpan ≤ late then (next, false)
    else if late ≤ Config.lateLimit then (next, true)
    else (advanceDue next late, false)

/-- A cue completes: CUE_DONE goes to both links, and the cue is removed or re-entered (R102, R103). A re-entered cue
that falls due at once does so when the hand-over in progress is complete (R98). -/
def completeCue (c : Cue) (s : State) : State :=
  match c.rpt with
  | .once => removeCue c.id (notifyBoth (.cueDone c none) s)
  | .daily =>
    let next := nextOccurrence s.station c.due
    let s1 := enterCue (c.waiting next.1) (notifyBoth (.cueDone c (some next.1)) s)
    if next.2 then { s1 with falling := s1.falling ++ [c.id] } else s1

/-- An outcome in a region's entry; an entry that holds one keeps it (R100). -/
def Cue.record (c : Cue) (g : RegionId) (o : CueOutcome) : Cue :=
  { c with outcomes := c.outcomes.map fun x => if x.1 = g ∧ x.2 = .none then (g, o) else x }

/-- Whether every region of a cue has an outcome (R102). -/
def Cue.allGiven (c : Cue) : Bool := c.outcomes.all fun x => decide (x.2 ≠ .none)

/-- A route's outcome for a cue is recorded; the last one completes the cue (R100, R102). -/
def recordOutcome (id : Nat) (g : RegionId) (o : CueOutcome) (s : State) : State :=
  match s.cue id with
  | none => s
  | some c =>
    match c.state with
    | .pending => s
    | .active =>
      let c' := c.record g o
      let s1 := { s with cues := mapCue id (fun _ => c') s.cues }
      if c'.allGiven then completeCue c' s1 else s1

/-- An outcome goes to its cue; a take's is carried by the notice alone (R118). -/
def giveOutcome (g : RegionId) (given : Option Given) (s : State) : State :=
  match given with
  | some (o, .cue id) => recordOutcome id g o s
  | some (_, .take) => s
  | none => s

/-! ## A change of one route -/

/-- The ROUTE_CHANGE notice of a route event, where one is sent (R133). -/
def notifyRoute (g : RegionId) (sl : SlotId) (old new : Route) (cause : RouteCause) (given earlier : Option Given)
    (s : State) : State :=
  if old.noticed new earlier then notifyBoth (.routeChange g sl new cause given earlier s.clock) s else s

/-- A route event: the route changes, an earlier cue gets its SUPERSEDED, the notice is sent, and the event's own
outcome is recorded (R101, R118, R133; the order of the notices is log entry 8). -/
def commitRoute (g : RegionId) (sl : SlotId) (new : Route) (cause : RouteCause) (given earlier : Option Given)
    (s : State) : State :=
  giveOutcome g given
    (notifyRoute g sl (s.route g sl) new cause given earlier (giveOutcome g earlier (s.setRoute g sl new)))

/-! ## A cue or take reaching a route (R121, R122) -/

/-- The way a cue or take asks for its switch. -/
structure Ask where
  target : Target
  policy : SwitchPolicy
  waitMs : Nat
  waiter : Waiter
  deriving DecidableEq, Repr

/-- The cue id that a wait begun by a cue or take holds. -/
def Waiter.cueId : Waiter → Option Nat
  | .cue id => some id
  | .take => none

/-- The cause of the notices of a cue or take. -/
def Waiter.cause : Waiter → RouteCause
  | .cue _ => .cue
  | .take => .take

/-- What health and policy decide: the new route and the outcome, NONE where the route waits (R122). -/
def State.decideRoute (s : State) (r : Route) (a : Ask) : Route × CueOutcome :=
  match a.target, s.fit a.target with
  | .variant v, false => (r.fallBack v (s.fallbackOf v), .fallback)
  | _, _ =>
    match a.policy with
    | .immediate => (r.switchTo a.target, .switched)
    | .atMark =>
      if a.waitMs = 0 then (r.switchTo a.target, .forced)
      else
        ({ r with state := .pendingSplice a.target a.waiter.cueId { set := s.clock, len := msTicks a.waitMs } }, .none)
    | .onConfirm =>
      ({ r with state := .awaitConfirm a.target a.waiter.cueId { set := s.clock, len := msTicks a.waitMs } }, .none)

/-- Whether the route falls back from, or returns to, this target (R121, second test). -/
def Route.awaits (r : Route) (t : Target) : Bool :=
  match r.state with
  | .fallback | .returning _ _ => decide (r.intended = t)
  | .steady | .pendingSplice _ _ _ | .awaitConfirm _ _ _ => false

/-- The tests of R121 in order, and then R122: the new route, the outcome, and whether an earlier wait ends. -/
def State.reachRoute (s : State) (r : Route) (a : Ask) : Route × CueOutcome × Bool :=
  if r.hold then (r, .held, false)
  else if r.current = a.target.source then ({ r with intended := a.target, state := .steady }, .noChange, true)
  else if r.awaits a.target then (r, .noChange, false)
  else ((s.decideRoute r a).1, (s.decideRoute r a).2, true)

/-- The SUPERSEDED of an earlier wait that ends. -/
def Route.superseded (r : Route) (ends : Bool) : Option Given :=
  if ends then r.waiter.map fun w => (.superseded, w) else none

/-- An outcome other than NONE, with whom it goes to. -/
def givenTo (o : CueOutcome) (w : Waiter) : Option Given := if o = .none then none else some (o, w)

/-- A cue or take reaches a route. -/
def reach (g : RegionId) (sl : SlotId) (a : Ask) (s : State) : State :=
  let r := s.route g sl
  let d := s.reachRoute r a
  commitRoute g sl d.1 a.waiter.cause (givenTo d.2.1 a.waiter) (r.superseded d.2.2) s

/-! ## Falling due (R98, R99, R111 to R113) -/

/-- What a cue asks of its routes (R99). -/
def Cue.ask (c : Cue) : Ask :=
  { target := c.target, policy := c.policy, waitMs := c.waitMs.getD 0, waiter := .cue c.id }

/-- A cue falls due: it becomes ACTIVE and is handed to the route of each region of its mask (R98, R99). -/
def handOver (c : Cue) (s : State) : State :=
  let s1 := countChange { s with cues := mapCue c.id (fun x => { x with state := .active }) s.cues }
  (regionsOf c.mask).foldl (fun t g => reach g c.slot c.ask t) s1

/-- A cue that the time setting pass finds more than 10 s late: EXPIRED in every region, and removed or re-entered
(R112). -/
def expireCue (c : Cue) (late : Nat) (s : State) : State :=
  let done := c.allOutcomes .expired
  match c.rpt with
  | .once => removeCue c.id (notifyBoth (.cueDone done none) s)
  | .daily =>
    let due := advanceDue c.due late
    enterCue (c.waiting due) (notifyBoth (.cueDone done (some due)) s)

/-- A PENDING cue is measured against station time: left in the future, handed over when late by 10 s or less, expired
when later (R111 to R113). -/
def measureCue (c : Cue) (s : State) : State :=
  match s.station, c.state with
  | some now, .pending =>
    let late := lateness now c.due
    if Config.halfSpan ≤ late then s
    else if late ≤ Config.lateLimit then handOver c s
    else expireCue c late s
  | _, _ => s

/-- Whether a PENDING cue's due time is the present station time: its lateness is 0 (R98). -/
def State.isDue (s : State) (c : Cue) : Bool :=
  match s.station with
  | none => false
  | some now => decide (c.state = .pending) && decide (lateness now c.due = 0)

/-- The cue that the event in progress deals with next: while it has a cue to deal with, the first in schedule order of
those and of the PENDING cues due at this very tick, so that none of these is passed over (R98, log entry 34). -/
def State.nextToFall (s : State) : Option Cue :=
  if s.cues.any fun c => s.falling.contains c.id then s.cues.find? fun c => s.falling.contains c.id || s.isDue c else none

/-- The cues that the event in progress has to deal with are taken one at a time in schedule order (R98). The first
argument bounds their number. -/
def settleCues : Nat → State → State
  | 0, s => { s with falling := [] }
  | n + 1, s =>
    match s.nextToFall with
    | none => { s with falling := [] }
    | some c => settleCues n (measureCue c { s with falling := s.falling.filter fun i => i != c.id })

/-- The end of an event in which cues may have fallen due. Each cue is dealt with at most once by its own falling due
and once by a re-entry, so the bound is never reached. -/
def settle (s : State) : State := settleCues (2 * s.cues.length + 1) s

/-! ## Events on waiting routes -/

/-- A mark of a source for a slot reaches one route (R123). -/
def markRoute (sl : SlotId) (x : Target) (s : State) (g : RegionId) : State :=
  let r := s.route g sl
  match r.state with
  | .pendingSplice t _ _ =>
    if t = x then commitRoute g sl (r.switchTo t) .mark (r.waiter.map fun w => (.switched, w)) none s else s
  | .returning v _ => if x = .variant v then commitRoute g sl (r.switchTo (.variant v)) .mark none none s else s
  | .steady | .awaitConfirm _ _ _ | .fallback => s

/-- A mark of a source for a slot (R123). -/
def takeMark (sl : SlotId) (x : Target) (s : State) : State := (List.finRange 8).foldl (markRoute sl x) s

/-- A route's deadline is reached (R124). That FORCED_SPLICE goes after the ROUTE_CHANGE and CUE_DONE of the switch is the
model's choice (log entry 8). -/
def expireRoute (g : RegionId) (sl : SlotId) (s : State) : State :=
  let r := s.route g sl
  match r.state with
  | .pendingSplice t _ _ =>
    raiseEvent .forcedSplice (.route g sl)
      (commitRoute g sl (r.switchTo t) .deadline (r.waiter.map fun w => (.forced, w)) none s)
  | .awaitConfirm _ _ _ => commitRoute g sl (s.abandon r) .deadline (r.waiter.map fun w => (.expired, w)) none s
  | .returning v _ =>
    raiseEvent .forcedSplice (.route g sl) (commitRoute g sl (r.switchTo (.variant v)) .deadline none none s)
  | .steady | .fallback => s

/-- A confirmation reaches the route of a region that waits on the cue (R125). -/
def confirmRoute (id : Nat) (sl : SlotId) (s : State) (g : RegionId) : State :=
  let r := s.route g sl
  match r.state with
  | .awaitConfirm t (some c) _ =>
    if c = id then
      match t, s.fit t with
      | .variant v, false =>
        commitRoute g sl (r.fallBack v (s.fallbackOf v)) .confirm (some (.fallback, .cue id)) none s
      | _, _ => commitRoute g sl (r.switchTo t) .confirm (some (.switched, .cue id)) none s
    else s
  | .awaitConfirm _ none _ | .pendingSplice _ _ _ | .steady | .fallback | .returning _ _ => s

/-- A cancel reaches the route of a region that waits on the cue (R126). -/
def cancelRoute (id : Nat) (sl : SlotId) (s : State) (g : RegionId) : State :=
  let r := s.route g sl
  if r.waiter = some (.cue id) then commitRoute g sl (s.abandon r) .cancel (some (.cancelled, .cue id)) none s else s

/-- A hold reaches a route (R130): a waiting route gets HELD and abandons its wait. -/
def holdRoute (sl : SlotId) (s : State) (g : RegionId) : State :=
  let r := s.route g sl
  match r.waiter with
  | some w => commitRoute g sl { s.abandon r with hold := true } .hold (some (.held, w)) none s
  | none => commitRoute g sl { r with hold := true } .hold none none s

/-- A route is freed (R131). -/
def freeRoute (sl : SlotId) (s : State) (g : RegionId) : State :=
  commitRoute g sl { s.route g sl with hold := false } .free none none s

/-! ## Health changes (R127, R128) -/

/-- Whether a route has a variant as its current source, intended source or pending target (R91). -/
def Route.concerns (r : Route) (v : VariantId) : Bool :=
  decide (r.current = .variant v) || decide (r.intended = .variant v) || decide (r.state.target = some (.variant v))

/-- Whether some route is concerned with a variant. -/
def State.concerned (s : State) (v : VariantId) : Bool := allRoutes.any fun x => (s.route x.1 x.2).concerns v

/-- A variant has become STARVED: one route acts by its state and the variant's place in it (R127). -/
def starveRoute (v : VariantId) (s : State) (x : RegionId × SlotId) : State :=
  let r := s.route x.1 x.2
  let src := s.fallbackOf v
  match r.state with
  | .steady => if r.current = .variant v then commitRoute x.1 x.2 (r.fallBack v src) .starved none none s else s
  | .pendingSplice t _ _ =>
    if t = .variant v then
      commitRoute x.1 x.2 (r.fallBack v src) .starved (r.waiter.map fun w => (.fallback, w)) none s
    else if r.current = .variant v then
      commitRoute x.1 x.2 (r.switchTo t) .starved (r.waiter.map fun w => (.forced, w)) none s
    else s
  | .awaitConfirm t _ _ =>
    if t ≠ .variant v ∧ r.current = .variant v then
      commitRoute x.1 x.2 { r.carry src with intended := .variant v } .starved none none s
    else s
  | .fallback => s
  | .returning w _ => if w = v then commitRoute x.1 x.2 { r with state := .fallback } .starved none none s else s

/-- A variant has become HEALTHY: a FALLBACK route that intends it enters RETURNING (R128). -/
def healthyRoute (v : VariantId) (s : State) (x : RegionId × SlotId) : State :=
  let r := s.route x.1 x.2
  match r.state with
  | .fallback => if r.intended = .variant v then commitRoute x.1 x.2 (s.returning v r) .healthy none none s else s
  | .steady | .pendingSplice _ _ _ | .awaitConfirm _ _ _ | .returning _ _ => s

end Sys2Proof.Machine
end

