-- ==== Sys2Proof/Machine/Health.lean ====
section
/-!
DEFINITION. The health machine of a variant (5.3) and the report of a lost port (R30).
-/
namespace Sys2Proof.Machine

/-- The starvation timer, started now (R86). -/
def VariantDef.starveNow (d : VariantDef) (now : Clock) : Deadline := { set := now, len := msTicks d.starveMs }

/-- The recovery timer, started now (R86). -/
def VariantDef.recoverNow (d : VariantDef) (now : Clock) : Deadline := { set := now, len := msTicks d.recoverMs }

/-- The anchor component of a variant: the one in its slot's anchor role (5.2). -/
def State.anchorOf (s : State) (d : VariantDef) : Option ComponentId :=
  match s.slot d.slot with
  | some sd => (d.comps.find? fun x => decide (x.1 = sd.anchor)).map Prod.snd
  | none => none

/-- A VARIANT_HEALTH notice (R92). -/
def notifyHealth (v : VariantId) (before after : Health) (cause : HealthCause) (s : State) : State :=
  notifyMgmt (.variantHealth v before after cause s.clock) s

/-- A variant that is not STARVED becomes STARVED: both timers stop, VARIANT_STARVED is raised when a route is concerned,
the notice is sent, and the routes act (R89 to R92, R127). That the event goes before the notice, and the notice before
the ROUTE_CHANGE notices, is the model's choice (log entry 8). -/
def starve (v : VariantId) (cause : HealthCause) (s : State) : State :=
  match s.variant v with
  | none => s
  | some d =>
    if d.health = .starved then s
    else
      let s1 := s.setVariant v (some { d with health := .starved, starveTimer := none, recoverTimer := none })
      let s2 := if s.concerned v then raiseEvent .variantStarved (.variant v) s1 else s1
      allRoutes.foldl (starveRoute v) (notifyHealth v d.health .starved cause s2)

/-- A variant becomes HEALTHY, with the timers given: the notice is sent and the routes act (R89, R91, R92, R128). That the
notice goes before the ROUTE_CHANGE notices is the model's choice (log entry 8). -/
def becomeHealthy (v : VariantId) (d : VariantDef) (starve : Option Deadline) (cause : HealthCause) (s : State) : State :=
  let s1 := s.setVariant v (some { d with health := .healthy, starveTimer := starve, recoverTimer := none })
  allRoutes.foldl (healthyRoute v) (notifyHealth v d.health .healthy cause s1)

/-- An anchor arrival acts by the variant's health and the packet's error flag (R87). -/
def anchorArrival (v : VariantId) (err : Bool) (s : State) : State :=
  match s.variant v with
  | none => s
  | some d =>
    let st := some (d.starveNow s.clock)
    match d.health with
    | .starved =>
      if err then s
      else if d.recoverMs = 0 then becomeHealthy v d st .anchorArrival s
      else
        notifyHealth v .starved .recovering .anchorArrival
          (s.setVariant v (some { d with
            health := .recovering, starveTimer := st, recoverTimer := some (d.recoverNow s.clock) }))
    | .recovering =>
      s.setVariant v (some { d with
        starveTimer := st, recoverTimer := if err then some (d.recoverNow s.clock) else d.recoverTimer })
    | .healthy => s.setVariant v (some { d with starveTimer := st })

/-- An anchor continuity gap restarts the recovery timer of a RECOVERING variant (R88). -/
def anchorGap (v : VariantId) (s : State) : State :=
  match s.variant v with
  | none => s
  | some d =>
    if d.health = .recovering then s.setVariant v (some { d with recoverTimer := some (d.recoverNow s.clock) }) else s

/-- Whether a timer runs and has been reached. -/
def timerReached (t : Option Deadline) (now : Clock) : Bool :=
  match t with
  | some d => d.reached now
  | none => false

/-- Whether the anchor component of a variant is on a port (R30). -/
def State.anchoredOn (s : State) (p : PortId) (v : VariantId) : Bool :=
  match s.variant v with
  | none => false
  | some d =>
    match s.anchorOf d with
    | none => false
    | some c =>
      match s.component c with
      | some k => decide (k.port = p)
      | none => false

/-- A port reports that it is lost: every variant whose anchor component is on it becomes STARVED (R30, R35, R90). -/
def portLost (p : PortId) (cause : HealthCause) (s : State) : State :=
  (List.finRange 48).foldl (fun t v => if s.anchoredOn p v then starve v cause t else t) s

/-! ## The two expiries (R89) -/

/-- Whether a variant's starvation timer is reached. -/
def State.starvationDue (s : State) (v : VariantId) : Bool :=
  match s.variant v with
  | some d => timerReached d.starveTimer s.clock
  | none => false

/-- Whether a variant's recovery timer is reached. -/
def State.recoveryDue (s : State) (v : VariantId) : Bool :=
  match s.variant v with
  | some d => decide (d.health = .recovering) && timerReached d.recoverTimer s.clock
  | none => false

/-- Starvation expiry: the variant becomes STARVED and both timers stop (R89). -/
def starvationExpires (v : VariantId) (s : State) : State :=
  if s.starvationDue v then settle (starve v .starvationExpiry s) else s

/-- Recovery expiry: a RECOVERING variant becomes HEALTHY and its starvation timer runs on (R89). -/
def recoveryExpires (v : VariantId) (s : State) : State :=
  match s.variant v with
  | none => s
  | some d => if s.recoveryDue v then settle (becomeHealthy v d d.starveTimer .recoveryExpiry s) else s

/-- STARVATION_EXPIRY (R89). Before its moment it does nothing (log entry 15). -/
def execStarvationExpiry (v : VariantId) (s : State) : Host.Outcome State Fault Refusal := .next (starvationExpires v s)

/-- RECOVERY_EXPIRY (R89). Before its moment it does nothing (log entry 15). -/
def execRecoveryExpiry (v : VariantId) (s : State) : Host.Outcome State Fault Refusal := .next (recoveryExpires v s)

end Sys2Proof.Machine
end

