-- ==== Sys2Proof/Machine/Slots.lean ====
section
/-!
DEFINITION. The service slots and their three requests (5.1).
-/
namespace Sys2Proof.Machine

/-- The role entry of a role. -/
def SlotDef.entry (d : SlotDef) (r : RoleId) : Option SlotRole := d.roles.find? fun e => decide (e.role = r)

/-- Whether a role is one of the slot's. -/
def SlotDef.hasRole (d : SlotDef) (r : RoleId) : Bool := (d.entry r).isSome

/-- A slot on a link: the state, the role entries, the anchor role and the clock-bearing role (R80). -/
def eSlot : Option SlotDef → List Byte
  | none => e1 0
  | some d =>
    e1 1 ++ eList (fun e : SlotRole => e1 e.role ++ e2 e.out.toNat ++ eOpt (fun c : ComponentId => e1 c) e.national) d.roles ++
      e1 d.anchor ++ eOpt (fun r : RoleId => e1 r) d.clockRole

/-- A role entry of SLOT_WRITE (5.1.1). -/
def rSlotRole : Reader SlotRole := fun b =>
  (rThen (rIndex 6) (rThen rIdent (rOpt (rIndex 256))) b).map fun x =>
    match x with
    | ((r, out, c), rest) => ({ role := r, out := out, national := c }, rest)

/-- The layout of SLOT_WRITE: the slot, the anchor role, the clock-bearing role and the role entries (5.1.1). -/
def rSlotWrite : Reader (SlotId × SlotDef) := fun b =>
  (rThen (rIndex 24) (rThen (rIndex 6) (rThen (rOpt (rIndex 6)) (rList 6 rSlotRole))) b).map fun x =>
    match x with
    | ((sl, anchor, clk, roles), rest) => ((sl, { roles := roles, anchor := anchor, clockRole := clk }), rest)

/-- Whether no entry of a list stands in it twice. -/
def distinct {α : Type} [DecidableEq α] : List α → Bool
  | [] => true
  | x :: rest => !rest.contains x && distinct rest

/-- The national components that a slot names. -/
def SlotDef.components (d : SlotDef) : List ComponentId := d.roles.filterMap SlotRole.national

/-- Whether a component may be bound: it is DEFINED with the full mask (R46). -/
def State.bindable (s : State) (c : ComponentId) : Bool :=
  match s.component c with
  | some k => decide (k.mask = fullMask)
  | none => false

/-- The first stage of SLOT_WRITE: the request's own structure (R75). -/
def State.slotFieldsOk (s : State) (d : SlotDef) : Bool :=
  !d.roles.isEmpty && distinct (d.roles.map SlotRole.role) && (d.roles.all fun e => !isNull e.out) &&
    distinct (d.roles.map SlotRole.out) && d.hasRole d.anchor &&
    (match d.clockRole with
      | some r => d.hasRole r
      | none => true) &&
    distinct d.components && d.components.all s.bindable

/-- Whether a binding keeps a component from a national role of a slot (R76). -/
def Binding.blocksSlot (b : Binding) (sl : SlotId) : Bool :=
  match b with
  | .unbound => false
  | .national sl' _ => decide (sl' ≠ sl)
  | .common _ _ | .variant _ _ => true

/-- Whether a component's binding is one of those told by `f`. -/
def State.boundAs (s : State) (f : Binding → Bool) (c : ComponentId) : Bool :=
  match s.component c with
  | some k => f k.binding
  | none => false

/-- The lowest region whose route of the slot is not STEADY on NATIONAL (R76, log entry 31). -/
def State.offNational (s : State) (sl : SlotId) : Option RegionId :=
  (List.finRange 8).find? fun g => !(decide ((s.route g sl).state = .steady) && decide ((s.route g sl).current = .national))

/-- The first cue in schedule order that names the slot (R76, log entry 31). -/
def State.cueNaming (s : State) (sl : SlotId) : Option Cue := s.cues.find? fun c => decide (c.slot = sl)

/-- The lowest DEFINED variant of the slot that satisfies a condition (R76, R79, log entry 31). -/
def State.variantOf (s : State) (sl : SlotId) (p : VariantDef → Bool) : Option VariantId :=
  (List.finRange 48).find? fun v =>
    match s.variant v with
    | some d => decide (d.slot = sl) && p d
    | none => false

/-- A first reason with the object concerned, as object references (R200). -/
def reasonRefs (n : Nat) (o : ObjRef) : List ObjRef := [.reason n, o]

/-- The second stage of SLOT_WRITE: the first reason for IN_USE, in the order of the list of R76. Where that reason holds
for several objects, the one named is the model's choice (log entry 31). -/
def State.slotInUse (s : State) (sl : SlotId) (d : SlotDef) : Option (List ObjRef) :=
  ((d.components.find? (s.boundAs fun b => b.blocksSlot sl)).map fun c => reasonRefs 0 (.component c))
  <|> ((s.offNational sl).map fun g => reasonRefs 1 (.region g))
  <|> ((s.cueNaming sl).map fun c => reasonRefs 2 (.cue c.id))
  <|> ((s.variantOf sl fun v => v.comps.any fun x => !d.hasRole x.1).map fun v => reasonRefs 3 (.variant v))
  <|> ((s.variantOf sl fun v => !(v.comps.any fun x => decide (x.1 = d.anchor))).map fun v => reasonRefs 4 (.variant v))

/-- Whether a registry entry is a slot's own. -/
def ownSlot (sl : SlotId) (e : RegEntry) : Bool :=
  match e.definer with
  | .slotRole sl' _ => decide (sl' = sl)
  | .component _ | .carousel _ => false

/-- The registrations of a slot, the same in every region (R77). -/
def SlotDef.registrations (d : SlotDef) (sl : SlotId) : List Registration := d.roles.map fun e => (e.out, .slotRole sl e.role)

/-- Every component bound NATIONAL to a slot becomes UNBOUND (R78, R79). -/
def unbindNational (sl : SlotId) (s : State) : State :=
  { s with components := s.components.map fun c =>
      match c with
      | none => none
      | some k =>
        match k.binding with
        | .national sl' _ => if sl' = sl then some { k with binding := .unbound } else some k
        | .unbound | .common _ _ | .variant _ _ => some k }

/-- A component takes a binding; its other fields are kept (R78, R83). -/
def bindComponent (b : Binding) (c : ComponentId) (s : State) : State :=
  match s.component c with
  | some k => s.setComponent c (some { k with binding := b })
  | none => s

/-- The national component that a role entry names is bound to it (R78). -/
def bindRole (sl : SlotId) (s : State) (e : SlotRole) : State :=
  match e.national with
  | some c => bindComponent (.national sl e.role) c s
  | none => s

/-- The effect of a SLOT_WRITE that passes all three stages (R78). -/
def writeSlot (sl : SlotId) (d : SlotDef) (s : State) : State :=
  rewriteAll (ownSlot sl) (fun _ => d.registrations sl) ((d.roles.foldl (bindRole sl) (unbindNational sl s)).setSlot sl (some d))

/-- SLOT_WRITE: its three stages and its effect (R75 to R78). -/
def doSlotWrite (x : SlotId × SlotDef) (s : State) : Answer :=
  let sl := x.1
  let d := x.2
  if !s.slotFieldsOk d then .refused .badField []
  else
    match s.slotInUse sl d with
    | some refs => .refused .inUse refs
    | none =>
      match s.regRefusal (ownSlot sl) (fun _ => d.registrations sl) with
      | some (g, why) => .refused why.result (why.refs g)
      | none => .ok (eSlot (some d)) (writeSlot sl d s)

/-- SLOT_WRITE (5.1.1). -/
def execSlotWrite (l : Link) (s : State) : Host.Outcome State Fault Refusal :=
  .next (serve l 0x12 mgmtLink (readAll rSlotWrite) doSlotWrite s)

/-- The first reason for refusing SLOT_CLEAR, in the order of R79. Where it holds for several objects, the one named is the
model's choice (log entry 31). -/
def State.slotClearInUse (s : State) (sl : SlotId) : Option (List ObjRef) :=
  ((s.offNational sl).map fun g => reasonRefs 0 (.region g))
  <|> ((s.cueNaming sl).map fun c => reasonRefs 1 (.cue c.id))
  <|> ((s.variantOf sl fun _ => true).map fun v => reasonRefs 2 (.variant v))

/-- SLOT_CLEAR (R79). -/
def doSlotClear (sl : SlotId) (s : State) : Answer :=
  match s.slotClearInUse sl with
  | some refs => .refused .inUse refs
  | none => .ok [] (rewriteAll (ownSlot sl) (fun _ => []) ((unbindNational sl s).setSlot sl none))

/-- SLOT_CLEAR (R79). -/
def execSlotClear (l : Link) (s : State) : Host.Outcome State Fault Refusal :=
  .next (serve l 0x13 mgmtLink (readAll (rIndex 24)) doSlotClear s)

/-- The DEFINED variants of a slot in ascending number (R80). -/
def State.variantsOf (s : State) (sl : SlotId) : List VariantId :=
  (List.finRange 48).filter fun v =>
    match s.variant v with
    | some d => decide (d.slot = sl)
    | none => false

/-- The SLOT_READ answer (R80). -/
def doSlotRead (sl : SlotId) (s : State) : Answer :=
  .ok (eSlot (s.slot sl) ++
    (match s.slot sl with
      | some _ => eList (fun v : VariantId => e1 v) (s.variantsOf sl)
      | none => [])) s

/-- SLOT_READ (R80). -/
def execSlotRead (l : Link) (s : State) : Host.Outcome State Fault Refusal :=
  .next (serve l 0x14 bothLinks (readAll (rIndex 24)) doSlotRead s)

end Sys2Proof.Machine
end

