-- ==== Sys2Proof/Machine/Classifier.lean ====
section
/-!
DEFINITION. The classifier: its arbiter, the eight steps of handling one packet, and the placing of copies into the pool
(chapter 3).
-/
namespace Sys2Proof.Machine

/-! ## Steps 3 and 4: matching and continuity -/

/-- The number of bits set in a mask. -/
def maskBits (m : Ident) : Nat := (List.range 13).foldl (fun n i => n + (m.getLsbD i).toNat) 0

/-- Whether an entry is a candidate for an identifier on a port (R50). -/
def Component.candidate (k : Component) (p : PortId) (i : Ident) : Bool := decide (k.port = p) && decide (i &&& k.mask = k.ident)

/-- The better of the winner so far and the next component in ascending number: one with more mask bits (R50). -/
def State.better (s : State) (p : PortId) (i : Ident) (best : Option (ComponentId × Component)) (c : ComponentId) :
    Option (ComponentId × Component) :=
  match s.component c with
  | none => best
  | some k =>
    if k.candidate p i then
      match best with
      | none => some (c, k)
      | some b => if maskBits b.2.mask < maskBits k.mask then some (c, k) else some b
    else best

/-- The component that an identifier on a port belongs to: of the candidates, the one with the most mask bits, and among
equals the lowest number (R50). -/
def State.matching (s : State) (p : PortId) (i : Ident) : Option (ComponentId × Component) :=
  (List.finRange 256).foldl (s.better p i) none

/-- Whether a packet is a continuity gap after the last seen count (R52). -/
def isGap (last : Option Continuity) (p : Packet) : Bool :=
  match last with
  | none => false
  | some c =>
    if discFlag p then false
    else if carriesPayload p then decide (continuity p ≠ c + 1) && decide (continuity p ≠ c)
    else decide (continuity p ≠ c)

/-- The variant whose anchor component a binding makes: it is bound VARIANT in its slot's anchor role (R53, R55). -/
def State.anchoring (s : State) (b : Binding) : Option VariantId :=
  match b with
  | .unbound | .common _ _ | .national _ _ => none
  | .variant v r =>
    match s.variant v with
    | none => none
    | some d =>
      match s.slot d.slot with
      | some sd => if sd.anchor = r then some v else none
      | none => none

/-- A continuity gap: the port's flag, the event, and the report to the variant's health machine (R53). That PORT_STATE
joins the management link's queue before the event's notice is the model's choice (log entry 8). -/
def reportGap (p : PortId) (c : ComponentId) (b : Binding) (s : State) : State :=
  let s1 := raiseEvent .continuityGap (.component c) (raiseFlag p PortFlags.withContinuity s)
  match s1.anchoring b with
  | some v => anchorGap v s1
  | none => s1

/-- The last seen count becomes the packet's count, and a gap is reported (R52, R53). -/
def checkContinuity (p : PortId) (c : ComponentId) (k : Component) (q : Packet) (s : State) : State :=
  let s1 := s.setComponent c (some { k with lastSeen := some (continuity q) })
  if isGap k.lastSeen q then reportGap p c k.binding s1 else s1

/-! ## Step 5: the meter -/

/-- The meter of a component judges a packet: whether the handling goes on, and the state after it (R67, R72). -/
def meterPacket (k : Component) (a : Arrived) (s : State) : Bool × State :=
  match k.meter with
  | none => (true, s)
  | some m =>
    match (s.meter m).defn with
    | none => (true, s)
    | some d =>
      let j := d.judge a.packet a.arrival
      if j.2 then (true, s.setMeter m { s.meter m with defn := some j.1 })
      else
        let s1 := s.setMeter m { defn := some j.1, excess := true }
        match k.cls with
        | .essential => (true, raiseEvent .meterExcess (.meter m) s1)
        | .expendable => (false, s1)

/-! ## Step 6: reports -/

/-- The source of which a packet of a binding is an anchor packet: its slot, and NATIONAL or the variant (R56). -/
def State.anchorSource (s : State) (b : Binding) : Option (SlotId × Target) :=
  match b with
  | .unbound | .common _ _ => none
  | .national sl r =>
    match s.slot sl with
    | some sd => if sd.anchor = r then some (sl, .national) else none
    | none => none
  | .variant v r =>
    match s.variant v with
    | none => none
    | some d =>
      match s.slot d.slot with
      | some sd => if sd.anchor = r then some (d.slot, .variant v) else none
      | none => none

/-- The anchor arrival report, complete before the mark report (R55, R56). -/
def reportArrival (b : Binding) (q : Packet) (s : State) : State :=
  match s.anchoring b with
  | some v => anchorArrival v (errorFlag q) s
  | none => s

/-- The mark report (R56). -/
def reportMark (b : Binding) (q : Packet) (s : State) : State :=
  match s.anchorSource b with
  | some (sl, t) => if entryFlag q && !errorFlag q then takeMark sl t s else s
  | none => s

/-! ## Steps 7 and 8: copies and the pool -/

/-- A region copy: the region, the slot whose route it is for (absent for COMMON), and the fields of its queue entry
that the classifier decides (R57, R58). -/
structure RegionCopy where
  region : RegionId
  slot : Option SlotId
  cls : CompClass
  out : Ident
  clockBearing : Bool
  deriving DecidableEq, Repr

/-- The RUNNING regions, ascending. -/
def State.running (s : State) : List RegionId := (List.finRange 8).filter fun g => (s.region g).clk.isSome

/-- The copies of a slot's role for the regions whose route carries a source (R58). -/
def State.roleCopies (s : State) (k : Component) (sl : SlotId) (r : RoleId) (src : Source) : List RegionCopy :=
  match s.slot sl with
  | none => []
  | some sd =>
    match sd.entry r with
    | none => []
    | some e =>
      (s.running.filter fun g => decide ((s.route g sl).current = src)).map fun g =>
        { region := g, slot := some sl, cls := k.cls, out := e.out,
          clockBearing := k.clockBearing || decide (sd.clockRole = some r) }

/-- The region copies of a packet of a component (R57, R58). -/
def State.copies (s : State) (k : Component) : List RegionCopy :=
  match k.binding with
  | .unbound => []
  | .common mask out =>
    (s.running.filter fun g : RegionId => mask.getLsbD g).map fun g =>
      { region := g, slot := none, cls := k.cls, out := out, clockBearing := k.clockBearing }
  | .national sl r => s.roleCopies k sl r .national
  | .variant v r =>
    match s.variant v with
    | some d => s.roleCopies k d.slot r (.variant v)
    | none => []

/-- Whether a copy takes its route's mark-pending flag (R59). -/
def State.takesMark (s : State) (x : RegionCopy) (q : Packet) : Bool :=
  match x.slot with
  | some sl => (s.route x.region sl).markPending && x.clockBearing && hasSample q
  | none => false

/-- An accepted copy's queue entry (R59). -/
def State.entryOf (s : State) (x : RegionCopy) (buf : Nat) (a : Arrived) : QEntry :=
  { buf := buf, arrival := a.arrival, out := x.out, clockBearing := x.clockBearing, setDisc := s.takesMark x a.packet }

/-- The route's mark-pending flag is cleared by the copy that takes it (R59). -/
def clearMark (x : RegionCopy) (s : State) : State :=
  match x.slot with
  | some sl => s.setRoute x.region sl { s.route x.region sl with markPending := false }
  | none => s

/-- An accepted copy joins its queue (R59, R147). -/
def joinQueue (x : RegionCopy) (e : QEntry) (s : State) : State :=
  let r := s.region x.region
  let s1 := if e.setDisc then clearMark x s else s
  match x.cls with
  | .essential => s1.setRegion x.region { r with mainQ := r.mainQ ++ [e] }
  | .expendable => s1.setRegion x.region { r with expQ := r.expQ ++ [e] }

/-- Whether the queue that a copy is offered to has room (R147). -/
def State.hasRoom (s : State) (x : RegionCopy) : Bool :=
  match x.cls with
  | .essential => decide ((s.region x.region).mainQ.length < Config.mainCap)
  | .expendable => decide ((s.region x.region).expQ.length < Config.expendableCap)

/-- The overflow event of a class (R147). -/
def CompClass.overflow : CompClass → Cause
  | .essential => .mainOverflow
  | .expendable => .expendableOverflow

/-- A region copy is offered to its queue; with it, the number of copies accepted so far (R62, R147). -/
def offerCopy (buf : Nat) (a : Arrived) (acc : Nat × State) (x : RegionCopy) : Nat × State :=
  if acc.2.hasRoom x then (acc.1 + 1, joinQueue x (acc.2.entryOf x buf a) acc.2)
  else (acc.1, raiseEvent x.cls.overflow (.region x.region) acc.2)

/-- The capture copy of a packet is offered to the ring; the number of copies accepted (R62, R179). -/
def offerFirst (buf : Nat) (p : PortId) (a : Arrived) (cap : Option CapReason) (s : State) : Nat × State :=
  match cap with
  | none => (0, s)
  | some why =>
    let x := offerCapture { buf := buf, reason := why, port := p, arrival := a.arrival } s
    (x.1.toNat, x.2)

/-- The pool with the packet's buffer holding as many references as copies were accepted; free where none was
(R60 to R62). -/
def keepBuffer (buf : Nat) (q : Packet) (n : Nat) (s : State) : State :=
  if n = 0 then s else { s with pool := s.pool ++ [{ id := buf, packet := q, refs := n }] }

/-- Step 8: a packet with copies takes one buffer and each copy is offered; without a free buffer the packet is
discarded whole (R61, R62). The order of the offers is log entry 7. -/
def placeCopies (p : PortId) (a : Arrived) (cap : Option CapReason) (xs : List RegionCopy) (s : State) : State :=
  if cap.isNone && xs.isEmpty then s
  else if Config.poolCap ≤ s.pool.length then raiseEvent .poolEmpty (.port p) s
  else
    let buf := freshBuffer s.pool
    let r := xs.foldl (offerCopy buf a) (offerFirst buf p a cap s)
    keepBuffer buf a.packet r.1 r.2

/-! ## The handling of one packet (R42) -/

/-- A policy applied to a packet: it is discarded, or makes one capture copy (R35, R36). -/
def applyPolicy (pol : Policy) (why : CapReason) (p : PortId) (a : Arrived) (s : State) : State :=
  match pol with
  | .discard => s
  | .capture => placeCopies p a (some why) [] s

/-- Steps 4 to 8 for a packet of a component (R42). -/
def handleMatched (p : PortId) (a : Arrived) (c : ComponentId) (k : Component) (s : State) : State :=
  let j := meterPacket k a (checkContinuity p c k a.packet s)
  if j.1 then
    let s1 := reportMark k.binding a.packet (reportArrival k.binding a.packet j.2)
    placeCopies p a (if k.capture then some .component else none) (s1.copies k) s1
  else j.2

/-- The eight steps (R42): admission, then the null test, then matching and what follows it. Step 1 ends the handling of
every packet of a port that is NOT_ADMITTED; its CAPTURE policy makes no copy of a null packet, which is never captured
for any reason (R4, 10.2, log entry 22). -/
def handlePacket (p : PortId) (a : Arrived) (s : State) : State :=
  match (s.port p).admission with
  | .notAdmitted =>
    if ident a.packet = nullIdent then s else applyPolicy (s.port p).unadmitted .unadmitted p a s
  | .admitted =>
    if ident a.packet = nullIdent then s
    else
      match s.matching p (ident a.packet) with
      | none => applyPolicy (s.port p).unmatched .unmatched p a s
      | some (c, k) => handleMatched p a c k s

/-- The port that the arbiter serves next (R41). -/
def State.nextPort (s : State) : Option PortId := (roundFrom s.lastServed).find? fun p => !(s.port p).fifo.isEmpty

/-- The classifier takes the oldest entry of the next port's FIFO and handles it (R41, R42). -/
def takePacket (s : State) : State :=
  match s.nextPort with
  | none => s
  | some p =>
    match (s.port p).fifo with
    | [] => s
    | a :: rest =>
      settle (handlePacket p a { s.setPort p { s.port p with fifo := rest } with lastServed := p })

/-- CLASSIFIER_TAKE (R42). With every FIFO empty the classifier waits. -/
def execClassifierTake (s : State) : Host.Outcome State Fault Refusal := .next (takePacket s)

end Sys2Proof.Machine
end

