-- ==== Sys2Proof/Machine/Cues.lean ====
section
/-!
DEFINITION. The switch schedule's requests and the moment at which a cue falls due (chapter 6).
-/
namespace Sys2Proof.Machine

/-- The fields of CUE_ADD (R95). -/
structure CueAdd where
  id : Nat
  due : Nat
  mask : RegionMask
  slot : SlotId
  target : Target
  policy : SwitchPolicy
  wait : Nat
  rpt : Repeat
  owner : Nat
  deriving DecidableEq, Repr

/-- A cue id that is not 0 (R95, R104, R107, R109). -/
def rCueId : Reader Nat := rWhen (rNat 2) fun n => decide (n ≠ 0)

/-- The layout of CUE_ADD (R95). -/
def rCueAdd : Reader CueAdd := fun b =>
  (rThen rCueId (rThen rStation (rThen rMask (rThen (rIndex 24) (rThen rTarget
    (rThen (rEnum [SwitchPolicy.immediate, .atMark, .onConfirm]) (rThen (rNat 4)
      (rThen (rEnum [Repeat.once, .daily]) rOwner))))))) b).map fun x =>
        match x with
        | ((id, due, mask, sl, t, p, w, r, o), rest) =>
          ({ id := id, due := due, mask := mask, slot := sl, target := t, policy := p, wait := w, rpt := r, owner := o },
            rest)

/-- The wait limit as taken: clamped by the policy's range, and absent under IMMEDIATE (R95). -/
def SwitchPolicy.waitTaken (p : SwitchPolicy) (ms : Nat) : Option Nat :=
  match p with
  | .immediate => none
  | .atMark => some (clamp 0 10000 ms)
  | .onConfirm => some (clamp 1000 600000 ms)

/-- Whether a slot is DEFINED and a target is NATIONAL or a DEFINED variant of it (R96, R129). -/
def State.targetOk (s : State) (sl : SlotId) (t : Target) : Bool :=
  (s.slot sl).isSome &&
    match t with
    | .national => true
    | .variant v =>
      match s.variant v with
      | some d => decide (d.slot = sl)
      | none => false

/-- The cue as CUE_ADD enters it, with a due time: PENDING, every outcome NONE (R97). -/
def CueAdd.cue (x : CueAdd) (due : Nat) : Cue :=
  { id := x.id, due := due, mask := x.mask, slot := x.slot, target := x.target, policy := x.policy,
    waitMs := x.policy.waitTaken x.wait, rpt := x.rpt, owner := x.owner, state := .pending,
    outcomes := (regionsOf x.mask).map fun g => (g, .none), insertion := 0 }

/-- The OK reply of CUE_ADD (R97). -/
def CueAdd.reply (x : CueAdd) (due : Nat) (fell : Bool) : List Byte :=
  e2 x.id ++ eStation due ++ eOpt e4 (x.policy.waitTaken x.wait) ++ eFlag fell

/-- A cue falls due, behind every PENDING cue of the same tick that stands before it in schedule order, and with every
cue that falls due in consequence (R97, R98, log entry 34). -/
def fallNow (id : Nat) (s : State) : State := settle { s with falling := [id] }

/-- A CUE_ADD that is not refused, by its lateness (R97). The due time in the reply is the one entered, also where a DAILY
cue falls due, completes and is re-entered within the request (log entry 35). -/
def addCue (x : CueAdd) (late : Nat) (s : State) : Answer :=
  if Config.halfSpan ≤ late then .ok (x.reply x.due false) (enterCue (x.cue x.due) s)
  else if late ≤ Config.lateLimit then .ok (x.reply x.due true) (fallNow x.id (enterCue (x.cue x.due) s))
  else
    let due := advanceDue x.due late
    .ok (x.reply due false) (enterCue (x.cue due) s)

/-- CUE_ADD: the checks of R96 in order, and the effect (R96, R97). -/
def doCueAdd (x : CueAdd) (s : State) : Answer :=
  match s.station with
  | none => .refused .notReady []
  | some now =>
    let late := lateness now x.due
    if Config.cueCap ≤ s.cues.length then .refused .full []
    else if (s.cue x.id).isSome then .refused .duplicate []
    else if !s.targetOk x.slot x.target then .refused .badField []
    else
      match s.claimedBy x.mask x.owner with
      | some y => .refused .claimed (claimRefs y)
      | none =>
        if decide (x.rpt = .once) && decide (Config.lateLimit < late) && decide (late < Config.halfSpan) then
          .refused .tooLate []
        else addCue x late s

/-- CUE_ADD (R95). -/
def execCueAdd (l : Link) (s : State) : Host.Outcome State Fault Refusal :=
  .next (serve l 0x1B bothLinks (readAll rCueAdd) doCueAdd s)

/-- The first PENDING cue in schedule order whose due time station time has reached: its lateness is 0 (R98). -/
def State.dueCue (s : State) : Option Cue :=
  s.cues.find? s.isDue

/-- A cue falls due at its tick (R98). -/
def cueDue (s : State) : State :=
  match s.dueCue with
  | some c => fallNow c.id s
  | none => s

/-- CUE_FALLS_DUE (R98). While no cue is due it does nothing (log entry 15). -/
def execCueFallsDue (s : State) : Host.Outcome State Fault Refusal := .next (cueDue s)

/-- The cue with its missing outcomes CANCELLED (R105, R106). -/
def Cue.cancelled (c : Cue) : Cue :=
  { c with outcomes := c.outcomes.map fun x => if x.2 = .none then (x.1, .cancelled) else x }

/-- A cue is cancelled: the routes that wait on it abandon their waits, CUE_DONE goes to both links, and the cue is
removed even when DAILY (R105, R106). -/
def cancelCue (c : Cue) (s : State) : State :=
  let s1 := removeCue c.id s
  let s2 :=
    match c.state with
    | .pending => s1
    | .active => (regionsOf c.mask).foldl (cancelRoute c.id c.slot) s1
  notifyBoth (.cueDone c.cancelled none) s2

/-- CUE_CANCEL (R104 to R106). -/
def doCueCancel (x : Nat × Nat) (s : State) : Answer :=
  match s.cue x.1 with
  | none => .refused .unknown []
  | some c =>
    match s.claimedBy c.mask x.2 with
    | some y => .refused .claimed (claimRefs y)
    | none => .ok (e1 c.state.code ++ eList eOutcome c.cancelled.outcomes) (cancelCue c s)

/-- CUE_CANCEL (R104). -/
def execCueCancel (l : Link) (s : State) : Host.Outcome State Fault Refusal :=
  .next (serve l 0x1C bothLinks (readAll (rThen rCueId rOwner)) doCueCancel s)

/-- The outcome that a confirmation gives each waiting region of a cue (R108, R125). -/
def State.confirmOutcome (s : State) (c : Cue) : CueOutcome := if s.fit c.target then .switched else .fallback

/-- The outcomes of a cue after its confirmation (R108). -/
def State.confirmed (s : State) (c : Cue) : List (RegionId × CueOutcome) :=
  c.outcomes.map fun x => if x.2 = .none then (x.1, s.confirmOutcome c) else x

/-- A confirmation reaches the routes of a cue (R108). -/
def confirmCue (c : Cue) (s : State) : State := settle ((regionsOf c.mask).foldl (confirmRoute c.id c.slot) s)

/-- CUE_CONFIRM: the checks of R107 in order, and the effect (R107, R108). -/
def doCueConfirm (x : Nat × Nat) (s : State) : Answer :=
  match s.cue x.1 with
  | none => .refused .unknown []
  | some c =>
    match s.claimedBy c.mask x.2 with
    | some y => .refused .claimed (claimRefs y)
    | none =>
      if c.state = .pending then .refused .notDue []
      else if c.policy ≠ .onConfirm then .refused .wrongPolicy []
      else .ok (eList eOutcome (s.confirmed c)) (confirmCue c s)

/-- CUE_CONFIRM (R107). -/
def execCueConfirm (l : Link) (s : State) : Host.Outcome State Fault Refusal :=
  .next (serve l 0x1D bothLinks (readAll (rThen rCueId rOwner)) doCueConfirm s)

/-- The selector of CUE_LIST (R109). -/
inductive CueSelect where
  | byId (id : Nat)
  | from (pos : Nat)
  deriving DecidableEq, Repr

/-- The layout of CUE_LIST: exactly one of two selectors, each an optional field (R109, log entry 10). -/
def rCueList : Reader CueSelect := fun b =>
  match rThen (rOpt rCueId) (rOpt (rWhen (rNat 1) fun n => decide (n ≤ 127))) b with
  | some ((some id, none), rest) => some (.byId id, rest)
  | some ((none, some pos), rest) => some (.from pos, rest)
  | some ((some _, some _), _) | some ((none, none), _) | none => none

/-- The regions still waiting on a cue, each with the local clock value of its deadline (R109). -/
def State.waits (s : State) (c : Cue) : List (RegionId × Deadline) :=
  (regionsOf c.mask).filterMap fun g =>
    let r := s.route g c.slot
    if r.waiter = some (.cue c.id) then r.state.deadline.map fun d => (g, d) else none

/-- A cue with its position as CUE_LIST reports it (R109). -/
def eCue (s : State) (x : Cue × Nat) : List Byte :=
  let c := x.1
  e1 x.2 ++ e2 c.id ++ eStation c.due ++ [c.mask] ++ e1 c.slot ++ eTarget c.target ++ e1 c.policy.code ++
    eOpt e4 c.waitMs ++ e1 c.rpt.code ++ e1 c.owner ++ e1 c.state.code ++ eList eOutcome c.outcomes ++ e4 c.insertion ++
    eList (fun y : RegionId × Deadline => e1 y.1 ++ eClock y.2.value) (s.waits c)

/-- The CUE_LIST reply for the cues selected (R109). -/
def cueListReply (s : State) (sel : List (Cue × Nat)) : Answer :=
  .ok (eList (eCue s) sel ++ e2 s.cues.length ++ e2 s.changes.toNat ++ eFlag s.offset.isSome) s

/-- CUE_LIST (R109). The one cue of a request by id stands as a list of one entry, with its count byte (log entry 13). -/
def doCueList (x : CueSelect) (s : State) : Answer :=
  match x with
  | .byId id =>
    match s.cues.zipIdx.find? fun c => decide (c.1.id = id) with
    | some c => cueListReply s [c]
    | none => .refused .unknown []
  | .from pos => cueListReply s ((s.cues.zipIdx.drop pos).take 8)

/-- CUE_LIST (R109). -/
def execCueList (l : Link) (s : State) : Host.Outcome State Fault Refusal :=
  .next (serve l 0x1E bothLinks (readAll rCueList) doCueList s)

end Sys2Proof.Machine
end

