-- ==== Sys2Proof/Machine/General.lean ====
section
/-!
DEFINITION. The resets, the link's own commands, the general requests and the time requests (chapters 1 and 11).
-/
namespace Sys2Proof.Machine

/-! ## Resets and links -/

/-- POWER_ON_RESET (R198). -/
def execPowerOnReset (s : State) : Host.Outcome State Fault Refusal := .next (resetPart .powerOn s)

/-- Whether the management link is sending the RESET reply. -/
def State.sendsResetReply (s : State) : Bool :=
  match s.mgmt.tx with
  | some t => t.resetReply
  | none => false

/-- RESET_TAKES_EFFECT: the last byte of the RESET reply has been sent (R198). While that reply is not being sent it
does nothing (log entry 15). -/
def execResetTakesEffect (s : State) : Host.Outcome State Fault Refusal :=
  .next (if s.sendsResetReply then resetPart .request s else s)

/-- LINK_BYTE_RECEIVED (R186). -/
def execLinkByteReceived (l : Link) (b : Byte) (s : State) : Host.Outcome State Fault Refusal := .next (receiveByte l b s)

/-- FRAME_GAP_TIMEOUT (R186). Before the gap exceeds 50 ms it does nothing (log entry 15). -/
def execFrameGapTimeout (l : Link) (s : State) : Host.Outcome State Fault Refusal := .next (closeGap l s)

/-- FRAME_SEND_BEGIN (R190). With nothing to send it does nothing (log entry 15). -/
def execFrameSendBegin (l : Link) (s : State) : Host.Outcome State Fault Refusal := .next (beginSend l s)

/-- A transmitter completes its frame and is free; the end of the RESET reply makes the reset take effect
(R190, R198, log entry 20). -/
def frameDone (l : Link) (s : State) : State :=
  match (s.link l).tx with
  | none => s
  | some t => if t.resetReply then resetPart .request s else s.setLink l { s.link l with tx := none }

/-- FRAME_SENT (R190). On a link that sends nothing it does nothing (log entry 15). -/
def execFrameSent (l : Link) (s : State) : Host.Outcome State Fault Refusal := .next (frameDone l s)

/-- A taken request whose kind is no request kind is refused UNSUPPORTED (R188, R189). -/
def refuseUnsupported (l : Link) (s : State) : State :=
  match takeRequest l s with
  | none => s
  | some (f, s1) => if isRequestKind f.kind then s else refuse l f .unsupported [] s1

/-- UNSUPPORTED_KIND (R189). -/
def execUnsupportedKind (l : Link) (s : State) : Host.Outcome State Fault Refusal := .next (refuseUnsupported l s)

/-! ## IDENTIFY and the status requests -/

/-- The capacities of R199, in its order. -/
def capacityBytes : List Byte :=
  [12, 64, 256, 32, 4096, 24, 6, 48, 128, 8, 512, 256, 192, 16, 32, 1024, 64, 128, 8, 4, 8, 32].flatMap e2 ++ e4 1600

/-- The IDENTIFY answer (R199). -/
def doIdentify (l : Link) (_ : Unit) (s : State) : Answer :=
  .ok (e2 Config.partCode ++ [Config.siliconRevision] ++ e1 (linkCode l) ++ capacityBytes) s

/-- IDENTIFY (R199). -/
def execIdentify (l : Link) (s : State) : Host.Outcome State Fault Refusal :=
  .next (serve l 0x01 bothLinks (readAll rNothing) (doIdentify l) s)

/-- The state of a link as STATUS_READ gives it (R195). -/
def eLink (k : LinkState) : List Byte :=
  e2 k.requests.length ++ e2 k.replies.length ++ e2 k.notices.length ++ eFlag k.lost ++ eClasses k.enables

/-- The STATUS_READ answer, with the management link's part before the cue link's (R195, log entry 13). -/
def doStatusRead (_ : Unit) (s : State) : Answer :=
  .ok (eClock s.clock ++ eFlag s.offset.isSome ++ eClasses s.detected ++ e2 s.poolFree ++ e2 s.carouselFree ++
    e2 s.cues.length ++ eLink s.mgmt ++ eLink s.cueLink) s

/-- STATUS_READ (R195). -/
def execStatusRead (l : Link) (s : State) : Host.Outcome State Fault Refusal :=
  .next (serve l 0x02 bothLinks (readAll rNothing) doStatusRead s)

/-- The STATUS_CLEAR effect (R196). -/
def doStatusClear (b : Byte) (s : State) : Answer :=
  .ok (eClasses s.detected ++ eClasses (s.detected.without b)) { s with detected := s.detected.without b }

/-- STATUS_CLEAR (R196). -/
def execStatusClear (l : Link) (s : State) : Host.Outcome State Fault Refusal :=
  .next (serve l 0x03 mgmtLink (readAll rSet4) doStatusClear s)

/-- The link and enables of REPORT_SET (R197, log entry 9). -/
def rReportSet : Reader (Link × Byte) := rThen (rEnum [Link.management, Link.cue]) rSet4

/-- The REPORT_SET effect; the reply gives the management link's enables before the cue link's (R197, log entry 13). -/
def doReportSet (x : Link × Byte) (s : State) : Answer :=
  let s' := s.setLink x.1 { s.link x.1 with enables := ClassSet.ofByte x.2 }
  .ok (eClasses s'.mgmt.enables ++ eClasses s'.cueLink.enables) s'

/-- REPORT_SET (R197). -/
def execReportSet (l : Link) (s : State) : Host.Outcome State Fault Refusal :=
  .next (serve l 0x04 mgmtLink (readAll rReportSet) doReportSet s)

/-- The RESET request is taken: from now on neither link takes a request (R198). -/
def doReset (_ : Unit) (s : State) : Answer := .ok [] { s with resetting := true }

/-- RESET (R198). -/
def execReset (l : Link) (s : State) : Host.Outcome State Fault Refusal :=
  .next (serve l 0x05 mgmtLink (readAll rNothing) doReset s)

/-! ## Time -/

/-- The offset that makes station time equal a station tick count now (R17). -/
def offsetFor (clock : Clock) (station : Nat) : Nat := (station + (Config.stationSpan - clock.toNat)) % Config.stationSpan

/-- The ids of the PENDING cues in schedule order. -/
def pendingCues (s : State) : List Nat := (s.cues.filter fun c => decide (c.state = .pending)).map Cue.id

/-- The TIME_SET effect: the offset, and then the pass over the PENDING cues (R17, R18, R111). -/
def doTimeSet (t : Nat) (s : State) : Answer :=
  let s1 := { s with offset := some (offsetFor s.clock t), falling := pendingCues s }
  .ok (eStation t ++ eOpt eStation s.station) (settle s1)

/-- TIME_SET (R17). -/
def execTimeSet (l : Link) (s : State) : Host.Outcome State Fault Refusal :=
  .next (serve l 0x06 mgmtLink (readAll rStation) doTimeSet s)

/-- The TIME_READ answer (R19). -/
def doTimeRead (_ : Unit) (s : State) : Answer := .ok (eClock s.clock ++ eOpt eStation s.station) s

/-- TIME_READ (R19). -/
def execTimeRead (l : Link) (s : State) : Host.Outcome State Fault Refusal :=
  .next (serve l 0x07 bothLinks (readAll rNothing) doTimeRead s)

end Sys2Proof.Machine
end

