-- ==== Sys2Proof/Machine/Regions.lean ====
section
/-!
DEFINITION. The region multiplexers and feeds (chapter 8).
-/
namespace Sys2Proof.Machine

/-! ## The slot clock (8.3) -/

/-- The slot clock at a schedule base (R143 to R145). -/
def SlotClock.at (base : Clock) : SlotClock := { base := base, next := base, acc := 0, index := 0 }

/-- One step of the slot clock at a rate (R144). -/
def SlotClock.step (c : SlotClock) (rate : Nat) : SlotClock :=
  let q := Config.packetTicks / rate
  let r := Config.packetTicks % rate
  if rate ≤ c.acc + r then { c with next := c.next + BitVec.ofNat 48 (q + 1), acc := c.acc + r - rate, index := c.index + 1 }
  else { c with next := c.next + BitVec.ofNat 48 q, acc := c.acc + r, index := c.index + 1 }

/-- A pending rate takes effect at an instant, which becomes the new base (R143). -/
def Region.rebase (r : Region) (t : Clock) : Region :=
  match r.pendingRate with
  | some rate => { r with rate := rate, pendingRate := none, clk := some (SlotClock.at t) }
  | none => r

/-! ## Entries that leave a queue without being begun -/

/-- The residence of an entry at a slot instant (R148). -/
def QEntry.residence (e : QEntry) (t : Clock) : Nat := elapsed t e.arrival

/-- The discontinuities that entries would have set are owed (R155). -/
def Region.oweAll (r : Region) (es : List QEntry) : Region := es.foldl (fun x e => if e.setDisc then x.owe e.out else x) r

/-- The references of entries are dropped (R63). -/
def releaseAll (es : List QEntry) (s : State) : State := { s with pool := es.foldl (fun p e => dropRef e.buf p) s.pool }

/-- The main-queue entries that a slot instant discards: those at the head, later than the delay limit (R148). -/
def Region.late (r : Region) (t : Clock) : List QEntry :=
  r.mainQ.takeWhile fun e => decide (msTicks r.delayMs < e.residence t)

/-- The expendable-queue entries that a slot instant discards: those at the head, later than the age limit (R148). -/
def Region.aged (r : Region) (t : Clock) : List QEntry :=
  r.expQ.takeWhile fun e => decide (msTicks r.ageMs < e.residence t)

/-- The region after the head discards of an instant (R148, R155, R158). -/
def Region.dropLate (r : Region) (t : Clock) : Region :=
  (({ r with mainQ := r.mainQ.drop (r.late t).length, expQ := r.expQ.drop (r.aged t).length }).oweAll
    (r.late t ++ r.aged t)).cleanDrains

/-- The head discards of a slot instant, each with its event (R148). That the main queue's events go before the expendable
queue's is the model's choice (log entry 8). -/
def discardLate (g : RegionId) (t : Clock) (s : State) : State :=
  let r := s.region g
  let s1 := releaseAll (r.late t ++ r.aged t) (s.setRegion g (r.dropLate t))
  let s2 := (r.late t).foldl (fun u _ => raiseEvent .lateDiscard (.region g) u) s1
  (r.aged t).foldl (fun u _ => raiseEvent .ageDiscard (.region g) u) s2

/-! ## Choosing the packet (8.5) -/

/-- What a slot instant chooses (R149). -/
inductive Choice where
  | carousel (k : CarouselId) (p : Packet)
  | main (e : QEntry) (rest : List QEntry)
  | expendable (e : QEntry) (rest : List QEntry)
  | null
  deriving DecidableEq, Repr

/-- The carousels in the order in which a region's arbiter looks at them (R150). -/
def Region.carouselOrder (r : Region) : List CarouselId :=
  match r.lastCarousel with
  | some k => roundFrom k
  | none => List.finRange 32

/-- The carousel of a region that is served next, with its packet (R150). -/
def State.dueCarousel (s : State) (g : RegionId) : Option (CarouselId × Packet) :=
  (s.region g).carouselOrder.findSome? fun k =>
    if (s.carousel k).region = some g then (s.carousel k).duePacket.map fun p => (k, p) else none

/-- What a region chooses from its queues when no carousel packet is chosen (R149, steps 3 to 5). -/
def Region.chooseQueued (r : Region) : Choice :=
  match r.mainQ with
  | e :: rest => .main e rest
  | [] =>
    match r.expQ with
    | e :: rest => .expendable e rest
    | [] => .null

/-- The choice of a slot instant (R149). -/
def State.choose (s : State) (g : RegionId) : Choice :=
  let r := s.region g
  if decide (r.mode = .rotate) && decide (r.lastBegun = .carousel) && !r.mainQ.isEmpty then r.chooseQueued
  else
    match s.dueCarousel g with
    | some (k, p) => .carousel k p
    | none => r.chooseQueued

/-! ## The output copy (8.6, 8.7) -/

/-- Whether a discontinuity owed to an entry's identifier is paid by this packet (R153). -/
def Region.pays (r : Region) (e : QEntry) (p : Packet) : Bool := e.clockBearing && hasSample p && r.isOwed e.out

/-- The output copy of a queued packet (R152 to R154, R156). -/
def Region.outputCopy (r : Region) (e : QEntry) (p : Packet) (t : Clock) : Packet :=
  let p1 := setContinuity (r.nextCount e.out (carriesPayload p)) (setIdent e.out p)
  let p2 := if e.setDisc || r.pays e p then setDiscFlag p1 else p1
  if e.clockBearing && hasSample p then restamp (e.residence t) p2 else p2

/-- The output copy of a carousel packet (R176). -/
def Region.carouselCopy (r : Region) (p : Packet) : Packet :=
  setContinuity (r.nextCount (ident p) (carriesPayload p)) p

/-- The region's records after a queued packet is begun from it (R153, R154, R158). -/
def Region.begun (r : Region) (e : QEntry) (p : Packet) : Region :=
  (r.note e.out (r.nextCount e.out (carriesPayload p)) (r.pays e p)).cleanDrains

/-- The packet begun at an instant, and the state after its choice has been begun (R149 to R154, R171, R176). -/
def beginChoice (g : RegionId) (t : Clock) (s : State) : Choice → Packet × State
  | .carousel k p =>
    let r := s.region g
    let r' := r.note (ident p) (r.nextCount (ident p) (carriesPayload p)) false
    (r.carouselCopy p, advanceCursor k (s.setRegion g { r' with lastBegun := .carousel, lastCarousel := some k }))
  | .main e rest =>
    let r := s.region g
    let p := bufferPacket s.pool e.buf
    (r.outputCopy e p t,
      releaseAll [e] (s.setRegion g { ({ r with mainQ := rest } : Region).begun e p with lastBegun := .main }))
  | .expendable e rest =>
    let r := s.region g
    let p := bufferPacket s.pool e.buf
    (r.outputCopy e p t,
      releaseAll [e] (s.setRegion g { ({ r with expQ := rest } : Region).begun e p with lastBegun := .expendable }))
  | .null => (nullPacket, s.setRegion g { s.region g with lastBegun := .null })

/-! ## SLOT_INSTANT -/

/-- A feed bound to a region begins a packet that ends at the region's next instant (R160). -/
def Feed.carry (fd : Feed) (g : RegionId) (out : FeedOut) : Feed :=
  if fd.bound = some g then { fd with out := some out } else fd

/-- A region after its slot clock has moved on from the instant of a packet (R144, R159). -/
def Region.stepped (r : Region) (c : SlotClock) (null : Bool) : Region :=
  { r with clk := some c, nulls := (null :: r.nulls).take Config.nullWindow }

/-- The slot clock moves on and the feeds carry the packet begun (R144, R160). -/
def sendPacket (g : RegionId) (t : Clock) (c : SlotClock) (p : Packet) (s : State) : State :=
  let c' := c.step (s.region g).rate
  let s1 := s.setRegion g ((s.region g).stepped c' (decide ((s.region g).lastBegun = .null)))
  { s1 with feeds := s1.feeds.map fun fd => fd.carry g { packet := p, begun := t, ends := c'.next } }

/-- Whether a region's slot instant is reached (R144). -/
def State.slotDue (s : State) (g : RegionId) : Bool :=
  match (s.region g).clk with
  | some c => decide (c.next = s.clock)
  | none => false

/-- A slot instant (R143, R144, R148, R149, 8.6, R160). -/
def slotInstant (g : RegionId) (s : State) : State :=
  if s.slotDue g then
    let s1 := discardLate g s.clock (s.setRegion g ((s.region g).rebase s.clock))
    let b := beginChoice g s.clock s1 (s1.choose g)
    match (b.2.region g).clk with
    | some c => sendPacket g s.clock c b.1 b.2
    | none => b.2
  else s

/-- SLOT_INSTANT (R144). At any other moment it does nothing (log entry 15). -/
def execSlotInstant (g : RegionId) (s : State) : Host.Outcome State Fault Refusal := .next (slotInstant g s)

/-! ## REGION_CONFIG -/

/-- The fields of REGION_CONFIG (R142). -/
structure RegionConfig where
  region : RegionId
  rate : Option Nat
  mode : Option ArbiterMode
  delay : Option Nat
  age : Option Nat
  deriving DecidableEq, Repr

/-- The layout of REGION_CONFIG (R142). -/
def rRegionConfig : Reader RegionConfig := fun b =>
  (rThen (rIndex 8) (rThen (rOpt (rNat 4)) (rThen (rOpt (rEnum [ArbiterMode.fixed, .rotate]))
    (rThen (rOpt (rNat 4)) (rOpt (rNat 4))))) b).map fun x =>
      match x with
      | ((g, rate, mode, delay, age), rest) => ({ region := g, rate := rate, mode := mode, delay := delay, age := age }, rest)

/-- A rate as taken (R142). -/
def rateTaken (rate : Nat) : Nat := clamp 2000000 60000000 rate

/-- The rate of a region after a request: at once when STOPPED, and by way of the pending rate when RUNNING
(R142, R143). -/
def Region.withRate (r : Region) (rate : Option Nat) : Region :=
  match rate, r.clk with
  | none, _ => r
  | some x, none => { r with rate := rateTaken x }
  | some x, some _ => { r with pendingRate := if rateTaken x = r.rate then none else some (rateTaken x) }

/-- A region with the settings that a request gives (R142). -/
def RegionConfig.apply (x : RegionConfig) (r : Region) : Region :=
  { r.withRate x.rate with
    mode := x.mode.getD r.mode
    delayMs := match x.delay with
      | some d => clamp 5 500 d
      | none => r.delayMs
    ageMs := match x.age with
      | some a => clamp 5 2000 a
      | none => r.ageMs }

/-- The rate as taken that the reply carries: the one given, or else the output rate in force (R142, log entry 32). -/
def RegionConfig.rateReply (x : RegionConfig) (r : Region) : Nat :=
  match x.rate with
  | some v => rateTaken v
  | none => r.rate

/-- REGION_CONFIG (R142, R143). -/
def doRegionConfig (x : RegionConfig) (s : State) : Answer :=
  let r := x.apply (s.region x.region)
  .ok (e4 (x.rateReply r) ++ e1 r.mode.code ++ e4 r.delayMs ++ e4 r.ageMs ++
    eOpt (fun _ : SlotClock => e4 r.rate ++ eOpt e4 r.pendingRate) r.clk) (s.setRegion x.region r)

/-- REGION_CONFIG (R142). -/
def execRegionConfig (l : Link) (s : State) : Host.Outcome State Fault Refusal :=
  .next (serve l 0x29 mgmtLink (readAll rRegionConfig) doRegionConfig s)

/-! ## REGION_START and REGION_STOP -/

/-- A carousel of a region that starts: a RUNNING one begins a cycle, and another has begun none since (R145, R170,
9.1). -/
def Carousel.regionStarted (c : Carousel) (g : RegionId) (now : Clock) : Carousel :=
  if c.region = some g then
    match c.state with
    | .running => c.begin now
    | .idle | .done => { c with cycleStart := none }
  else c

/-- The slot clock of a STOPPED region is set at the present local clock value, and its RUNNING carousels begin a cycle
(R145). -/
def openRegion (g : RegionId) (s : State) : State :=
  let s1 := s.setRegion g { s.region g with clk := some (SlotClock.at s.clock), nulls := [] }
  { s1 with carousels := s1.carousels.map fun c => c.regionStarted g s.clock }

/-- A STOPPED region starts: the schedule begins, and slot 0 is begun at the base as part of the request (R145). What a
feed still carries from before the stop ends there (log entry 28). -/
def startRegion (g : RegionId) (s : State) : State := slotInstant g (openRegion g s)

/-- The run state of a region: STOPPED 0, RUNNING 1. -/
def Region.runCode (r : Region) : Nat := r.clk.isSome.toNat

/-- REGION_START (R145). -/
def doRegionStart (g : RegionId) (s : State) : Answer :=
  match (s.region g).clk with
  | some _ => .ok (e1 1 ++ eOpt eClock none) s
  | none => .ok (e1 1 ++ eOpt eClock (some s.clock)) (startRegion g s)

/-- REGION_START (R145). -/
def execRegionStart (l : Link) (s : State) : Host.Outcome State Fault Refusal :=
  .next (serve l 0x2A mgmtLink (readAll (rIndex 8)) doRegionStart s)

/-- The region's own record after a stop: the slot clock absent, a pending rate in force, both queues flushed, the
discontinuities owed and no drain records (R146, R155, R158). -/
def Region.stopped (r : Region) : Region :=
  let r1 := r.oweAll (r.mainQ ++ r.expQ)
  { r1 with clk := none, rate := r.pendingRate.getD r.rate, pendingRate := none, mainQ := [], expQ := [], drains := [] }

/-- A RUNNING region stops (R146, R175). -/
def stopRegion (g : RegionId) (s : State) : State :=
  let r := s.region g
  let s1 := releaseAll (r.mainQ ++ r.expQ) (s.setRegion g r.stopped)
  (List.finRange 32).foldl (fun t k => if (t.carousel k).region = some g then endCycle k t else t) s1

/-- REGION_STOP (R146). -/
def doRegionStop (g : RegionId) (s : State) : Answer :=
  match (s.region g).clk with
  | none => .ok (e2 0 ++ e2 0) s
  | some _ => .ok (e2 (s.region g).mainQ.length ++ e2 (s.region g).expQ.length) (stopRegion g s)

/-- REGION_STOP (R146). -/
def execRegionStop (l : Link) (s : State) : Host.Outcome State Fault Refusal :=
  .next (serve l 0x2B mgmtLink (readAll (rIndex 8)) doRegionStop s)

/-! ## REGION_READ -/

/-- The layout of REGION_READ: the region and an optional starting identifier below 8191 (R159). -/
def rRegionRead : Reader (RegionId × Option Ident) := rThen (rIndex 8) (rOpt (rWhen rIdent fun i => decide (i ≠ nullIdent)))

/-- The feeds bound to a region. -/
def State.feedsOf (s : State) (g : RegionId) : List FeedId :=
  (List.finRange 16).filter fun fd => decide ((s.feed fd).bound = some g)

/-- The residence of a queue's head in 6 bytes (log entry 12), or its absence, with a presence byte although the entry
count tells it (R159, log entry 10). -/
def eHead (now : Clock) (q : List QEntry) : List Byte := eOpt (fun e : QEntry => e6 (e.residence now)) q.head?

/-- The slot clock as REGION_READ gives it (R159). -/
def eSlotClock (c : SlotClock) : List Byte := eClock c.base ++ eClock c.next ++ e4 c.index

/-- A region as REGION_READ gives it without a starting identifier (R159). -/
def eRegion (s : State) (g : RegionId) : List Byte :=
  let r := s.region g
  e1 r.runCode ++ e4 r.rate ++ eOpt e4 r.pendingRate ++ e1 r.mode.code ++ e4 r.delayMs ++ e4 r.ageMs ++
    (match r.clk with
      | some c => eSlotClock c
      | none => []) ++
    e2 r.mainQ.length ++ e2 r.expQ.length ++ eHead s.clock r.mainQ ++ eHead s.clock r.expQ ++
    e2 r.registry.length ++ e2 r.drains.length ++ eList (fun fd : FeedId => e1 fd) (s.feedsOf g) ++
    e4 (r.nulls.filter id).length

/-- A registry entry as REGION_READ gives it, its definer as an object reference (R159, log entry 36). -/
def eRegEntry (e : RegEntry) : List Byte := e2 e.ident.toNat ++ eObj e.definer.obj ++ e1 e.last.toNat ++ eFlag e.owed

/-- The registry entries at or above an identifier, up to 64 of them (R159). -/
def Region.entriesFrom (r : Region) (i : Ident) : List RegEntry :=
  (r.registry.filter fun e => decide (i.toNat ≤ e.ident.toNat)).take 64

/-- The REGION_READ answer (R159). -/
def doRegionRead (x : RegionId × Option Ident) (s : State) : Answer :=
  match x.2 with
  | none => .ok (eRegion s x.1) s
  | some i => .ok (eList eRegEntry ((s.region x.1).entriesFrom i) ++ e2 (s.region x.1).registry.length) s

/-- REGION_READ (R159). -/
def execRegionRead (l : Link) (s : State) : Host.Outcome State Fault Refusal :=
  .next (serve l 0x2C bothLinks (readAll rRegionRead) doRegionRead s)

/-! ## Feeds -/

/-- A feed's binding changes; a packet in progress from the former region is cut off (R161). -/
def bindFeed (fd : FeedId) (x : Option RegionId) (s : State) : State :=
  if (s.feed fd).bound = x then s else s.setFeed fd { bound := x, out := none }

/-- FEED_BIND (R161). -/
def doFeedBind (x : FeedId × Option RegionId) (s : State) : Answer :=
  let s' := bindFeed x.1 x.2 s
  .ok (s'.feeds.toList.flatMap fun fd => eOpt (fun g : RegionId => e1 g) fd.bound) s'

/-- FEED_BIND (R161). -/
def execFeedBind (l : Link) (s : State) : Host.Outcome State Fault Refusal :=
  .next (serve l 0x2D mgmtLink (readAll (rThen (rIndex 16) (rOpt (rIndex 8)))) doFeedBind s)

/-- Whether a feed has completed the last packet of a region that has stopped (R162). -/
def State.feedDone (s : State) (fd : FeedId) : Bool :=
  match (s.feed fd).out with
  | some o => !s.regionRunning (s.feed fd).bound && decide (elapsed o.ends o.begun ≤ elapsed s.clock o.begun)
  | none => false

/-- A feed goes idle (R162). -/
def idleFeed (fd : FeedId) (s : State) : State :=
  if s.feedDone fd then s.setFeed fd { s.feed fd with out := none } else s

/-- FEED_GOES_IDLE (R162). Before its moment it does nothing (log entry 15). -/
def execFeedGoesIdle (fd : FeedId) (s : State) : Host.Outcome State Fault Refusal := .next (idleFeed fd s)

end Sys2Proof.Machine
end

