-- ==== Sys2Proof/Machine/Routes.lean ====
section
/-!
DEFINITION. The routes' deadlines, the route requests and the tally lines (7.2, 7.6, 7.8).
-/
namespace Sys2Proof.Machine

/-! ## Deadlines -/

/-- Whether a route's deadline is reached (R13, R124). -/
def State.routeDue (s : State) (g : RegionId) (sl : SlotId) : Bool :=
  match (s.route g sl).state.deadline with
  | some d => d.reached s.clock
  | none => false

/-- A route's deadline is reached (R124), with what follows for the schedule (R98, R103). -/
def routeExpires (g : RegionId) (sl : SlotId) (s : State) : State :=
  if s.routeDue g sl then settle (expireRoute g sl s) else s

/-- ROUTE_DEADLINE (R124). Before its moment it does nothing (log entry 15). -/
def execRouteDeadline (g : RegionId) (sl : SlotId) (s : State) : Host.Outcome State Fault Refusal :=
  .next (routeExpires g sl s)

/-! ## ROUTE_TAKE -/

/-- The fields of ROUTE_TAKE (R129). -/
structure RouteTake where
  mask : RegionMask
  slot : SlotId
  target : Target
  policy : SwitchPolicy
  wait : Nat
  owner : Nat
  deriving DecidableEq, Repr

/-- The layout of ROUTE_TAKE: its policy is IMMEDIATE or AT_MARK (R129). -/
def rRouteTake : Reader RouteTake := fun b =>
  (rThen rMask (rThen (rIndex 24) (rThen rTarget (rThen (rEnum [SwitchPolicy.immediate, .atMark])
    (rThen (rNat 4) rOwner)))) b).map fun x =>
      match x with
      | ((mask, sl, t, p, w, o), rest) =>
        ({ mask := mask, slot := sl, target := t, policy := p, wait := w, owner := o }, rest)

/-- What a take asks of its routes (R129). -/
def RouteTake.ask (x : RouteTake) : Ask :=
  { target := x.target, policy := x.policy, waitMs := (x.policy.waitTaken x.wait).getD 0, waiter := .take }

/-- The outcome of a take in a region at once; NONE stands for the mark WAITING (R129, log entry 13). -/
def State.takeOutcome (s : State) (x : RouteTake) (g : RegionId) : CueOutcome :=
  (s.reachRoute (s.route g x.slot) x.ask).2.1

/-- A take reaches the route of each region of its mask (R129). -/
def takeRoutes (x : RouteTake) (s : State) : State := (regionsOf x.mask).foldl (fun t g => reach g x.slot x.ask t) s

/-- ROUTE_TAKE (R129). DESIGN CHOICE: the reply gives each outcome as the take met the route, also where a DAILY cue that the
take made complete is re-entered, falls due at once and supersedes the waiting take within the request (log entry 35). -/
def doRouteTake (x : RouteTake) (s : State) : Answer :=
  if !s.targetOk x.slot x.target then .refused .badField []
  else
    match s.claimedBy x.mask x.owner with
    | some y => .refused .claimed (claimRefs y)
    | none =>
      .ok (eOpt e4 (x.policy.waitTaken x.wait) ++ eList eOutcome ((regionsOf x.mask).map fun g => (g, s.takeOutcome x g)))
        (settle (takeRoutes x s))

/-- ROUTE_TAKE (R129). -/
def execRouteTake (l : Link) (s : State) : Host.Outcome State Fault Refusal :=
  .next (serve l 0x20 bothLinks (readAll rRouteTake) doRouteTake s)

/-! ## ROUTE_HOLD and ROUTE_FREE -/

/-- The fields of ROUTE_HOLD and ROUTE_FREE (R130, R131). -/
structure RouteMask where
  mask : RegionMask
  slot : SlotId
  owner : Nat
  deriving DecidableEq, Repr

/-- The layout of ROUTE_HOLD and ROUTE_FREE (R130, R131). -/
def rRouteMask : Reader RouteMask := fun b =>
  (rThen rMask (rThen (rIndex 24) rOwner) b).map fun x => ({ mask := x.1.1, slot := x.1.2.1, owner := x.1.2.2 }, x.2)

/-- Each region of a mask with its route's state and current source (R130, R131). -/
def eRouteStates (s : State) (x : RouteMask) : List Byte :=
  eList (fun g : RegionId => e1 g ++ e1 (s.route g x.slot).state.code ++ eSource (s.route g x.slot).current)
    (regionsOf x.mask)

/-- ROUTE_HOLD (R130). -/
def doRouteHold (x : RouteMask) (s : State) : Answer :=
  match s.claimedBy x.mask x.owner with
  | some y => .refused .claimed (claimRefs y)
  | none =>
    let s1 := (regionsOf x.mask).foldl (holdRoute x.slot) s
    .ok (eRouteStates s1 x) (settle s1)

/-- ROUTE_HOLD (R130). -/
def execRouteHold (l : Link) (s : State) : Host.Outcome State Fault Refusal :=
  .next (serve l 0x21 bothLinks (readAll rRouteMask) doRouteHold s)

/-- ROUTE_FREE (R131). -/
def doRouteFree (x : RouteMask) (s : State) : Answer :=
  match s.claimedBy x.mask x.owner with
  | some y => .refused .claimed (claimRefs y)
  | none =>
    let s1 := (regionsOf x.mask).foldl (freeRoute x.slot) s
    .ok (eRouteStates s1 x) s1

/-- ROUTE_FREE (R131). -/
def execRouteFree (l : Link) (s : State) : Host.Outcome State Fault Refusal :=
  .next (serve l 0x22 bothLinks (readAll rRouteMask) doRouteFree s)

/-! ## ROUTE_READ -/

/-- The tally lines bound to a route (R132). -/
def State.linesOf (s : State) (g : RegionId) (sl : SlotId) : List TallyId :=
  (List.finRange 8).filter fun t => decide (s.tallies[t] = some (g, sl))

/-- A route as ROUTE_READ reports it: its record, the ticks remaining, its tally lines and its region's claimant (R132).
The ticks remaining have a presence byte although the deadline in the record tells it (log entry 10). -/
def eRoute (s : State) (g : RegionId) (sl : SlotId) : List Byte :=
  let r := s.route g sl
  eSource r.current ++ eTarget r.intended ++ e1 r.state.code ++ eOpt eTarget r.state.target ++
    eOpt e1 r.state.policyCode ++ eOpt e2 r.state.cue ++
    eOpt (fun d : Deadline => eClock d.value) r.state.deadline ++ eFlag r.hold ++ eFlag r.markPending ++
    eOpt (fun d : Deadline => e6 (d.remaining s.clock)) r.state.deadline ++
    eList (fun t : TallyId => e1 t) (s.linesOf g sl) ++ eOpt e1 (s.claimant g)

/-- ROUTE_READ: one route, or the 24 routes of a region in slot order (R132). -/
def doRouteRead (x : RegionId × Option SlotId) (s : State) : Answer :=
  match x.2 with
  | some sl => .ok (eRoute s x.1 sl) s
  | none => .ok ((List.finRange 24).flatMap fun sl => eRoute s x.1 sl) s

/-- ROUTE_READ (R132). -/
def execRouteRead (l : Link) (s : State) : Host.Outcome State Fault Refusal :=
  .next (serve l 0x23 bothLinks (readAll (rThen (rIndex 8) (rOpt (rIndex 24)))) doRouteRead s)

/-! ## Tally lines -/

/-- Whether a tally line is active: the route it is bound to carries a variant (R134). -/
def State.tallyActive (s : State) (t : TallyId) : Bool :=
  match s.tallies[t] with
  | none => false
  | some (g, sl) =>
    match (s.route g sl).current with
    | .variant _ => true
    | .national | .blank => false

/-- A tally line with its binding (R135). -/
def eTally (s : State) (t : TallyId) : List Byte :=
  eOpt (fun x : RegionId × SlotId => e1 x.1 ++ e1 x.2) s.tallies[t] ++ eFlag (s.tallyActive t)

/-- A tally line is bound (R135). -/
def bindTally (t : TallyId) (x : Option (RegionId × SlotId)) (s : State) : State := { s with tallies := s.tallies.set t x }

/-- TALLY_BIND (R135). -/
def doTallyBind (x : TallyId × Option (RegionId × SlotId)) (s : State) : Answer :=
  let s' := bindTally x.1 x.2 s
  .ok ((List.finRange 8).flatMap (eTally s')) s'

/-- TALLY_BIND (R135). -/
def execTallyBind (l : Link) (s : State) : Host.Outcome State Fault Refusal :=
  .next (serve l 0x24 mgmtLink (readAll (rThen (rIndex 8) (rOpt (rThen (rIndex 8) (rIndex 24))))) doTallyBind s)

end Sys2Proof.Machine
end

