-- ==== Sys2Proof/Machine/Moments.lean ====
section
/-!
DEFINITION. The local clock and the moments of the part's own: which of its time-driven events are due at the present
tick, which of them is taken next, and the tick itself (R12 to R14; log entries 2, 4 and 15).
-/
namespace Sys2Proof.Machine

/-- The commands of a kind whose index satisfies a condition. -/
def dueOver {n : Nat} (f : Fin n → Instr) (p : Fin n → Bool) : List Instr := ((List.finRange n).filter p).map f

/-- A partial frame whose gap has grown too long, on either link (R186). -/
def dueGaps (s : State) : List Instr :=
  [Link.management, Link.cue].filterMap fun l => if (s.link l).gapOver s.clock then some (.frameGapTimeout l) else none

/-- The routes whose deadline is reached (R124). -/
def dueRoutes (s : State) : List Instr :=
  (allRoutes.filter fun x => s.routeDue x.1 x.2).map fun x => .routeDeadline x.1 x.2

/-- The time-driven events of the part that are due at the present tick. -/
def dueEvents (s : State) : List Instr :=
  dueGaps s ++ dueOver .starvationExpiry s.starvationDue ++ dueOver .recoveryExpiry s.recoveryDue ++
    (if s.dueCue.isSome then [.cueFallsDue] else []) ++ dueRoutes s ++ dueOver .slotInstant s.slotDue ++
    dueOver .carouselIntervalDeadline (fun k => (s.carousel k).intervalDue s.clock) ++
    dueOver .meterIdleRefresh (fun m => (s.meter m).idle s.clock) ++ dueOver .feedGoesIdle s.feedDone

/-- The event that the part takes next. Of several that are due at one tick the manual leaves the order open, and a free
choice decides (log entry 4). -/
def nextEvent (s : State) : Option (Instr × State) :=
  match dueEvents s with
  | [] => none
  | [e] => some (e, s)
  | e :: rest =>
    ((e :: rest)[Config.raceChoice s.races % (rest.length + 1)]?).map fun x => (x, { s with races := s.races + 1 })

/-- One tick of the local clock: at the wrap the time unit adds 2^48 to the station time offset (R12, R14). -/
def clockTick (s : State) : State :=
  { s with
    clock := s.clock + 1
    offset := if s.clock = BitVec.allOnes 48 then s.offset.map fun o => (o + 2 ^ 48) % Config.stationSpan else s.offset }

/-- The tick from 2^48 − 1 to 0, once every event of the tick before it has been taken. -/
def clockWrap (s : State) : State := if s.clock = BitVec.allOnes 48 ∧ dueEvents s = [] then clockTick s else s

/-- LOCAL_CLOCK_WRAP (R14). At any other moment it does nothing (log entry 15). -/
def execLocalClockWrap (s : State) : Host.Outcome State Fault Refusal := .next (clockWrap s)

end Sys2Proof.Machine
end

