-- ==== Sys2Proof/Machine/Ports.lean ====
section
/-!
DEFINITION. The input ports (chapter 2).
-/
namespace Sys2Proof.Machine

/-- The sync byte (R2). -/
def syncByte : Byte := 0x47

/-- A port is national-bearing when a component on it is bound to a national role (R27). -/
def State.nationalBearing (s : State) (p : PortId) : Bool :=
  s.components.toList.any fun c =>
    match c with
    | some k =>
      match k.binding with
      | .national _ _ => decide (k.port = p)
      | .unbound | .common _ _ | .variant _ _ => false
    | none => false

/-- The last seen count of every component on a port becomes absent (R54). -/
def clearLastSeen (p : PortId) (s : State) : State :=
  { s with components := s.components.map fun c =>
      match c with
      | some k => if k.port = p then some { k with lastSeen := none } else some k
      | none => none }

/-- The third bad sync position in a row: the port leaves LOCKED (R27, R30, R54). -/
def loseSync (p : PortId) (s : State) : State :=
  let old := s.port p
  let s1 := clearLastSeen p (s.setPort p { old with run := .search, fifo := [], flags := old.flags.withSyncLost })
  let s2 := raiseEvent (if s.nationalBearing p then .nationalSyncLost else .syncLost) (.port p) s1
  settle (notifyPort p (portLost p .portLost s2))

/-- The last byte of a LOCKED packet has arrived: the packet joins the FIFO, or is an overrun (R32, R33). -/
def offerFifo (p : PortId) (q : Packet) (s : State) : State :=
  let old := s.port p
  if old.fifo.length < Config.fifoCap then
    raiseFlag p (fun f => f.withError (errorFlag q))
      (s.setPort p { old with fifo := old.fifo ++ [{ packet := q, arrival := s.clock }] })
  else raiseFlag p PortFlags.withOverrun s

/-- A byte within a LOCKED packet, with `left` more bytes to come before the next sync position (R26, R31, R32). -/
def gatherByte (p : PortId) (bad left : Nat) (packet : Option Packet) (b : Byte) (s : State) : State :=
  let q := packet.map fun x => x ++ [b]
  if left = 0 then
    let s1 := s.setPort p { s.port p with run := .locked bad 0 none }
    match q with
    | some x => offerFifo p x s1
    | none => s1
  else s.setPort p { s.port p with run := .locked bad left q }

/-- A byte at a sync position in LOCKED (R26). -/
def lockedSync (p : PortId) (bad : Nat) (b : Byte) (s : State) : State :=
  if b = syncByte then s.setPort p { s.port p with run := .locked 0 187 (some [b]) }
  else if bad < 2 then s.setPort p { s.port p with run := .locked (bad + 1) 187 none }
  else loseSync p s

/-- A byte at a sync position in VERIFY (R25). -/
def verifySync (p : PortId) (good : Nat) (b : Byte) (s : State) : State :=
  if b = syncByte then
    if good + 1 = 5 then notifyPort p (s.setPort p { s.port p with run := .locked 0 187 (some [b]) })
    else s.setPort p { s.port p with run := .verify (good + 1) 187 }
  else s.setPort p { s.port p with run := .search }

/-- A byte on a port's line, by the run state (R22, R24 to R26). -/
def lineByte (p : PortId) (b : Byte) (s : State) : State :=
  match (s.port p).run with
  | .stopped => s
  | .search => if b = syncByte then s.setPort p { s.port p with run := .verify 1 187 } else s
  | .verify good 0 => verifySync p good b s
  | .verify good (left + 1) => s.setPort p { s.port p with run := .verify good left }
  | .locked bad 0 _ => lockedSync p bad b s
  | .locked bad (left + 1) packet => gatherByte p bad left packet b s

/-- PORT_LINE_BYTE (R26). -/
def execPortLineByte (p : PortId) (b : Byte) (s : State) : Host.Outcome State Fault Refusal := .next (lineByte p b s)

/-- The PORT_START effect (R23). -/
def doPortStart (p : PortId) (s : State) : Answer :=
  match (s.port p).run with
  | .stopped => .ok (e1 (PortRun.code .search)) (notifyPort p (s.setPort p { s.port p with run := .search }))
  | r => .ok (e1 r.code) s

/-- PORT_START (R23). -/
def execPortStart (l : Link) (s : State) : Host.Outcome State Fault Refusal :=
  .next (serve l 0x08 mgmtLink (readAll (rIndex 12)) doPortStart s)

/-- The port enters STOPPED; leaving LOCKED it reports that it is lost (R28, R30, R54). That PORT_STATE joins the management
link's queue after the notices of the report is the model's choice (log entry 8). -/
def stopPort (p : PortId) (s : State) : State :=
  let old := s.port p
  let s1 := s.setPort p { old with run := .stopped, fifo := [] }
  let s2 := if old.isLocked then portLost p .portLost (clearLastSeen p s1) else s1
  settle (if old.run = .stopped then s2 else notifyPort p s2)

/-- The PORT_STOP effect (R28). -/
def doPortStop (p : PortId) (s : State) : Answer := .ok [] (stopPort p s)

/-- PORT_STOP (R28). -/
def execPortStop (l : Link) (s : State) : Host.Outcome State Fault Refusal :=
  .next (serve l 0x09 mgmtLink (readAll (rIndex 12)) doPortStop s)

/-- The fields of PORT_CONFIG (R34). -/
structure PortConfig where
  port : PortId
  admission : Option Admission
  unadmitted : Option Policy
  unmatched : Option Policy
  deriving DecidableEq, Repr

/-- The layout of PORT_CONFIG (R34). -/
def rPortConfig : Reader PortConfig := fun b =>
  (rThen (rIndex 12) (rThen (rOpt (rEnum [Admission.admitted, .notAdmitted]))
    (rThen (rOpt (rEnum [Policy.discard, .capture])) (rOpt (rEnum [Policy.discard, .capture]))))
    b).map fun x => ({ port := x.1.1, admission := x.1.2.1, unadmitted := x.1.2.2.1, unmatched := x.1.2.2.2 }, x.2)

/-- The port's settings become those given; withdrawn admission reports the port as lost (R34, R35, R39). That PORT_STATE
joins the management link's queue after the notices of the report is the model's choice (log entry 8). -/
def configPort (x : PortConfig) (s : State) : State :=
  let old := s.port x.port
  let adm := x.admission.getD old.admission
  let s1 := s.setPort x.port { old with
    admission := adm, unadmitted := x.unadmitted.getD old.unadmitted, unmatched := x.unmatched.getD old.unmatched }
  if adm = old.admission then s1
  else
    settle (notifyPort x.port
      (match adm with
        | .notAdmitted => portLost x.port .portUnadmitted s1
        | .admitted => s1))

/-- The three settings of a port. -/
def eSettings (p : Port) : List Byte := e1 p.admission.code ++ e1 p.unadmitted.code ++ e1 p.unmatched.code

/-- The PORT_CONFIG effect (R34). -/
def doPortConfig (x : PortConfig) (s : State) : Answer :=
  .ok (eSettings ((configPort x s).port x.port)) (configPort x s)

/-- PORT_CONFIG (R34). -/
def execPortConfig (l : Link) (s : State) : Host.Outcome State Fault Refusal :=
  .next (serve l 0x0A mgmtLink (readAll rPortConfig) doPortConfig s)

/-- The PORT_CLEAR effect (R38). -/
def doPortClear (x : PortId × Byte) (s : State) : Answer :=
  let old := s.port x.1
  .ok (eFlags old.flags ++ eFlags (old.flags.without x.2)) (s.setPort x.1 { old with flags := old.flags.without x.2 })

/-- PORT_CLEAR (R38). -/
def execPortClear (l : Link) (s : State) : Host.Outcome State Fault Refusal :=
  .next (serve l 0x0B mgmtLink (readAll (rThen (rIndex 12) rSet4)) doPortClear s)

/-- The PORT_READ answer (R40). -/
def doPortRead (p : PortId) (s : State) : Answer :=
  let x := s.port p
  .ok (e1 x.run.code ++ e2 x.goodSync ++ e2 x.badSync ++ eSettings x ++ e2 x.occupancy ++ eFlags x.flags ++
    eFlag (s.nationalBearing p)) s

/-- PORT_READ (R40). -/
def execPortRead (l : Link) (s : State) : Host.Outcome State Fault Refusal :=
  .next (serve l 0x0C bothLinks (readAll (rIndex 12)) doPortRead s)

end Sys2Proof.Machine
end

