-- ==== Sys2Proof/Machine/Variants.lean ====
section
/-!
DEFINITION. The variants and their three requests (5.2). The health machine stands in `Health`.
-/
namespace Sys2Proof.Machine

/-- A variant's record on a link: the state, and every field of a DEFINED variant in the order of its record (R85, log
entries 10 to 12). The role components are a list of pairs of role and component, as VARIANT_WRITE carries them (log
entry 13). -/
def eVariant (s : State) : Option VariantDef → List Byte
  | none => e1 0
  | some d =>
    e1 1 ++ e1 d.slot ++ eList (fun x : RoleId × ComponentId => e1 x.1 ++ e1 x.2) d.comps ++
      ((s.anchorOf d).map fun c => e1 (c : Nat)).getD [] ++ eSource d.fallback.source ++
      e4 d.starveMs ++ e4 d.recoverMs ++ e4 d.returnMs ++ e1 d.health.code ++
      eOpt (fun t : Deadline => eClock t.value) d.starveTimer ++ eOpt (fun t : Deadline => eClock t.value) d.recoverTimer

/-- The layout of VARIANT_WRITE: the variant, the slot, the role components, the fallback and the three durations, which
are clamped; the variant as it is to stand, STARVED with both timers stopped (R82, R83). -/
def rVariantWrite : Reader (VariantId × VariantDef) := fun b =>
  (rThen (rIndex 48) (rThen (rIndex 24) (rThen (rList 255 (rThen (rIndex 6) (rIndex 256))) (rThen rFallback
    (rThen (rNat 4) (rThen (rNat 4) (rNat 4)))))) b).map fun x =>
      match x with
      | ((v, sl, comps, fb, starve, recover, ret), rest) =>
        ((v, { slot := sl, comps := comps, fallback := fb, starveMs := clamp 20 5000 starve,
               recoverMs := clamp 0 60000 recover, returnMs := clamp 0 10000 ret, health := .starved,
               starveTimer := none, recoverTimer := none }), rest)

/-- Whether the fields of VARIANT_WRITE pass the BAD_FIELD cases of R82. -/
def State.variantFieldsOk (s : State) (d : VariantDef) : Bool :=
  match s.slot d.slot with
  | none => false
  | some sd =>
    (d.comps.all fun x => sd.hasRole x.1) && distinct (d.comps.map Prod.fst) && distinct (d.comps.map Prod.snd) &&
      (d.comps.all fun x => s.bindable x.2) && (d.comps.any fun x => decide (x.1 = sd.anchor))

/-- Whether a binding keeps a component from a role of a variant (R82). -/
def Binding.blocksVariant (b : Binding) (v : VariantId) : Bool :=
  match b with
  | .unbound => false
  | .variant v' _ => decide (v' ≠ v)
  | .common _ _ | .national _ _ => true

/-- Whether a cue in the schedule targets a variant (R82). -/
def State.cueTargets (s : State) (v : VariantId) : Bool := s.cues.any fun c => decide (c.target = .variant v)

/-- Every component bound VARIANT to a variant becomes UNBOUND (R83, R84). -/
def unbindVariant (v : VariantId) (s : State) : State :=
  { s with components := s.components.map fun c =>
      match c with
      | none => none
      | some k =>
        match k.binding with
        | .variant v' _ => if v' = v then some { k with binding := .unbound } else some k
        | .unbound | .common _ _ | .national _ _ => some k }

/-- The health that a VARIANT_HEALTH notice of a write gives as the health before: STARVED for a variant that was
UNDEFINED (R92, log entry 21). -/
def State.healthBefore (s : State) (v : VariantId) : Health :=
  match s.variant v with
  | some d => d.health
  | none => .starved

/-- The effect of a VARIANT_WRITE that is not refused (R83). -/
def writeVariant (v : VariantId) (d : VariantDef) (s : State) : State :=
  notifyHealth v (s.healthBefore v) .starved .written
    ((d.comps.foldl (fun t x => bindComponent (.variant v x.1) x.2 t) (unbindVariant v s)).setVariant v (some d))

/-- VARIANT_WRITE: the cases of R82 in order, and the effect (R82, R83). -/
def doVariantWrite (x : VariantId × VariantDef) (s : State) : Answer :=
  let v := x.1
  let d := x.2
  if !s.variantFieldsOk d then .refused .badField []
  else if d.comps.any fun y => s.boundAs (fun b => b.blocksVariant v) y.2 then .refused .inUse []
  else if s.concerned v then .refused .inUse []
  else if s.cueTargets v then .refused .inUse []
  else .ok (eVariant s (some d)) (writeVariant v d s)

/-- VARIANT_WRITE (R82). -/
def execVariantWrite (l : Link) (s : State) : Host.Outcome State Fault Refusal :=
  .next (serve l 0x15 mgmtLink (readAll rVariantWrite) doVariantWrite s)

/-- VARIANT_CLEAR (R84). -/
def doVariantClear (v : VariantId) (s : State) : Answer :=
  if s.concerned v || s.cueTargets v then .refused .inUse []
  else .ok [] ((unbindVariant v s).setVariant v none)

/-- VARIANT_CLEAR (R84). -/
def execVariantClear (l : Link) (s : State) : Host.Outcome State Fault Refusal :=
  .next (serve l 0x16 mgmtLink (readAll (rIndex 48)) doVariantClear s)

/-- The routes of a slot that are concerned with a variant, each as a region and its route state (R85). -/
def eConcerned (s : State) (v : VariantId) (sl : SlotId) : List Byte :=
  eList (fun g : RegionId => e1 g ++ e1 (s.route g sl).state.code)
    ((List.finRange 8).filter fun g => (s.route g sl).concerns v)

/-- The VARIANT_READ answer: the record, the ticks remaining on each running timer, and the routes concerned (R85). The
ticks remaining of each timer have a presence byte although the timer in the record tells it (log entry 10). -/
def doVariantRead (v : VariantId) (s : State) : Answer :=
  .ok (eVariant s (s.variant v) ++
    (match s.variant v with
      | some d =>
        eOpt (fun t : Deadline => e6 (t.remaining s.clock)) d.starveTimer ++
          eOpt (fun t : Deadline => e6 (t.remaining s.clock)) d.recoverTimer ++ eConcerned s v d.slot
      | none => [])) s

/-- VARIANT_READ (R85). -/
def execVariantRead (l : Link) (s : State) : Host.Outcome State Fault Refusal :=
  .next (serve l 0x17 bothLinks (readAll (rIndex 48)) doVariantRead s)

end Sys2Proof.Machine
end

