-- ==== Sys2Proof/Machine/Dispatch.lean ====
section
/-!
DEFINITION. Which meaning each command has: one arm per constructor of Instr.
-/
namespace Sys2Proof.Machine

/-- The effect of a command on everything but the queue. -/
def exec (i : Instr) (s : State) : Host.Outcome State Fault Refusal :=
  match i with
  | .powerOnReset => Sys2Proof.Machine.execPowerOnReset s
  | .resetTakesEffect => Sys2Proof.Machine.execResetTakesEffect s
  | .linkByteReceived l b => Sys2Proof.Machine.execLinkByteReceived l b s
  | .frameGapTimeout l => Sys2Proof.Machine.execFrameGapTimeout l s
  | .frameSendBegin l => Sys2Proof.Machine.execFrameSendBegin l s
  | .frameSent l => Sys2Proof.Machine.execFrameSent l s
  | .unsupportedKind l => Sys2Proof.Machine.execUnsupportedKind l s
  | .identify l => Sys2Proof.Machine.execIdentify l s
  | .statusRead l => Sys2Proof.Machine.execStatusRead l s
  | .statusClear l => Sys2Proof.Machine.execStatusClear l s
  | .reportSet l => Sys2Proof.Machine.execReportSet l s
  | .reset l => Sys2Proof.Machine.execReset l s
  | .timeSet l => Sys2Proof.Machine.execTimeSet l s
  | .timeRead l => Sys2Proof.Machine.execTimeRead l s
  | .localClockWrap => Sys2Proof.Machine.execLocalClockWrap s
  | .portStart l => Sys2Proof.Machine.execPortStart l s
  | .portStop l => Sys2Proof.Machine.execPortStop l s
  | .portConfig l => Sys2Proof.Machine.execPortConfig l s
  | .portClear l => Sys2Proof.Machine.execPortClear l s
  | .portRead l => Sys2Proof.Machine.execPortRead l s
  | .portLineByte p b => Sys2Proof.Machine.execPortLineByte p b s
  | .classifierTake => Sys2Proof.Machine.execClassifierTake s
  | .componentWrite l => Sys2Proof.Machine.execComponentWrite l s
  | .componentClear l => Sys2Proof.Machine.execComponentClear l s
  | .componentRead l => Sys2Proof.Machine.execComponentRead l s
  | .meterWrite l => Sys2Proof.Machine.execMeterWrite l s
  | .meterRead l => Sys2Proof.Machine.execMeterRead l s
  | .meterIdleRefresh m => Sys2Proof.Machine.execMeterIdleRefresh m s
  | .slotWrite l => Sys2Proof.Machine.execSlotWrite l s
  | .slotClear l => Sys2Proof.Machine.execSlotClear l s
  | .slotRead l => Sys2Proof.Machine.execSlotRead l s
  | .variantWrite l => Sys2Proof.Machine.execVariantWrite l s
  | .variantClear l => Sys2Proof.Machine.execVariantClear l s
  | .variantRead l => Sys2Proof.Machine.execVariantRead l s
  | .starvationExpiry v => Sys2Proof.Machine.execStarvationExpiry v s
  | .recoveryExpiry v => Sys2Proof.Machine.execRecoveryExpiry v s
  | .cueAdd l => Sys2Proof.Machine.execCueAdd l s
  | .cueFallsDue => Sys2Proof.Machine.execCueFallsDue s
  | .cueCancel l => Sys2Proof.Machine.execCueCancel l s
  | .cueConfirm l => Sys2Proof.Machine.execCueConfirm l s
  | .cueList l => Sys2Proof.Machine.execCueList l s
  | .routeDeadline g sl => Sys2Proof.Machine.execRouteDeadline g sl s
  | .routeTake l => Sys2Proof.Machine.execRouteTake l s
  | .routeHold l => Sys2Proof.Machine.execRouteHold l s
  | .routeFree l => Sys2Proof.Machine.execRouteFree l s
  | .routeRead l => Sys2Proof.Machine.execRouteRead l s
  | .tallyBind l => Sys2Proof.Machine.execTallyBind l s
  | .claim l => Sys2Proof.Machine.execClaim l s
  | .unclaim l => Sys2Proof.Machine.execUnclaim l s
  | .claimBreak l => Sys2Proof.Machine.execClaimBreak l s
  | .claimRead l => Sys2Proof.Machine.execClaimRead l s
  | .regionConfig l => Sys2Proof.Machine.execRegionConfig l s
  | .regionStart l => Sys2Proof.Machine.execRegionStart l s
  | .regionStop l => Sys2Proof.Machine.execRegionStop l s
  | .regionRead l => Sys2Proof.Machine.execRegionRead l s
  | .slotInstant g => Sys2Proof.Machine.execSlotInstant g s
  | .feedBind l => Sys2Proof.Machine.execFeedBind l s
  | .carouselConfig l => Sys2Proof.Machine.execCarouselConfig l s
  | .carouselAppend l => Sys2Proof.Machine.execCarouselAppend l s
  | .carouselSwap l => Sys2Proof.Machine.execCarouselSwap l s
  | .carouselStart l => Sys2Proof.Machine.execCarouselStart l s
  | .carouselIntervalDeadline k => Sys2Proof.Machine.execCarouselIntervalDeadline k s
  | .carouselStop l => Sys2Proof.Machine.execCarouselStop l s
  | .carouselClear l => Sys2Proof.Machine.execCarouselClear l s
  | .carouselRead l => Sys2Proof.Machine.execCarouselRead l s
  | .captureRead l => Sys2Proof.Machine.execCaptureRead l s
  | .captureRelease l => Sys2Proof.Machine.execCaptureRelease l s
  | .feedGoesIdle fd => Sys2Proof.Machine.execFeedGoesIdle fd s

end Sys2Proof.Machine
end

