-- ==== Sys2Proof/Machine/Step.lean ====
section
/-!
DEFINITION. One step of the RM824: the command at the front of the queue, or else the part's own time.
-/
namespace Sys2Proof.Machine

/-- With no command waiting, the part's own time passes: an event that is due is taken, and when none is due the local
clock advances by one tick (log entry 2). -/
def idle (s : State) : Host.Outcome State Fault Refusal :=
  match nextEvent s with
  | some x => exec x.1 x.2
  | none => .next (clockTick s)

/-- One step: the command at the front of the queue takes effect on the state with the queue's rest. -/
def step (s : State) : Host.Outcome State Fault Refusal :=
  match s.pending with
  | [] => idle s
  | c :: rest => exec c { s with pending := rest }

/-- The state with the command that a word spells put at the front of the queue; unchanged where it spells none. -/
def State.withFetchWord (s : State) (nbits w : Nat) : State :=
  match decodeTableWord nbits w with
  | some c => { s with pending := c :: s.pending }
  | none => s

end Sys2Proof.Machine
end

