-- ==== Sys2Proof/WellFormed.lean ====
section
/-!
DEFINITION. Which frames and packets are well formed. Every operand of a command is legal by its type (a link, a byte,
an index within its set), so a command needs no check of its own: an illegal index arrives inside a frame body, and R188
refuses it there.
-/
namespace Sys2Proof

/-- A frame body holds 0 to 1,600 bytes (R185, R201). -/
def Frame.wf (f : Frame) : Bool := decide (f.body.length ≤ Config.bodyCap)

/-- A packet is 188 bytes long and begins with the sync byte 0x47 (R1, R2). -/
def Packet.wf (p : Packet) : Bool := decide (p.length = 188) && decide (p.head? = some 0x47)

end Sys2Proof
end

