-- ==== Sys2Proof/Safety.lean ====
section
/-!
DEFINITION. The terms that claims about the RM824 are stated in: a request standing at the head of a link's queue, how it
is answered, which fields an event may change, and the invariants of the part.
-/
namespace Sys2Proof.Machine

/-! ## Requests and their answers -/

/-- The state with a frame at the head of a link's request queue. -/
def received (l : Link) (f : Frame) (s : State) : State :=
  s.setLink l { s.link l with requests := f :: (s.link l).requests }

/-- Whether a link may take a request: its reply queue has room and no RESET waits to take effect (R187, R190, R198). -/
def canTake (l : Link) (s : State) : Prop := s.resetting = false ∧ (s.link l).replies.length < Config.replyCap

/-- The state with an OK reply added, whose body follows the result byte (R188). -/
def replied (l : Link) (f : Frame) (body : List Byte) (s : State) : State := addReply l f (0 :: body) s

/-- The request row of a kind on a link; UNSUPPORTED_KIND for every other kind (R189). -/
def commandOf (l : Link) (kind : Byte) : Instr :=
  match kind.toNat with
  | 0x01 => .identify l
  | 0x02 => .statusRead l
  | 0x03 => .statusClear l
  | 0x04 => .reportSet l
  | 0x05 => .reset l
  | 0x06 => .timeSet l
  | 0x07 => .timeRead l
  | 0x08 => .portStart l
  | 0x09 => .portStop l
  | 0x0A => .portConfig l
  | 0x0B => .portClear l
  | 0x0C => .portRead l
  | 0x0D => .componentWrite l
  | 0x0E => .componentClear l
  | 0x0F => .componentRead l
  | 0x10 => .meterWrite l
  | 0x11 => .meterRead l
  | 0x12 => .slotWrite l
  | 0x13 => .slotClear l
  | 0x14 => .slotRead l
  | 0x15 => .variantWrite l
  | 0x16 => .variantClear l
  | 0x17 => .variantRead l
  | 0x1B => .cueAdd l
  | 0x1C => .cueCancel l
  | 0x1D => .cueConfirm l
  | 0x1E => .cueList l
  | 0x20 => .routeTake l
  | 0x21 => .routeHold l
  | 0x22 => .routeFree l
  | 0x23 => .routeRead l
  | 0x24 => .tallyBind l
  | 0x25 => .claim l
  | 0x26 => .unclaim l
  | 0x27 => .claimBreak l
  | 0x28 => .claimRead l
  | 0x29 => .regionConfig l
  | 0x2A => .regionStart l
  | 0x2B => .regionStop l
  | 0x2C => .regionRead l
  | 0x2D => .feedBind l
  | 0x2E => .carouselConfig l
  | 0x2F => .carouselAppend l
  | 0x30 => .carouselSwap l
  | 0x31 => .carouselStart l
  | 0x32 => .carouselStop l
  | 0x33 => .carouselRead l
  | 0x34 => .carouselClear l
  | 0x35 => .captureRead l
  | 0x36 => .captureRelease l
  | _ => .unsupportedKind l

/-- The kinds that the management link alone may carry (R189); METER_READ, with its clear field, stands apart. -/
def managementKinds : List Byte :=
  [0x03, 0x04, 0x05, 0x06, 0x08, 0x09, 0x0A, 0x0B, 0x0D, 0x0E, 0x10, 0x12, 0x13, 0x15, 0x16, 0x24, 0x27, 0x29, 0x2A,
   0x2B, 0x2D, 0x2E, 0x2F, 0x30, 0x31, 0x32, 0x34, 0x35, 0x36]

/-- A request with this kind and body, taken on this link in this state, is answered OK with this reply and leaves this
state, whatever its tag: everything that the state given does not change stands as it was. -/
def Answers (l : Link) (kind : Byte) (body : List Byte) (s : State) (reply : List Byte) (s' : State) : Prop :=
  ∀ tag, exec (commandOf l kind) (received l { kind := kind, tag := tag, body := body } s) =
    .next (replied l { kind := kind, tag := tag, body := body } reply s')

/-- A request with this kind and body, taken on this link in this state, is refused with this result and these objects,
and changes nothing but its reply and the REFUSED event, whatever its tag. -/
def Refuses (l : Link) (kind : Byte) (body : List Byte) (s : State) (r : Result) (refs : List ObjRef) : Prop :=
  ∀ tag, exec (commandOf l kind) (received l { kind := kind, tag := tag, body := body } s) =
    .next (refuse l { kind := kind, tag := tag, body := body } r refs s)

/-! ### The form of each request's body (R188, R200) -/

/-- A form says how much of a body a field takes: the bytes after it, or none where the bytes do not follow the field's
coding. -/
abbrev Form := List Byte → Option (List Byte)

/-- A number of `n` bytes, high byte first, that satisfies a condition. -/
def Form.num (n : Nat) (ok : Nat → Bool) : Form := fun b =>
  if n ≤ b.length ∧ ok ((b.take n).foldl (fun v x => v * 256 + x.toNat) 0) then some (b.drop n) else none

/-- Any number of `n` bytes. -/
def Form.any (n : Nat) : Form := Form.num n fun _ => true

/-- A byte below `n`: an index, a position in an enumeration, a flag or a set of flags. -/
def Form.below (n : Nat) : Form := Form.num 1 fun x => decide (x < n)

/-- Fields one after another. -/
def Form.seq : List Form → Form
  | [], b => some b
  | f :: rest, b => (f b).bind (Form.seq rest)

/-- An optional field: a presence byte 0 or 1, and the field when present. -/
def Form.opt (f : Form) : Form := fun b =>
  match b with
  | [] => none
  | x :: rest => if x = 0 then some rest else if x = 1 then f rest else none

/-- A list: a count byte of at most `most`, and that many entries. -/
def Form.list (most : Nat) (f : Form) : Form := fun b =>
  match b with
  | [] => none
  | x :: rest => if x.toNat ≤ most then Form.seq (List.replicate x.toNat f) rest else none

/-- An identifier or a mask of 13 bits (log entry 27). -/
def Form.ident : Form := Form.num 2 fun x => decide (x < 8192)
/-- A station time: a day, and a tick of the day. -/
def Form.station : Form := Form.seq [Form.any 2, Form.num 6 fun x => decide (x < 2332800000000)]
/-- A target: a variant, or NATIONAL. -/
def Form.target : Form := Form.num 1 fun x => decide (x < 48) || decide (x = 255)
/-- A region mask that is not empty. -/
def Form.regions : Form := Form.num 1 fun x => decide (x ≠ 0)
/-- A cue id. -/
def Form.cue : Form := Form.num 2 fun x => decide (x ≠ 0)
/-- An owner code. -/
def Form.owner : Form := Form.below 128
/-- The owner code of a claimant. -/
def Form.claimant : Form := Form.num 1 fun x => decide (1 ≤ x) && decide (x ≤ 127)
/-- A binding that COMPONENT_WRITE may carry: UNBOUND, or COMMON with its mask and identifier (R45, log entry 10). -/
def Form.binding : Form := fun b =>
  match b with
  | [] => none
  | x :: rest => if x = 0 then some rest else if x = 1 then Form.seq [Form.any 1, Form.ident] rest else none
/-- The selectors of CUE_LIST: a cue id or a starting position, and not both (R109, log entry 10). -/
def Form.selector : Form := fun b =>
  if b.head? = some 1 then Form.seq [Form.opt Form.cue, Form.below 1] b
  else Form.seq [Form.below 1, Form.num 1 fun x => decide (x = 1), Form.below 128] b
/-- A packet of 188 bytes that may be loaded: it begins with the sync byte and is no null packet (R166). -/
def Form.packet : Form := fun b =>
  if 188 ≤ b.length ∧ byteAt b 0 = 0x47 ∧ Sys2Proof.Machine.ident b ≠ 8191 then some (b.drop 188) else none

/-- The fields of each request, in the order in which its rule lists them. -/
def requestForm (kind : Byte) : List Form :=
  match kind.toNat with
  | 0x01 | 0x02 | 0x05 | 0x07 | 0x28 => []
  | 0x03 => [.below 16]
  | 0x04 => [.below 2, .below 16]
  | 0x06 => [.station]
  | 0x08 | 0x09 | 0x0C => [.below 12]
  | 0x0A => [.below 12, .opt (.below 2), .opt (.below 2), .opt (.below 2)]
  | 0x0B => [.below 12, .below 16]
  | 0x0D => [.any 1, .below 12, .ident, .ident, .below 2, .below 2, .opt (.below 32), .below 2, .binding]
  | 0x0E | 0x0F => [.any 1]
  | 0x10 => [.below 32, .any 4, .any 4, .below 2]
  | 0x11 => [.below 32, .below 2]
  | 0x12 => [.below 24, .below 6, .opt (.below 6), .list 6 (.seq [.below 6, .ident, .opt (.any 1)])]
  | 0x13 | 0x14 => [.below 24]
  | 0x15 =>
    [.below 48, .below 24, .list 255 (.seq [.below 6, .any 1]), .num 1 fun x => decide (254 ≤ x), .any 4, .any 4, .any 4]
  | 0x16 | 0x17 => [.below 48]
  | 0x1B => [.cue, .station, .regions, .below 24, .target, .below 3, .any 4, .below 2, .owner]
  | 0x1C | 0x1D => [.cue, .owner]
  | 0x1E => [.selector]
  | 0x20 => [.regions, .below 24, .target, .below 2, .any 4, .owner]
  | 0x21 | 0x22 => [.regions, .below 24, .owner]
  | 0x23 => [.below 8, .opt (.below 24)]
  | 0x24 => [.below 8, .opt (.seq [.below 8, .below 24])]
  | 0x25 | 0x26 => [.regions, .claimant]
  | 0x27 => [.regions]
  | 0x29 => [.below 8, .opt (.any 4), .opt (.below 2), .opt (.any 4), .opt (.any 4)]
  | 0x2A | 0x2B => [.below 8]
  | 0x2C => [.below 8, .opt (.num 2 fun x => decide (x < 8191))]
  | 0x2D => [.below 16, .opt (.below 8)]
  | 0x2E => [.below 32, .opt (.below 8), .opt (.any 4), .opt (.below 2)]
  | 0x2F => [.below 32, .below 2, .list 8 .packet]
  | 0x30 | 0x31 | 0x32 | 0x33 | 0x34 => [.below 32]
  | _ => [.any 2]

/-- Bytes arrive on a link one after another, at one local clock value. -/
def receiveAll (l : Link) : List Byte → State → Host.Outcome State Fault Refusal
  | [], s => .next s
  | b :: rest, s =>
    match exec (.linkByteReceived l b) s with
    | .next t => receiveAll l rest t
    | .fault r => .fault r
    | .refused r => .refused r

/-- How many ports stand between the port served last and a port, going round from the one after it (R41). -/
def State.turn (s : State) (p : PortId) : Nat := (p + 11 - s.lastServed) % 12

/-- The arbiter's next packet: the oldest of port `p`, with every port whose turn comes before it empty (R41). -/
def State.serves (s : State) (p : PortId) (a : Arrived) (rest : List Arrived) : Prop :=
  (s.port p).fifo = a :: rest ∧ ∀ q, s.turn q < s.turn p → (s.port q).fifo = []

/-- The state with the packet taken from its port, and nothing else done (R41). -/
def served (p : PortId) (rest : List Arrived) (s : State) : State :=
  { s.setPort p { s.port p with fifo := rest } with lastServed := p }

/-! ## What an event may change -/

/-- A link but for its notice queue and its lost flag; the notice queue stays within its capacity (R192). -/
def LinkState.sameButNotices (k k' : LinkState) : Prop :=
  k' = { k with notices := k'.notices, lost := k'.lost } ∧ (k.notices.length ≤ 32 → k'.notices.length ≤ 32)

/-- Only reports are made: the detected flags and the two notice queues may differ. -/
def OnlyReports (s t : State) : Prop :=
  t = { s with detected := t.detected, mgmt := t.mgmt, cueLink := t.cueLink } ∧ s.mgmt.sameButNotices t.mgmt ∧
    s.cueLink.sameButNotices t.cueLink

/-- Only routes and the schedule move, with their reports. -/
def OnlySwitching (s t : State) : Prop :=
  t = { s with
    routes := t.routes, cues := t.cues, insertion := t.insertion, changes := t.changes, falling := t.falling,
    detected := t.detected, mgmt := t.mgmt, cueLink := t.cueLink } ∧ s.mgmt.sameButNotices t.mgmt ∧
    s.cueLink.sameButNotices t.cueLink

/-- Only variant health moves, with the routes and the schedule that it moves, and their reports. -/
def OnlyHealth (s t : State) : Prop :=
  t = { s with
    variants := t.variants, routes := t.routes, cues := t.cues, insertion := t.insertion, changes := t.changes,
    falling := t.falling, detected := t.detected, mgmt := t.mgmt, cueLink := t.cueLink } ∧
    s.mgmt.sameButNotices t.mgmt ∧ s.cueLink.sameButNotices t.cueLink

/-- Only what the handling of a packet may change: in the ports the sticky flags alone, in the components the last seen
counts alone, in the regions the two queues alone, and the meters, the pool, the capture ring, and health and switching
with their reports (R42). -/
def OnlyHandling (u t : State) : Prop :=
  t = { u with
    ports := t.ports, components := t.components, meters := t.meters, pool := t.pool, regions := t.regions,
    capture := t.capture, variants := t.variants, routes := t.routes, cues := t.cues, insertion := t.insertion,
    changes := t.changes, falling := t.falling, detected := t.detected, mgmt := t.mgmt, cueLink := t.cueLink } ∧
    u.mgmt.sameButNotices t.mgmt ∧ u.cueLink.sameButNotices t.cueLink ∧
    (∀ p, t.port p = { u.port p with flags := (t.port p).flags }) ∧
    (∀ c, (u.component c = none → t.component c = none) ∧
      ∀ k, u.component c = some k → ∃ n, t.component c = some { k with lastSeen := n }) ∧
    (∀ g, t.region g = { u.region g with mainQ := (t.region g).mainQ, expQ := (t.region g).expQ }) ∧
    ∀ m, (u.meter m).defn = none → t.meter m = u.meter m

/-! ## Health, continuity and copies, as the rules put them -/

/-- A variant that is made STARVED: both timers stop; one that is STARVED already stands as it was (R89, R90). -/
def VariantDef.starved (d : VariantDef) : VariantDef :=
  if d.health = .starved then d else { d with health := .starved, starveTimer := none, recoverTimer := none }

/-- Every variant whose anchor component is on a port is made STARVED, and no other variant changes (R30, R90). -/
def StarvesAnchored (p : PortId) (s t : State) : Prop :=
  ∀ v, t.variant v = if s.anchoredOn p v then (s.variant v).map VariantDef.starved else s.variant v

/-- Every component on a port loses its last seen count, and no other component changes (R54). -/
def ClearsLastSeen (p : PortId) (s t : State) : Prop :=
  ∀ c, t.component c = (s.component c).map fun k => if k.port = p then { k with lastSeen := none } else k

/-- A variant after an anchor packet: the row of R87 for its health and the packet's error flag, after the restart that a
continuity gap brings a RECOVERING variant (R88). -/
def VariantDef.arrived (d : VariantDef) (err gap : Bool) (now : Clock) : VariantDef :=
  let starve : Option Deadline := some { set := now, len := d.starveMs * 27000 }
  let recover : Option Deadline := some { set := now, len := d.recoverMs * 27000 }
  match d.health with
  | .starved =>
    if err then d
    else if d.recoverMs = 0 then { d with health := .healthy, starveTimer := starve, recoverTimer := none }
    else { d with health := .recovering, starveTimer := starve, recoverTimer := recover }
  | .recovering => { d with starveTimer := starve, recoverTimer := if err || gap then recover else d.recoverTimer }
  | .healthy => { d with starveTimer := starve }

/-- A packet of a component is not discarded by the component's meter: the component is ESSENTIAL, or has no meter, or the
refilled credit is at least the packet's cost (R67, R71, R72). -/
def State.passesMeter (s : State) (k : Component) (a : Arrived) : Prop :=
  k.cls = .essential ∨
    ∀ m d, k.meter = some m → (s.meter m).defn = some d → d.cost a.packet ≤ (d.refill a.arrival).credit

/-- The slot whose route a binding's copies depend on. -/
def State.slotOf (s : State) : Binding → Option SlotId
  | .unbound | .common _ _ => none
  | .national sl _ => some sl
  | .variant v _ => (s.variant v).map VariantDef.slot

/-- The queue entry that a role of a slot makes for a region whose route carries a source (R58, R59). -/
def State.roleEntry (s : State) (k : Component) (a : Arrived) (buf : Nat) (g : RegionId) (sl : SlotId) (r : RoleId)
    (src : Source) : Option QEntry :=
  match s.slot sl with
  | none => none
  | some sd =>
    match sd.roles.find? fun e => decide (e.role = r) with
    | none => none
    | some e =>
      if (s.region g).clk.isSome ∧ (s.route g sl).current = src then
        some {
          buf := buf, arrival := a.arrival, out := e.out, clockBearing := k.clockBearing || decide (sd.clockRole = some r)
          setDisc := (s.route g sl).markPending && (k.clockBearing || decide (sd.clockRole = some r)) &&
            hasSample a.packet }
      else none

/-- The queue entry that a packet of a component makes for a region, where it makes one (R57, R58, R59). -/
def State.entryFor (s : State) (k : Component) (a : Arrived) (buf : Nat) (g : RegionId) : Option QEntry :=
  match k.binding with
  | .unbound => none
  | .common mask out =>
    if (s.region g).clk.isSome ∧ mask.getLsbD g then
      some { buf := buf, arrival := a.arrival, out := out, clockBearing := k.clockBearing, setDisc := false }
    else none
  | .national sl r => s.roleEntry k a buf g sl r .national
  | .variant v r =>
    match s.variant v with
    | some d => s.roleEntry k a buf g d.slot r (.variant v)
    | none => none

/-- Whether the queue of a class in a region has room (R147). -/
def Region.room (r : Region) : CompClass → Prop
  | .essential => r.mainQ.length < 512
  | .expendable => r.expQ.length < 256

/-- A region with an entry at the end of the queue of a class (R147). -/
def Region.joined (r : Region) (e : QEntry) : CompClass → Region
  | .essential => { r with mainQ := r.mainQ ++ [e] }
  | .expendable => { r with expQ := r.expQ ++ [e] }

/-- A packet of a component that the classifier takes next (R41, R42, R50). -/
def State.takesFor (s : State) (p : PortId) (a : Arrived) (rest : List Arrived) (c : ComponentId) (k : Component) : Prop :=
  s.serves p a rest ∧ ident a.packet ≠ 8191 ∧ (s.port p).admission = .admitted ∧
    s.matching p (ident a.packet) = some (c, k)

/-- The state after the packet is taken and its component has noted its count (R52). -/
def noted (p : PortId) (a : Arrived) (rest : List Arrived) (c : ComponentId) (k : Component) (s : State) : State :=
  (served p rest s).setComponent c (some { k with lastSeen := some (continuity a.packet) })

/-- A route after a variant has become HEALTHY (R128). -/
def Route.recovered (r : Route) (v : VariantId) (d : VariantDef) (now : Clock) : Route :=
  if r.state = .fallback ∧ r.intended = .variant v then
    if d.returnMs = 0 then r.switchTo (.variant v)
    else { r with state := .returning v { set := now, len := d.returnMs * 27000 } }
  else r

/-- A route after a mark of a source (R123). -/
def Route.marked (r : Route) (x : Target) : Route :=
  match r.state with
  | .pendingSplice t _ _ => if t = x then r.switchTo x else r
  | .returning v _ => if x = .variant v then r.switchTo x else r
  | .steady | .awaitConfirm _ _ _ | .fallback => r

/-- A route once the packet of a component has reported its anchor arrival and then its mark (R55, R56, R87, R123, R128). -/
def State.reportedRoute (s : State) (k : Component) (a : Arrived) (g : RegionId) (y : SlotId) : Route :=
  match s.anchorSource k.binding with
  | none => s.route g y
  | some (sl, x) =>
    let r :=
      match x with
      | .national => s.route g y
      | .variant v =>
        match s.variant v with
        | some d =>
          if d.health = .starved ∧ d.recoverMs = 0 ∧ errorFlag a.packet = false then (s.route g y).recovered v d s.clock
          else s.route g y
        | none => s.route g y
    if y = sl ∧ entryFlag a.packet = true ∧ errorFlag a.packet = false then r.marked x else r

/-- The state in which a packet's copies are made, with steps 3 to 6 of its handling done (R42, R53, R56): the port's
CONTINUITY flag stands after a gap, the routes are those that the packet's reports leave, and beside them only the
component's meter, health and the schedule may have moved; of a packet that reports nothing, only the meter. A gap and an
excess are detected as NOTE. -/
def ReportedBy (p : PortId) (a : Arrived) (rest : List Arrived) (c : ComponentId) (k : Component) (s u : State) : Prop :=
  OnlyHealth { noted p a rest c k s with ports := u.ports, meters := u.meters } u ∧
    (∀ q, u.port q =
      if q = p ∧ isGap k.lastSeen a.packet then
        { (noted p a rest c k s).port q with flags := { ((noted p a rest c k s).port q).flags with continuity := true } }
      else (noted p a rest c k s).port q) ∧
    (isGap k.lastSeen a.packet = true → u.detected.note = true) ∧
    (∀ m, k.meter ≠ some m → u.meter m = s.meter m) ∧
    (∀ m d, k.meter = some m → (s.meter m).defn = some d → (d.refill a.arrival).credit < d.cost a.packet →
      u.detected.note = true) ∧
    (∀ g y, u.route g y = s.reportedRoute k a g y) ∧
    (entryFlag a.packet = false ∨ errorFlag a.packet = true →
      u.cues = s.cues ∧ u.insertion = s.insertion ∧ u.changes = s.changes) ∧
    (s.anchorSource k.binding = none → OnlyReports { noted p a rest c k s with ports := u.ports, meters := u.meters } u)

/-- The copies of a packet of a component are placed (R57 to R62, R147, R179 to R181). A packet that makes none leaves
nothing; one that finds no free buffer is discarded whole with POOL_EMPTY. Otherwise a capture copy joins the ring where
the component asks for it and the ring has room, and each region copy joins its class's queue where that has room, taking
its route's mark-pending flag where it bears a clock sample; one buffer then holds the packet with a reference for each
copy that joined. A copy that finds no room raises the event of its queue, and the first entry of an empty ring sends
CAPTURE_READY. Nothing else changes but reports. -/
def PlacedFrom (p : PortId) (a : Arrived) (k : Component) (u t : State) : Prop :=
  (k.capture = false → (∀ g, u.entryFor k a 0 g = none) → t = u) ∧
    (k.capture = true ∨ (∃ g e, u.entryFor k a 0 g = some e) →
      (4096 ≤ u.pool.length → t = raiseEvent .poolEmpty (.port p) u) ∧
      (u.pool.length < 4096 → ∃ buf, (∀ b ∈ u.pool, b.id ≠ buf) ∧
        ∀ (joins : RegionId → Option QEntry) (kept refs : Nat),
          (∀ g e, joins g = some e ↔ u.entryFor k a buf g = some e ∧ (u.region g).room k.cls) →
          kept = (if k.capture = true ∧ u.capture.length < 128 then 1 else 0) →
          refs = kept + (List.finRange 8).countP (fun g => (joins g).isSome) →
            (∀ g, t.region g =
              match joins g with
              | some e => (u.region g).joined e k.cls
              | none => u.region g) ∧
            (∀ g sl, t.route g sl = { u.route g sl with
              markPending := (u.route g sl).markPending &&
                !(decide (u.slotOf k.binding = some sl) && (joins g).any fun e => e.setDisc) }) ∧
            t.capture = (if kept = 1 then
              u.capture ++ [{ buf := buf, reason := .component, port := p, arrival := a.arrival }] else u.capture) ∧
            t.pool = (if refs = 0 then u.pool else u.pool ++ [{ id := buf, packet := a.packet, refs := refs }]) ∧
            OnlyReports { u with regions := t.regions, routes := t.routes, capture := t.capture, pool := t.pool } t ∧
            (k.capture = true → 128 ≤ u.capture.length → t.detected.note = true) ∧
            (k.capture = true → u.capture = [] →
              .captureReady 1 u.clock ∈ t.mgmt.notices ∨ t.mgmt.lost = true) ∧
            ∀ g e, u.entryFor k a buf g = some e → joins g = none →
              match k.cls with
              | .essential => t.detected.degraded = true
              | .expendable => t.detected.note = true))

/-- The body of a COMPONENT_WRITE request (R45, R200). -/
def componentRequest (c : ComponentId) (k : Component) : List Byte :=
  e1 c ++ e1 k.port ++ e2 k.ident.toNat ++ e2 k.mask.toNat ++ e1 k.cls.code ++ e1 k.clockBearing.toNat ++
    eOpt (fun m : MeterId => e1 m) k.meter ++ e1 k.capture.toNat ++ eBinding k.binding

/-- A region's registry and drain records after a definer's registrations that are not kept are given up: each becomes a
drain record while a queue entry of the region still carries its identifier (R157, R158). -/
def Region.without (r : Region) (gone : RegEntry → Bool) : Region :=
  { r with
    registry := r.registry.filter fun e => !gone e
    drains := r.drains ++ (r.registry.filter fun e => gone e && (r.mainQ ++ r.expQ).any fun q => decide (q.out = e.ident)).map
      fun e => { ident := e.ident, last := e.last, owed := e.owed } }

/-- A region's registry comes to hold exactly what it held of the other definers' registrations, and of the writer's own
(those told by `own`) each identifier of `want` with its definer: as it stood where it was registered so, and otherwise
new, with last count 15 and nothing owed (R47, R77, R154, R157). Nothing else of the region changes but drain records. -/
def Registers (own : RegEntry → Bool) (want : List (Ident × Definer)) (r r' : Region) : Prop :=
  r' = { r with registry := r'.registry, drains := r'.drains } ∧
    ∀ e, e ∈ r'.registry ↔
      (e ∈ r.registry ∧ (own e = false ∨ (e.ident, e.definer) ∈ want)) ∨
        ((e.ident, e.definer) ∈ want ∧ (∀ x ∈ r.registry, x.ident ≠ e.ident) ∧ e.last = 15 ∧ e.owed = false)

/-! ## Slots, variants, cues and takes, as the rules put them -/

/-- The body of a SLOT_WRITE request (5.1.1, R200). -/
def slotRequest (sl : SlotId) (d : SlotDef) : List Byte :=
  e1 sl ++ e1 d.anchor ++ eOpt (fun r : RoleId => e1 r) d.clockRole ++
    eList (fun e : SlotRole => e1 e.role ++ e2 e.out.toNat ++ eOpt (fun c : ComponentId => e1 c) e.national) d.roles

/-- What a slot's roles register in every region (R77). -/
def slotWants (sl : SlotId) (d : SlotDef) : List (Ident × Definer) := d.roles.map fun e => (e.out, .slotRole sl e.role)

/-- The slot that a SLOT_WRITE carries is well formed (R75): its roles and identifiers are distinct and legal, its anchor
and clock-bearing roles are among them, and its national components are distinct and DEFINED with the full mask. -/
def State.slotLegal (s : State) (d : SlotDef) : Prop :=
  d.roles ≠ [] ∧ (d.roles.map SlotRole.role).Nodup ∧ (d.roles.map SlotRole.out).Nodup ∧ (∀ e ∈ d.roles, e.out ≠ 8191) ∧
    d.anchor ∈ d.roles.map SlotRole.role ∧ (∀ r, d.clockRole = some r → r ∈ d.roles.map SlotRole.role) ∧
    (d.roles.filterMap SlotRole.national).Nodup ∧
    ∀ c ∈ d.roles.filterMap SlotRole.national, ∃ k, s.component c = some k ∧ k.mask = 0x1FFF

/-- A component's binding keeps it from a national role of a slot (R46, R76). -/
def State.keptFrom (s : State) (sl : SlotId) (c : ComponentId) : Prop :=
  ∃ k, s.component c = some k ∧ k.binding ≠ .unbound ∧ ∀ r, k.binding ≠ .national sl r

/-- A route is STEADY on NATIONAL (R76). -/
def Route.onNational (r : Route) : Prop := r.state = .steady ∧ r.current = .national

/-- A variant is one of a slot's, DEFINED, and satisfies a condition. -/
def State.isVariantOf (s : State) (sl : SlotId) (v : VariantId) (ok : VariantDef → Prop) : Prop :=
  ∃ d, s.variant v = some d ∧ d.slot = sl ∧ ok d

/-- The body of a VARIANT_WRITE request whose durations are those given (R82, R200). -/
def variantRequest (v : VariantId) (d : VariantDef) (starve recover ret : Nat) : List Byte :=
  e1 v ++ e1 d.slot ++ eList (fun x : RoleId × ComponentId => e1 x.1 ++ e1 x.2) d.comps ++ eSource d.fallback.source ++
    e4 starve ++ e4 recover ++ e4 ret

/-- The variant that a VARIANT_WRITE carries is well formed (R82). -/
def State.variantLegal (s : State) (d : VariantDef) : Prop :=
  ∃ sd, s.slot d.slot = some sd ∧ (∀ x ∈ d.comps, x.1 ∈ sd.roles.map SlotRole.role) ∧ (d.comps.map Prod.fst).Nodup ∧
    (d.comps.map Prod.snd).Nodup ∧ (∀ x ∈ d.comps, ∃ k, s.component x.2 = some k ∧ k.mask = 0x1FFF) ∧
    sd.anchor ∈ d.comps.map Prod.fst

/-- A variant stands in a route or is the target of a cue, so that it may not be written or cleared (R82, R84). -/
def State.variantUsed (s : State) (v : VariantId) : Prop :=
  (∃ g sl, (s.route g sl).current = .variant v ∨ (s.route g sl).intended = .variant v ∨
    (s.route g sl).state.target = some (.variant v)) ∨ ∃ c ∈ s.cues, c.target = .variant v

/-- The body of a CUE_ADD request (R95, R200). -/
def cueRequest (x : CueAdd) : List Byte :=
  e2 x.id ++ eStation x.due ++ [x.mask] ++ e1 x.slot ++ eTarget x.target ++ e1 x.policy.code ++ e4 x.wait ++
    e1 x.rpt.code ++ e1 x.owner

/-- The fields of a CUE_ADD are well formed (R95). -/
def CueAdd.wellFormed (x : CueAdd) : Prop :=
  0 < x.id ∧ x.id < 65536 ∧ x.due < 152882380800000000 ∧ x.mask ≠ 0 ∧ x.wait < 2 ^ 32 ∧ x.owner ≤ 127

/-- A target may be asked for on a slot: the slot is DEFINED, and the target is NATIONAL or a DEFINED variant of it
(R96, R129). -/
def State.targetLegal (s : State) (sl : SlotId) (t : Target) : Prop :=
  s.slot sl ≠ none ∧ ∀ v, t = .variant v → s.isVariantOf sl v fun _ => True

/-- Every region of a mask passes the claim test for an owner (R136). -/
def State.mayTouch (s : State) (mask : RegionMask) (o : Nat) : Prop :=
  ∀ g : RegionId, mask.getLsbD g = true → s.claimant g = none ∨ s.claimant g = some o

/-- A CUE_ADD that is not refused at a station time, unless it is ONCE and more than 10 s late, with the cue that it enters
(R96, R97). -/
def CueAdd.enters (x : CueAdd) (now : Nat) (w : Option Nat) (c : Cue) (s : State) : Prop :=
  x.wellFormed ∧ s.station = some now ∧ s.cues.length < 128 ∧ (∀ y ∈ s.cues, y.id ≠ x.id) ∧
    s.targetLegal x.slot x.target ∧ s.mayTouch x.mask x.owner ∧
    w = (match x.policy with
      | .immediate => none
      | .atMark => some (min 10000 x.wait)
      | .onConfirm => some (min 600000 (max 1000 x.wait))) ∧
    c = { id := x.id, due := x.due, mask := x.mask, slot := x.slot, target := x.target, policy := x.policy, waitMs := w,
          rpt := x.rpt, owner := x.owner, state := .pending,
          outcomes := (regionsOf x.mask).map fun g => (g, CueOutcome.none), insertion := s.insertion }

/-- The first region of a mask, from RG0 upwards, that fails the claim test, and its claimant (R136). -/
def State.firstClaimed (s : State) (mask : RegionMask) (o : Nat) (g : RegionId) (owner : Nat) : Prop :=
  mask.getLsbD g = true ∧ s.claimant g = some owner ∧ owner ≠ o ∧
    ∀ h < g, mask.getLsbD h = true → s.claimant h = none ∨ s.claimant h = some o

/-- A cue or take with this target, policy and wait limit (in ms) that reaches the route `r` leaves the route `r'` and
gives the outcome `o`, NONE where the route waits on `cue` (R121, R122). A route state of code 3 or 4 is FALLBACK or
RETURNING (R200). -/
def State.meets (s : State) (t : Target) (p : SwitchPolicy) (waitMs : Nat) (cue : Option Nat) (r r' : Route)
    (o : CueOutcome) : Prop :=
  if r.hold then r' = r ∧ o = .held
  else if r.current = t.source then r' = { r with intended := t, state := .steady } ∧ o = .noChange
  else if (r.state.code = 3 ∨ r.state.code = 4) ∧ r.intended = t then r' = r ∧ o = .noChange
  else if s.fit t = false then
    (∀ v, t = .variant v → r' = { r with
      current := s.fallbackOf v, intended := t, state := .fallback
      markPending := r.markPending || decide (r.current ≠ s.fallbackOf v) }) ∧ o = .fallback
  else
    match p with
    | .immediate =>
      r' = { r with current := t.source, intended := t, state := .steady, markPending := true } ∧ o = .switched
    | .atMark =>
      if waitMs = 0 then
        r' = { r with current := t.source, intended := t, state := .steady, markPending := true } ∧ o = .forced
      else r' = { r with state := .pendingSplice t cue { set := s.clock, len := waitMs * 27000 } } ∧ o = .none
    | .onConfirm => r' = { r with state := .awaitConfirm t cue { set := s.clock, len := waitMs * 27000 } } ∧ o = .none

/-- A due time is a cue's own advanced by the smallest whole number of days that puts it in the future, when the cue is
late by `late` ticks (R97, R103, R112). -/
def Cue.advancedTo (c : Cue) (late due : Nat) : Prop :=
  ∃ days, 0 < days ∧ late < days * 2332800000000 ∧ (days - 1) * 2332800000000 ≤ late ∧
    due = (c.due + days * 2332800000000) % 152882380800000000

/-- The due time of the day after a cue's present occurrence (R103). -/
def Cue.nextDay (c : Cue) : Nat := (c.due + 2332800000000) % 152882380800000000

/-- How late the day after a cue's present occurrence is at a station time, round the ring (R94, R103). -/
def Cue.nextLate (c : Cue) (now : Nat) : Nat := (now + 152882380800000000 - c.nextDay) % 152882380800000000

/-- The due time with which a DAILY cue that completes is re-entered (R103): the next day's, or, where that lies in the
past by more than 10 s, the first of the days after it that lies in the future. -/
def State.reentersAt (s : State) (c : Cue) (due : Nat) : Prop :=
  match s.station with
  | none => due = c.nextDay
  | some now =>
    if 270000000 < c.nextLate now ∧ c.nextLate now < 76441190400000000 then
      { c with due := c.nextDay }.advancedTo (c.nextLate now) due
    else due = c.nextDay

/-- A DAILY cue that completes does not fall due again at once: its next day is not the present or late by 10 s or less
(R103). -/
def State.nextWaits (s : State) (c : Cue) : Prop :=
  c.rpt = .daily → ∀ now, s.station = some now → 270000000 < c.nextLate now

/-- No DAILY cue that completes falls due again at once. -/
def State.dailiesWait (s : State) : Prop := ∀ c ∈ s.cues, s.nextWaits c

/-- The cue as it waits for its next occurrence, for a due time and an insertion number: PENDING, every outcome NONE. -/
def Cue.reentered (c : Cue) (due insertion : Nat) : Cue :=
  { c with
    due := due, state := .pending, outcomes := c.outcomes.map (fun x => (x.1, CueOutcome.none)), insertion := insertion }

/-- A cue of the schedule whose outcomes are all given has completed (R102, R103): it is removed, or, when DAILY,
re-entered with no outcome for its next occurrence as R103 measures it. -/
def Completed (c : Cue) (s t : State) : Prop :=
  match c.rpt with
  | .once => t.cues = s.cues.filter (fun x => x.id != c.id) ∧ t.insertion = s.insertion
  | .daily =>
    (∃ due, s.reentersAt c due ∧ c.reentered due s.insertion ∈ t.cues) ∧
      t.cues.filter (fun x => x.id != c.id) = s.cues.filter (fun x => x.id != c.id) ∧ t.insertion = s.insertion + 1

/-- A cue is entered with the next insertion number, at its place by due time and then insertion number (R93, R97). -/
def Entered (c : Cue) (s u : State) : Prop :=
  u = { s with cues := u.cues, insertion := s.insertion + 1, changes := s.changes + 1 } ∧
    ∃ pre post, s.cues = pre ++ post ∧ u.cues = pre ++ { c with insertion := s.insertion } :: post ∧
      (∀ y ∈ pre, ¬(c.due < y.due ∨ (c.due = y.due ∧ s.insertion < y.insertion))) ∧
      ∀ y ∈ post.head?, c.due < y.due ∨ (c.due = y.due ∧ s.insertion < y.insertion)

/-- A cue that stands in the schedule and waits for its occurrence; no route of its mask waits on it. -/
def State.standsReady (s : State) (c : Cue) : Prop :=
  (s.cues.map Cue.id).Nodup ∧ c ∈ s.cues ∧ c.state = .pending ∧ c.mask ≠ 0 ∧
    c.outcomes = (regionsOf c.mask).map (fun g => (g, CueOutcome.none)) ∧ s.insertion < 4294967295 ∧ s.falling = [] ∧
    ∀ g : RegionId, c.mask.getLsbD g = true → (s.route g c.slot).waiter ≠ some (.cue c.id)

/-- A cue that stands ready and meets no route that waits on another cue. -/
def State.readyToFall (s : State) (c : Cue) : Prop :=
  s.standsReady c ∧ ∀ (g : RegionId) (id : Nat), c.mask.getLsbD g = true → (s.route g c.slot).waiter ≠ some (.cue id)

/-- A cue of the schedule has fallen due (R98, R99, R102, R103): each route of its mask and slot has met it by R121 and
R122, and no other route has moved. The cue stands ACTIVE with the outcomes given while one is still missing. With all of
them given it is removed, or, when DAILY, re-entered a day later with no outcome. -/
def HandedOver (c : Cue) (s t : State) : Prop :=
  OnlySwitching s t ∧ t.falling = [] ∧
    (∀ (g : RegionId) (sl : SlotId), sl ≠ c.slot ∨ c.mask.getLsbD g = false → t.route g sl = s.route g sl) ∧
    ∃ o : RegionId → CueOutcome,
      (∀ g : RegionId, c.mask.getLsbD g = true →
        s.meets c.target c.policy (c.waitMs.getD 0) (some c.id) (s.route g c.slot) (t.route g c.slot) (o g)) ∧
      if ∃ g ∈ regionsOf c.mask, o g = .none then
        t.cues = s.cues.map (fun x => if x.id = c.id then
          { c with state := .active, outcomes := (regionsOf c.mask).map fun g => (g, o g) } else x) ∧
        t.changes = s.changes + 1 ∧ t.insertion = s.insertion
      else
        t.changes = s.changes + 2 ∧
          match c.rpt with
          | .once => t.cues = s.cues.filter (fun x => x.id != c.id) ∧ t.insertion = s.insertion
          | .daily =>
            { c with due := (c.due + 2332800000000) % 152882380800000000, insertion := s.insertion } ∈ t.cues ∧
              t.cues.filter (fun x => x.id != c.id) = s.cues.filter (fun x => x.id != c.id) ∧
              t.insertion = s.insertion + 1

/-- A cue has got an outcome from a region whose route waited on it (R100, R102): its other regions keep their outcomes or
go on waiting, and where this was the last outcome missing it has completed. No route moves. -/
def OutcomeGiven (o : CueOutcome) (b : Cue) (g : RegionId) (s u : State) : Prop :=
  OnlySwitching s u ∧ u.routes = s.routes ∧ u.falling = s.falling ∧
    ∀ b' : Cue,
      b' = { b with outcomes := b.outcomes.map fun x => if x.1 = g ∧ x.2 = .none then (g, o) else x } →
        if ∀ x ∈ b'.outcomes, x.2 ≠ .none then Completed b' s u ∧ u.changes = s.changes + 1
        else
          u.cues = s.cues.map (fun x => if x.id = b.id then b' else x) ∧ u.insertion = s.insertion ∧
            u.changes = s.changes

/-- Outcomes are given one after another, each by a region to the ACTIVE cue of an id; nothing else moves (R100). -/
def GivesOutcomes : List (RegionId × Nat × CueOutcome) → State → State → Prop
  | [], s, u => u = s
  | (g, id, o) :: rest, s, u =>
    ∃ m, GivesOutcomes rest m u ∧
      (∀ b ∈ s.cues, b.id = id → b.state = .active → OutcomeGiven o b g s m) ∧
      ((∀ b ∈ s.cues, b.id = id → b.state = .pending) → m = s)

/-- The outcome that a route gives to the cue it waits on, where it waits on one. -/
def Route.tells (r : Route) (g : RegionId) (o : CueOutcome) : Option (RegionId × Nat × CueOutcome) :=
  match r.waiter with
  | some (.cue id) => some (g, id, o)
  | some .take | none => none

/-- Each ACTIVE cue on which a route of a slot waits in one of the regions given gets its SUPERSEDED, region after region,
where the route is not held; nothing else moves (R101, R121). -/
def SupersedesWaits (sl : SlotId) (gs : List RegionId) (s u : State) : Prop :=
  GivesOutcomes (gs.filterMap fun g => if (s.route g sl).hold then none else (s.route g sl).tells g .superseded) s u

/-- The outcomes that a starvation of a variant brings, route after route (R127): FALLBACK where a splice waits for the
variant, and FORCED where one waits for another source and the variant is the outgoing one. -/
def State.starvedOutcomes (s : State) (v : VariantId) : List (RegionId × Nat × CueOutcome) :=
  (List.finRange 8).flatMap fun g => (List.finRange 24).filterMap fun sl =>
    match (s.route g sl).state with
    | .pendingSplice t _ _ =>
      if t = .variant v then (s.route g sl).tells g .fallback
      else if (s.route g sl).current = .variant v then (s.route g sl).tells g .forced
      else none
    | .steady | .awaitConfirm _ _ _ | .fallback | .returning _ _ => none

/-- The outcomes that a mark of a source brings on the routes of a slot, region after region (R123): SWITCHED where a splice
waits for that source. -/
def State.markedOutcomes (s : State) (sl : SlotId) (x : Target) : List (RegionId × Nat × CueOutcome) :=
  (List.finRange 8).filterMap fun g =>
    if (s.route g sl).state.code = 1 ∧ (s.route g sl).state.target = some x then (s.route g sl).tells g .switched else none

/-- Cues are handed over one at a time in the order given, each after the waits that it supersedes, so that a later one
meets the routes as the earlier ones left them (R98). -/
def HandedInTurn : List Cue → State → State → Prop
  | [], s, t => t = s
  | c :: rest, s, t =>
    ∃ u v, SupersedesWaits c.slot (regionsOf c.mask) s u ∧ HandedOver c u v ∧ HandedInTurn rest v t

/-- How late a cue is at a station time, round the ring of 65,536 days (R94). -/
def Cue.late (c : Cue) (now : Nat) : Nat :=
  (now + 152882380800000000 - c.due % 152882380800000000) % 152882380800000000

/-- A PENDING cue of the schedule that the time setting pass finds late by more than 10 s has been expired (R112): it is
EXPIRED in every region, with CUE_DONE on both links, and then removed when ONCE, or re-entered for the first of its days
that lies in the future when DAILY. Nothing else changes. -/
def Expired (c : Cue) (late : Nat) (s u : State) : Prop :=
  ∀ (gone : State) (done : Cue), gone = { s with cues := s.cues.filter fun x => x.id != c.id } →
    done = { c with outcomes := c.outcomes.map fun x => (x.1, CueOutcome.expired) } →
      match c.rpt with
      | .once => u = notifyBoth (.cueDone done none) { gone with changes := s.changes + 1 }
      | .daily =>
        ∃ due, c.advancedTo late due ∧
          Entered (c.reentered due s.insertion) (notifyBoth (.cueDone done (some due)) gone) u

/-! ## Notices, as the rules put them -/

/-- Two notices have the same kind and the same coalescing key (R191). -/
def Notice.sameKindAndKey (m n : Notice) : Prop :=
  (∃ c o t r t' r', m = .event c o t r ∧ n = .event c o t' r') ∨
    (∃ g sl a c x y t a' c' x' y' t',
      m = .routeChange g sl a c x y t ∧ n = .routeChange g sl a' c' x' y' t') ∨
    (∃ v a b c t a' b' c' t', m = .variantHealth v a b c t ∧ n = .variantHealth v a' b' c' t') ∨
    (∃ p a b c d a' b' c' d', m = .portState p a b c d ∧ n = .portState p a' b' c' d') ∨
    (∃ c c' x x', m = .cueDone c x ∧ n = .cueDone c' x' ∧ c.id = c'.id) ∨
    ∃ a t a' t', m = .captureReady a t ∧ n = .captureReady a' t'

/-! ## Regions and carousels, as the rules put them -/

/-- The pool after references have been dropped, one for each buffer number of a list: a buffer with no reference left is
free (R60, R63). -/
def droppedFrom (ids : List Nat) (pool : List Buffer) : List Buffer :=
  pool.filterMap fun b =>
    if ids.count b.id = 0 then some b
    else if b.refs ≤ ids.count b.id then none
    else some { b with refs := b.refs - ids.count b.id }

/-- The slot clock one slot on, at a rate R: with N = 40,608,000,000, the accumulator gains N mod R and the next instant
floor(N / R) ticks, and one tick more where the accumulator reaches R, which it then loses (R144). -/
def SlotClock.after (c : SlotClock) (rate : Nat) : SlotClock :=
  { base := c.base
    next := c.next + BitVec.ofNat 48 (40608000000 / rate) + (if rate ≤ c.acc + 40608000000 % rate then 1 else 0)
    acc := (c.acc + 40608000000 % rate) - (if rate ≤ c.acc + 40608000000 % rate then rate else 0)
    index := c.index + 1 }

/-- Whether the entry has waited longer than a limit in ms at a slot instant (R148). -/
def QEntry.over (e : QEntry) (limitMs : Nat) (now : Clock) : Bool := decide (limitMs * 27000 < (now - e.arrival).toNat)

/-- Whether a discontinuity is owed to an identifier once entries have left their queues without being begun (R155). -/
def Region.owedAfter (r : Region) (gone : List QEntry) (i : Ident) : Bool :=
  r.isOwed i || gone.any fun q => q.setDisc && decide (q.out = i)

/-- The record of an identifier, after a slot instant, with the last count and the owed flag given (R154, R155, R158): the
registry entry, or else the drain record, which is gone when no queued entry carries the identifier any more. -/
def Region.keepsRecord (r r' : Region) (i : Ident) (last : Continuity) (owed : Bool) : Prop :=
  (∀ e, r.lookup i = some e → r'.lookup i = some { e with last := last, owed := owed }) ∧
    ∀ d, r.lookup i = none → r.drain i = some d →
      r'.lookup i = none ∧
        r'.drain i =
          if (r'.mainQ ++ r'.expQ).any (fun q => decide (q.out = i)) then some { d with last := last, owed := owed }
          else none

/-- The identifiers of a region's registry, each with its definer. -/
def Region.definers (r : Region) : List (Ident × Definer) := r.registry.map fun e => (e.ident, e.definer)

/-- The identifiers of a pending swap's building list are registered to the carousel in a region, as they have been since
CAROUSEL_SWAP was taken (R167). -/
def Region.holdsBuilding (r : Region) (k : CarouselId) (c : Carousel) : Prop :=
  ∀ p ∈ c.building, (ident p, Definer.carousel k) ∈ r.definers

/-- Whether a registration outlasts a pending swap of a carousel: another definer's does, and of the carousel's own those
that the new list uses (R168). -/
def keptBySwap (k : CarouselId) (c : Carousel) (x : Ident × Definer) : Bool :=
  decide (x.2 ≠ .carousel k) || c.building.any fun p => decide (ident p = x.1)

/-- A carousel whose pending swap, if any, has taken effect (R168). -/
def Carousel.settled (c : Carousel) : Carousel :=
  if c.swapPending then { c with live := c.building, building := [], swapPending := false } else c

/-- The feeds bound to a region carry a packet from an instant to the next, and the others are as they were (R160). -/
def FeedsCarry (g : RegionId) (p : Packet) (s t : State) : Prop :=
  ∀ fd, t.feed fd =
    if (s.feed fd).bound = some g then
      { bound := some g
        out := ((t.region g).clk.map fun c => { packet := p, begun := s.clock, ends := c.next }) }
    else s.feed fd

/-- A queued packet has left on the feeds of its region, after other entries were discarded: as its output copy, drawn from
the record of its identifier as the discards left it; and the records have moved on (R152 to R155, R158). -/
def BegunFrom (g : RegionId) (r : Region) (dropped : List QEntry) (e : QEntry) (p : Packet) (s t : State) : Prop :=
  (r.lookup e.out ≠ none ∨ r.drain e.out ≠ none →
    ∀ x : Region, x.lastCount e.out = r.lastCount e.out → x.isOwed e.out = r.owedAfter dropped e.out →
      FeedsCarry g (x.outputCopy e p s.clock) s t) ∧
  ∀ j, r.keepsRecord (t.region g) j
    (if j = e.out ∧ carriesPayload p then r.lastCount j + 1 else r.lastCount j)
    (r.owedAfter dropped j && !(decide (j = e.out) && e.clockBearing && hasSample p))

/-- What a slot instant may change: its own region, the carousels, the feeds, the pool, and reports (R144 to R160). -/
def OnlyInstant (g : RegionId) (s t : State) : Prop :=
  t = { s with
    regions := t.regions, carousels := t.carousels, feeds := t.feeds, pool := t.pool, detected := t.detected,
    mgmt := t.mgmt, cueLink := t.cueLink } ∧ s.mgmt.sameButNotices t.mgmt ∧ s.cueLink.sameButNotices t.cueLink ∧
    (∀ h, h ≠ g → t.region h = s.region h) ∧ ∀ k, (s.carousel k).region ≠ some g → t.carousel k = s.carousel k

/-- How far a carousel stands behind the one served last, going round (R150). -/
def Region.carouselTurn (r : Region) (k : CarouselId) : Nat :=
  match r.lastCarousel with
  | some last => (k + 31 - last) % 32
  | none => k

/-- What a list of packets registers in a carousel's region (R167): each identifier once, in the order of the list. -/
def carouselWants (k : CarouselId) (l : List Packet) : List (Ident × Definer) :=
  (distinctIdents l).map fun i => (i, .carousel k)

/-- A carousel that begins a cycle (R170). -/
def Carousel.cycling (c : Carousel) (now : Clock) : Carousel :=
  { c with
    cursor := some 0, cycleStart := some now, interval := some ({ set := now, len := c.intervalMs * 27000 }, false) }

/-! ## The invariants -/

/-- An output rate of a region lies in its range (R142). -/
def rateOk (rate : Nat) : Prop := 2000000 ≤ rate ∧ rate ≤ 60000000

/-- The slot clock of a region is exact: the next instant is the base plus floor(k × N / R) ticks, and the accumulator
holds the remainder, for k the slot index and R the rate in force, which lies in its range (R142, R144). -/
def Region.clockOk (r : Region) : Prop :=
  rateOk r.rate ∧ (∀ p, r.pendingRate = some p → rateOk p) ∧
    ∀ c, r.clk = some c →
      c.next = c.base + BitVec.ofNat 48 (c.index * Config.packetTicks / r.rate) ∧
        c.acc = c.index * Config.packetTicks % r.rate

/-- Every region's slot clock is exact. -/
def State.clocksOk (s : State) : Prop := ∀ g, (s.region g).clockOk

/-- A DEFINED meter's settings lie in their ranges and its credit never exceeds its cap (R65, R68). -/
def Meter.ok (m : Meter) : Prop :=
  ∀ d, m.defn = some d →
    64000 ≤ d.rate ∧ d.rate ≤ 40000000 ∧ 188 ≤ d.burst ∧ d.burst ≤ 188000 ∧ d.credit ≤ d.burst * 216000000

/-- Every meter is so. -/
def State.metersOk (s : State) : Prop := ∀ m, (s.meter m).ok

/-- A link's three queues stand within their capacities (R187, R190, R192). -/
def LinkState.bounded (k : LinkState) : Prop := k.requests.length ≤ 4 ∧ k.replies.length ≤ 8 ∧ k.notices.length ≤ 32

/-- Both links are so. -/
def State.linksOk (s : State) : Prop := ∀ l, (s.link l).bounded

/-- The pool counts hold (R60, R63): at most 4,096 buffers are in use, no two with one number; each holds as many
references as entries of the regions' queues and of the capture ring name it, and at least one; and every such entry names
one of them. -/
def State.poolOk (s : State) : Prop :=
  let named := ((List.finRange 8).flatMap fun g => ((s.region g).mainQ ++ (s.region g).expQ).map QEntry.buf) ++
    s.capture.map CapEntry.buf
  s.pool.length ≤ 4096 ∧ (s.pool.map Buffer.id).Nodup ∧ (∀ b ∈ s.pool, b.refs = named.count b.id ∧ 0 < b.refs) ∧
    ∀ n ∈ named, n ∈ s.pool.map Buffer.id

/-- A region's registry stands in strictly ascending identifier order, so that no identifier has two definers, and no
drain record shares its identifier with another or with a registration (R157, R158). -/
def Region.namesOk (r : Region) : Prop :=
  (r.registry.map fun e => e.ident.toNat).Pairwise (· < ·) ∧ (r.drains.map DrainRec.ident).Nodup ∧
    ∀ d ∈ r.drains, ∀ e ∈ r.registry, d.ident ≠ e.ident

/-- Every region's registry is so. -/
def State.namesOk (s : State) : Prop := ∀ g, (s.region g).namesOk

/-- A STEADY route carries the source it is meant to carry, and so never BLANK; a route that waits on a cue or a take is
not held (7.1, R130). -/
def Route.ok (r : Route) : Prop :=
  (r.state = .steady → r.current = r.intended.source) ∧ (r.waiter ≠ none → r.hold = false)

/-- Every route is so. -/
def State.routesOk (s : State) : Prop := ∀ g sl, (s.route g sl).ok

end Sys2Proof.Machine
end

