-- ==== Sys2Proof/Certificates/Slice0/Obligations.lean ====
section
/-!
DEFINITION. The statements for the provers. Each docstring names the rules of spec/ that the statement formalises. A body
in a statement is written with the coding of R200 (`Machine/Operands.lean`), and `Answers` and `Refuses` (`Safety.lean`)
say that a request has exactly the effect given: what the state given does not change is unchanged.
-/

open Sys2Proof Sys2Proof.Machine

/-! ## The step -/

/-- A step runs the command at the front of the queue on the state with the queue's rest. -/
def Obligations.StepRunsTheFrontCommand : Prop :=
  ∀ (c : Instr) (rest : List Instr) (s : State),
    step { s with pending := c :: rest } = exec c { s with pending := rest }

/-- The model's choice (log entries 2 and 4): with no command waiting, a step takes one of the part's own events that are
due, and when none is due the local clock advances by one tick.

R12, R14: a tick advances the local clock by one modulo 2^48 and station time by one modulo 65,536 days, through the
wrap of the local clock as at any other tick; nothing else changes. LOCAL_CLOCK_WRAP is the tick at the wrap, taken once
no other event of the tick is due. At any other clock value it does nothing (the model's choice, log entry 15). -/
def Obligations.IdleStepsPassTime : Prop :=
  (∀ s : State, s.pending = [] →
      (dueEvents s = [] → step s = .next (clockTick s)) ∧
        (dueEvents s ≠ [] → ∃ e ∈ dueEvents s, ∃ n, step s = exec e { s with races := n })) ∧
  ((∀ s : State, ∃ o, clockTick s = { s with clock := s.clock + 1, offset := o } ∧
      (clockTick s).station = s.station.map fun n => (n + 1) % 152882380800000000) ∧
    (∀ s : State, s.clock = BitVec.allOnes 48 → dueEvents s = [] →
      ∃ o, exec .localClockWrap s = .next { s with clock := 0, offset := o } ∧
        ({ s with clock := 0, offset := o } : State).station = s.station.map fun n => (n + 1) % 152882380800000000) ∧
    ∀ s : State, s.clock ≠ BitVec.allOnes 48 → exec .localClockWrap s = .next s)

/-! ## Resets and links -/

/-- Every field of the part at the value that its own chapter gives for reset, with READY of a cause on both links. -/
def AtReset (cause : ResetCause) (t : State) : Prop :=
  t.clock = 0 ∧ t.offset = none ∧
  (∀ p, t.port p = {
    run := .stopped, admission := .notAdmitted, unadmitted := .discard, unmatched := .discard, fifo := []
    flags := { syncLost := false, overrun := false, continuity := false, errorFlagged := false } }) ∧
  t.lastServed = 11 ∧ (∀ c, t.component c = none) ∧ t.pool = [] ∧
  (∀ m, t.meter m = { defn := none, excess := false }) ∧ (∀ sl, t.slot sl = none) ∧ (∀ v, t.variant v = none) ∧
  t.cues = [] ∧ t.insertion = 0 ∧ t.changes = 0 ∧
  (∀ g sl, t.route g sl =
    { current := .national, intended := .national, state := .steady, hold := false, markPending := false }) ∧
  (∀ x : TallyId, t.tallies[x] = none) ∧ (∀ g, t.claimant g = none) ∧
  (∀ g, t.region g = {
    clk := none, rate := 20000000, pendingRate := none, mode := .fixed, delayMs := 200, ageMs := 500, lastBegun := .null
    lastCarousel := none, mainQ := [], expQ := [], registry := [], drains := [], nulls := [] }) ∧
  (∀ fd, t.feed fd = { bound := none, out := none }) ∧
  (∀ k, t.carousel k = {
    region := none, intervalMs := 1000, mode := .continuous, state := .idle, live := [], building := []
    swapPending := false, cursor := none, cycleStart := none, interval := none }) ∧
  t.capture = [] ∧
  t.mgmt = {
    rx := none, rxLast := 0, requests := [], replies := [], notices := [.ready cause], lost := false
    enables := { note := true, degraded := true, fault := true, refused := true }, tx := none } ∧
  t.cueLink = {
    rx := none, rxLast := 0, requests := [], replies := [], notices := [.ready cause], lost := false
    enables := { note := false, degraded := true, fault := true, refused := false }, tx := none } ∧
  t.detected = { note := false, degraded := false, fault := false, refused := false } ∧ t.resetting = false

/-- R198 with R12, R14, R21, R41, R44, R60, R64, R74, R81, R93, R115, R141: the reset pin at any moment, and the end of
the RESET reply, return every block and both links to their reset state.

R198: a taken RESET is answered OK and resets nothing yet; from then on neither link takes a request; and the
transmitter that begins its reply marks it, so that its end makes the reset take effect. That FRAME_SENT for the RESET
reply is the reset, and the values of rxLast and of the record of nulls, are the model's choice (log entries 19, 20).
RESET_TAKES_EFFECT does nothing while no RESET reply is being sent (the model's choice, log entry 15). -/
def Obligations.ResetsReturnEveryBlockToReset : Prop :=
  ((∀ s : State, ∃ t, exec .powerOnReset s = .next t ∧ AtReset .powerOn t ∧ t.pending = s.pending) ∧
    (∀ (s : State) (bytes : List Byte), s.mgmt.tx = some { bytes := bytes, resetReply := true } →
      (∃ t, exec .resetTakesEffect s = .next t ∧ AtReset .request t ∧ t.pending = s.pending) ∧
        ∃ t, exec (.frameSent .management) s = .next t ∧ AtReset .request t ∧ t.pending = s.pending) ∧
    ∀ s : State, s.sendsResetReply = false → exec .resetTakesEffect s = .next s) ∧
  ((∀ s : State, canTake .management s → Answers .management 0x05 [] s [] { s with resetting := true }) ∧
    (∀ (s : State) (l : Link) (kind : Byte), s.resetting = true → exec (commandOf l kind) s = .next s) ∧
    ∀ (s : State) (tag : Byte) (rest : List Reply), s.resetting = true → s.mgmt.tx = none →
      s.mgmt.replies = { kind := 0x05, tag := tag, body := [0] } :: rest →
        exec (.frameSendBegin .management) s = .next { s with mgmt := { s.mgmt with
          replies := rest, tx := some { bytes := frameBytes 0x05 tag [0], resetReply := true } } })

/-- R185, R186, R187, R201: a well-formed frame that arrives byte by byte at a hunting receiver, whose link holds fewer
than 4 requests, joins the request queue as it was sent, and the receiver hunts again; nothing else changes. -/
def Obligations.FrameArrivesByteByByte : Prop :=
  ∀ (l : Link) (f : Frame) (s : State), f.wf = true → (s.link l).rx = none → (s.link l).requests.length < 4 →
    receiveAll l (frameBytes f.kind f.tag f.body) s =
      .next (s.setLink l { s.link l with rx := none, rxLast := s.clock, requests := (s.link l).requests ++ [f] })

/-- The bytes of a frame that its check covers (R185). -/
def coveredBytes (f : Frame) : List Byte := e2 f.body.length ++ [f.kind, f.tag] ++ f.body

/-- R186, R187, R190: what else a byte or a silence does to a receiver: a hunting receiver passes over a byte that is
no marker; a length above 1,600, a bad check and a gap above 50 ms discard the frame with NOTE LINK_FRAME (here for
frames in which no marker stands, so that nothing is found again); and a good frame that finds 4 requests waiting is
answered BUSY, or disregarded when 8 replies wait, with a REFUSED event in either case. Before the gap exceeds 50 ms
FRAME_GAP_TIMEOUT does nothing (the model's choice, log entry 15). -/
def Obligations.ReceiverDiscardsWhatIsNoFrame : Prop :=
  (∀ (l : Link) (b : Byte) (s : State), (s.link l).rx = none → b ≠ 0xA5 →
    exec (.linkByteReceived l b) s = .next (s.setLink l { s.link l with rx := none, rxLast := s.clock })) ∧
  (∀ (l : Link) (hi lo : Byte) (s : State), (s.link l).rx = some [hi] → elapsed s.clock (s.link l).rxLast ≤ 1350000 →
    1600 < hi.toNat * 256 + lo.toNat → hi ≠ 0xA5 → lo ≠ 0xA5 →
      exec (.linkByteReceived l lo) s =
        .next (raiseEvent .linkFrame (.link l) (s.setLink l { s.link l with rx := none, rxLast := s.clock }))) ∧
  (∀ (l : Link) (f : Frame) (c d : Byte) (s : State), f.wf = true → (s.link l).rx = some (coveredBytes f ++ [c]) →
    elapsed s.clock (s.link l).rxLast ≤ 1350000 → checkBytes (coveredBytes f) ≠ [c, d] →
    (∀ b ∈ coveredBytes f ++ [c, d], b ≠ 0xA5) →
      exec (.linkByteReceived l d) s =
        .next (raiseEvent .linkFrame (.link l) (s.setLink l { s.link l with rx := none, rxLast := s.clock }))) ∧
  (∀ (l : Link) (f : Frame) (c d : Byte) (s : State), f.wf = true → (s.link l).rx = some (coveredBytes f ++ [c]) →
    elapsed s.clock (s.link l).rxLast ≤ 1350000 → checkBytes (coveredBytes f) = [c, d] →
    4 ≤ (s.link l).requests.length →
      exec (.linkByteReceived l d) s =
        .next (if (s.link l).replies.length < 8 then
            refuse l f .busy [] (s.setLink l { s.link l with rx := none, rxLast := s.clock })
          else raiseEvent (.refused .busy) (.link l) (s.setLink l { s.link l with rx := none, rxLast := s.clock }))) ∧
  ∀ (l : Link) (s : State),
    exec (.frameGapTimeout l) s =
      .next (if (s.link l).rx ≠ none ∧ 1350000 < elapsed s.clock (s.link l).rxLast then
          raiseEvent .linkFrame (.link l) (s.setLink l { s.link l with rx := none })
        else s)

/-- R191, R192: a notice placed on a link replaces the content of the waiting notice of its kind and key in place, and
keeps its position: ROUTE_CHANGE by region and slot, VARIANT_HEALTH by variant, PORT_STATE by port, CUE_DONE by cue id, and
one key for CAPTURE_READY. With none such waiting it joins the queue while that holds fewer than 32, or is dropped and sets
the lost flag. READY has no key.

R192 to R194: an event sets its class's detected flag and no other. On a link whose report enable for the class is
off it sends nothing. On one whose enable is on, it replaces a waiting event of the same cause and object in place, with
the repeat count one higher up to 255; or joins the queue while that holds fewer than 32; or is dropped and sets the lost
flag. Nothing else changes. -/
def Obligations.EventsAreReportedAndCoalesced : Prop :=
  (∀ (c : Cause) (o : ObjRef) (s : State), OnlyReports s (raiseEvent c o s) ∧
    ∀ e, (raiseEvent c o s).detected.has e = (s.detected.has e || decide (e = c.cls))) ∧
  (∀ (c : Cause) (o : ObjRef) (s : State) (l : Link), (s.link l).enables.has c.cls = false →
    (raiseEvent c o s).link l = s.link l) ∧
  (∀ (c : Cause) (o : ObjRef) (s : State) (l : Link) (pre post : List Notice) (t : Clock) (r : Nat),
    (s.link l).enables.has c.cls = true → (s.link l).notices = pre ++ .event c o t r :: post →
    (∀ t' r', Notice.event c o t' r' ∉ pre) →
      (raiseEvent c o s).link l =
        { s.link l with notices := pre ++ .event c o s.clock (min 255 (r + 1)) :: post }) ∧
  (∀ (c : Cause) (o : ObjRef) (s : State) (l : Link), (s.link l).enables.has c.cls = true →
    (∀ t r, Notice.event c o t r ∉ (s.link l).notices) →
      (raiseEvent c o s).link l =
        if (s.link l).notices.length < 32 then
          { s.link l with notices := (s.link l).notices ++ [.event c o s.clock 1] }
        else { s.link l with lost := true }) ∧
  ∀ (k : LinkState) (n : Notice),
    (∀ pre old post, k.notices = pre ++ old :: post → (∀ x ∈ pre, ¬n.sameKindAndKey x) → n.sameKindAndKey old →
      (∀ c o t r, n ≠ .event c o t r) → k.place n = { k with notices := pre ++ n :: post }) ∧
    ((∀ x ∈ k.notices, ¬n.sameKindAndKey x) →
      k.place n = if k.notices.length < 32 then { k with notices := k.notices ++ [n] } else { k with lost := true }) ∧
    ∀ cause x, ¬Notice.sameKindAndKey (.ready cause) x ∧ ¬x.sameKindAndKey (.ready cause)

/-- R190, R193: a free transmitter begins the oldest reply, or else the oldest notice with tag 0 and the "earlier notices
lost" flag, which is cleared as it begins; a transmitter that is sending goes on, and completes its frame. That
FRAME_SENT does nothing on a link that sends nothing, and FRAME_SEND_BEGIN nothing on one with nothing to send, is the
model's choice (log entry 15). The bytes of a notice where R200 leaves their layout open are the model's choice (log
entries 9 to 14). -/
def Obligations.TransmitterSendsRepliesFirst : Prop :=
  (∀ (l : Link) (s : State) (x : Sending), (s.link l).tx = some x → exec (.frameSendBegin l) s = .next s) ∧
  (∀ (l : Link) (s : State) (r : Reply) (rest : List Reply), (s.link l).tx = none → s.resetting = false →
    (s.link l).replies = r :: rest →
      exec (.frameSendBegin l) s = .next (s.setLink l { s.link l with
        replies := rest, tx := some { bytes := frameBytes r.kind r.tag r.body, resetReply := false } })) ∧
  (∀ (l : Link) (s : State) (n : Notice) (rest : List Notice), (s.link l).tx = none → (s.link l).replies = [] →
    (s.link l).notices = n :: rest →
      exec (.frameSendBegin l) s = .next (s.setLink l { s.link l with
        notices := rest, lost := false
        tx := some { bytes := frameBytes n.kind 0 (e1 (s.link l).lost.toNat ++ eNotice n), resetReply := false } })) ∧
  (∀ (l : Link) (s : State), (s.link l).tx = none → (s.link l).replies = [] → (s.link l).notices = [] →
    exec (.frameSendBegin l) s = .next s) ∧
  ∀ (l : Link) (s : State),
    ((s.link l).tx = none → exec (.frameSent l) s = .next s) ∧
      ∀ bytes, (s.link l).tx = some { bytes := bytes, resetReply := false } →
        exec (.frameSent l) s = .next (s.setLink l { s.link l with tx := none })

/-- The requests that carry one index alone, each with the size of its set (R200). -/
def oneIndexKinds : List (Byte × Nat) :=
  [(0x08, 12), (0x09, 12), (0x0C, 12), (0x0E, 256), (0x0F, 256), (0x13, 24), (0x14, 24), (0x16, 48), (0x17, 48),
   (0x2A, 8), (0x2B, 8), (0x30, 32), (0x31, 32), (0x32, 32), (0x33, 32), (0x34, 32)]

/-- R188, R189: a request of a kind that the table of R189 does not list is refused UNSUPPORTED on either link; one
that the management link alone may carry is refused NOT_PERMITTED on the cue link, whatever its body; and so is a
METER_READ whose clear field is present. What a METER_READ body with further faults draws is the model's reading (log
entry 24).

R45, R95, R129, R188, R200: a body of a request that the link may carry which does not have the form of its kind is refused
BAD_FIELD: it ends before its fields do or goes on after them, or an index, an enumeration byte, a presence byte, a count, a
set or another field holds a value that the field may not hold. Where R200 leaves the coding of a field open, the form is
the model's choice (log entries 9 to 12, 27). -/
def Obligations.LinksRefuseWhatTheyMayNotCarry : Prop :=
  (∀ (l : Link) (kind : Byte) (body : List Byte) (s : State), canTake l s →
    ¬(1 ≤ kind.toNat ∧ kind.toNat ≤ 0x17) → ¬(0x1B ≤ kind.toNat ∧ kind.toNat ≤ 0x1E) →
    ¬(0x20 ≤ kind.toNat ∧ kind.toNat ≤ 0x36) → Refuses l kind body s .unsupported []) ∧
  (∀ kind ∈ managementKinds, ∀ (body : List Byte) (s : State), canTake .cue s →
    Refuses .cue kind body s .notPermitted []) ∧
  (∀ (body : List Byte) (s : State), canTake .cue s → body[1]? = some 1 → Refuses .cue 0x11 body s .notPermitted []) ∧
  (∀ x ∈ oneIndexKinds, ∀ (b : Byte) (s : State), canTake .management s →
    (x.2 ≤ b.toNat → Refuses .management x.1 [b] s .badField []) ∧
      Refuses .management x.1 [] s .badField [] ∧ Refuses .management x.1 [b, 0] s .badField []) ∧
  ∀ (l : Link) (kind : Byte) (body : List Byte) (s : State), canTake l s →
    (1 ≤ kind.toNat ∧ kind.toNat ≤ 0x17 ∨ 0x1B ≤ kind.toNat ∧ kind.toNat ≤ 0x1E ∨
      0x20 ≤ kind.toNat ∧ kind.toNat ≤ 0x36) →
    (l = .management ∨ kind ∉ managementKinds ∧ ¬(kind = 0x11 ∧ body[1]? = some 1)) →
    Form.seq (requestForm kind) body ≠ some [] → Refuses l kind body s .badField []

/-- R187, R188, R190: every request that a link takes is answered exactly once, with its own kind and tag, by a refusal
that changes nothing but its reply and the REFUSED event, or by an OK reply; and it leaves the request queue.

R187, R190, R192: every step keeps the request queue of each link within 4 frames, its reply queue within 8 replies and
its notice queue within 32 notices. -/
def Obligations.EveryRequestIsAnsweredOnce : Prop :=
  (∀ (l : Link) (f : Frame) (s : State), canTake l s →
    ∃ t body, exec (commandOf l f.kind) (received l f s) = .next t ∧
      ((∃ r refs, t = refuse l f r refs s ∧ body = e1 r.code ++ eList eObj refs) ∨
        ∃ ok s', t = replied l f ok s' ∧ body = 0 :: ok) ∧
      (t.link l).requests = (s.link l).requests ∧
      (t.link l).replies = (s.link l).replies ++ [{ kind := f.kind, tag := f.tag, body := body }]) ∧
  ∀ s t : State, s.linksOk → step s = .next t → t.linksOk

/-! ## General requests and time -/

/-- R19, R195, R199: IDENTIFY, STATUS_READ and TIME_READ are answered on either link with what their rules list, and
change no state.

R196, R197: STATUS_CLEAR clears the detected flags it names and replies with the flags before and after; REPORT_SET
sets the four report enables of the link it names and replies with both links' enables. A class beyond the four is
refused BAD_FIELD. The bytes of the reply where R200 leaves their layout open are the model's choice (log entries 9 to
14). -/
def Obligations.GeneralRequestsReadAndSetReporting : Prop :=
  (∀ (l : Link) (s : State), canTake l s →
      Answers l 0x01 [] s
        (e2 0x0824 ++ [Config.siliconRevision] ++ e1 (linkCode l) ++ e2 12 ++ e2 64 ++ e2 256 ++ e2 32 ++ e2 4096 ++ e2 24 ++
          e2 6 ++ e2 48 ++ e2 128 ++ e2 8 ++ e2 512 ++ e2 256 ++ e2 192 ++ e2 16 ++ e2 32 ++ e2 1024 ++ e2 64 ++ e2 128 ++
          e2 8 ++ e2 4 ++ e2 8 ++ e2 32 ++ e4 1600) s ∧
      Answers l 0x02 [] s
        (e6 s.clock.toNat ++ e1 s.offset.isSome.toNat ++ eClasses s.detected ++ e2 (4096 - s.pool.length) ++
          e2 s.carouselFree ++ e2 s.cues.length ++
          (e2 s.mgmt.requests.length ++ e2 s.mgmt.replies.length ++ e2 s.mgmt.notices.length ++ e1 s.mgmt.lost.toNat ++
            eClasses s.mgmt.enables) ++
          (e2 s.cueLink.requests.length ++ e2 s.cueLink.replies.length ++ e2 s.cueLink.notices.length ++
            e1 s.cueLink.lost.toNat ++ eClasses s.cueLink.enables)) s ∧
      Answers l 0x07 [] s (e6 s.clock.toNat ++ eOpt eStation s.station) s) ∧
  ((∀ (s : State) (b : Byte) (d : ClassSet), canTake .management s → b.toNat < 16 →
      d = { note := s.detected.note && !b.getLsbD 0, degraded := s.detected.degraded && !b.getLsbD 1,
            fault := s.detected.fault && !b.getLsbD 2, refused := s.detected.refused && !b.getLsbD 3 } →
        Answers .management 0x03 [b] s (eClasses s.detected ++ eClasses d) { s with detected := d }) ∧
    (∀ (s : State) (b : Byte) (n : ClassSet), canTake .management s → b.toNat < 16 →
      n = { note := b.getLsbD 0, degraded := b.getLsbD 1, fault := b.getLsbD 2, refused := b.getLsbD 3 } →
        Answers .management 0x04 (e1 0 ++ [b]) s (eClasses n ++ eClasses s.cueLink.enables)
            { s with mgmt := { s.mgmt with enables := n } } ∧
          Answers .management 0x04 (e1 1 ++ [b]) s (eClasses s.mgmt.enables ++ eClasses n)
            { s with cueLink := { s.cueLink with enables := n } }) ∧
    ∀ (s : State) (b : Byte), canTake .management s → 16 ≤ b.toNat →
      Refuses .management 0x03 [b] s .badField [] ∧ Refuses .management 0x04 (e1 0 ++ [b]) s .badField [])

/-- R17, R18: a taken TIME_SET makes station time the one given and leaves the local clock; what else moves is the
schedule and the routes, through the pass over the PENDING cues. With no PENDING cue it moves nothing else. A day tick
beyond the last of the day is refused BAD_FIELD.

R94, R111, R112, R113: the pass measures each PENDING cue against the new station time. One that lies in the future is left
as it is, whatever the others do; where all do, nothing else moves. Where none is due or late by 10 s or less, no route
moves, ACTIVE cues stay, and each cue late by more than 10 s is removed when ONCE or re-entered for the first of its days
that lies in the future when DAILY. Where one PENDING cue alone does not lie in the future, it is expired, with CUE_DONE
on both links, when it is late by more than 10 s, and handed over when it is late by 10 s or less (here no route of its
mask waits on a cue). That due times are compared as numbers, which decides the place of a re-entered cue, is the model's
reading (log entry 23). -/
def Obligations.TimeSetMovesStationTime : Prop :=
  (∀ (s : State) (n : Nat), canTake .management s → n < 152882380800000000 →
    ∃ s' u, Answers .management 0x06 (eStation n) s (eStation n ++ eOpt eStation s.station) s' ∧ s'.station = some n ∧
      OnlySwitching { s with offset := s'.offset } s' ∧ u = { s with offset := s'.offset, falling := [] } ∧
      ((∀ c ∈ s.cues, c.state ≠ .pending) → s' = u) ∧
      ((s.cues.map Cue.id).Nodup →
        (∀ c ∈ s.cues, c.state = .pending → 76441190400000000 ≤ c.late n → ∃ k, { c with insertion := k } ∈ s'.cues) ∧
        ((∀ c ∈ s.cues, c.state = .pending → 76441190400000000 ≤ c.late n) → s' = u) ∧
        ((∀ c ∈ s.cues, c.state = .pending → 270000000 < c.late n) →
          s'.routes = s.routes ∧ s'.falling = [] ∧
            ∀ c ∈ s.cues,
              (c.state = .active ∨ 76441190400000000 ≤ c.late n → ∃ k, { c with insertion := k } ∈ s'.cues) ∧
              (c.state = .pending → c.late n < 76441190400000000 →
                (c.rpt = .once → ∀ x ∈ s'.cues, x.id ≠ c.id) ∧
                (c.rpt = .daily → ∃ due k, c.advancedTo (c.late n) due ∧ c.reentered due k ∈ s'.cues))) ∧
        ∀ c ∈ s.cues, c.state = .pending →
          (∀ x ∈ s.cues, x ≠ c → x.state = .pending → 76441190400000000 ≤ x.late n) →
            (270000000 < c.late n → c.late n < 76441190400000000 → s.insertion < 4294967295 →
              Expired c (c.late n) u s') ∧
            (c.late n ≤ 270000000 → u.readyToFall c → HandedOver c u s'))) ∧
  ∀ (s : State) (day tick : Nat), canTake .management s → day < 65536 → 2332800000000 ≤ tick → tick < 281474976710656 →
    Refuses .management 0x06 (e2 day ++ e6 tick) s .badField []

/-! ## Input ports -/

/-- R22, R24, R25: what a byte on a port's line does until the port is LOCKED. A bad sync position in VERIFY leads back to
SEARCH (R25), and the fifth good one in a row locks the port, with a PORT_STATE notice on the management link (R39). -/
def Obligations.PortAlignmentBeforeLock : Prop :=
  ∀ (p : PortId) (b : Byte) (s : State),
    ((s.port p).run = .stopped → exec (.portLineByte p b) s = .next s) ∧
    ((s.port p).run = .search →
      exec (.portLineByte p b) s =
        .next (if b = 0x47 then s.setPort p { s.port p with run := .verify 1 187 } else s)) ∧
    (∀ good left, (s.port p).run = .verify good (left + 1) →
      exec (.portLineByte p b) s = .next (s.setPort p { s.port p with run := .verify good left })) ∧
    (∀ good, (s.port p).run = .verify good 0 → good < 4 → b = 0x47 →
      exec (.portLineByte p b) s = .next (s.setPort p { s.port p with run := .verify (good + 1) 187 })) ∧
    ((s.port p).run = .verify 4 0 → b = 0x47 →
      exec (.portLineByte p b) s =
        .next (notifyMgmt
          (.portState p (.locked 0 187 (some [0x47])) (s.port p).admission (s.port p).flags (s.port p).fifo.length)
          (s.setPort p { s.port p with run := .locked 0 187 (some [0x47]) }))) ∧
    ∀ good, (s.port p).run = .verify good 0 → b ≠ 0x47 →
      exec (.portLineByte p b) s = .next (s.setPort p { s.port p with run := .search })

/-- A port after the last byte of a LOCKED packet has joined its FIFO (R32, R37). -/
def withPacket (old : Port) (bad : Nat) (q : Packet) (now : Clock) : Port :=
  { old with
    run := .locked bad 0 none
    fifo := old.fifo ++ [{ packet := q, arrival := now }]
    flags := { old.flags with errorFlagged := old.flags.errorFlagged || errorFlag q } }

/-- The bytes of a line one after another, at one local clock value. -/
def lineAll (p : PortId) : List Byte → State → Host.Outcome State Fault Refusal
  | [], s => .next s
  | b :: rest, s =>
    match exec (.portLineByte p b) s with
    | .next t => lineAll p rest t
    | .fault r => .fault r
    | .refused r => .refused r

/-- R26, R31, R32, R33, R37, R39: what a byte does on a LOCKED port. A good sync byte begins a packet and clears the
bad-sync count; the first and second bad one in a row begin a packet that is dropped; the last byte of a packet puts it
with its arrival time into the FIFO, or, when 64 packets stand there, drops it with OVERRUN. A sticky flag that goes from
clear to set sends PORT_STATE.

R1, R2, R26, R32: a whole packet, whose 188 bytes arrive on a LOCKED port from a sync position on, stands at the end of
the FIFO exactly as it arrived, and the port stands at the next sync position. -/
def Obligations.PortReceivesPacketsInLock : Prop :=
  (∀ (p : PortId) (b : Byte) (s : State),
      (∀ bad x, (s.port p).run = .locked bad 0 x → b = 0x47 →
        exec (.portLineByte p b) s = .next (s.setPort p { s.port p with run := .locked 0 187 (some [0x47]) })) ∧
      (∀ bad x, (s.port p).run = .locked bad 0 x → b ≠ 0x47 → bad < 2 →
        exec (.portLineByte p b) s = .next (s.setPort p { s.port p with run := .locked (bad + 1) 187 none })) ∧
      (∀ bad left x, (s.port p).run = .locked bad (left + 2) x →
        exec (.portLineByte p b) s =
          .next (s.setPort p { s.port p with run := .locked bad (left + 1) (x.map fun q => q ++ [b]) })) ∧
      (∀ bad, (s.port p).run = .locked bad 1 none →
        exec (.portLineByte p b) s = .next (s.setPort p { s.port p with run := .locked bad 0 none })) ∧
      (∀ bad q t, (s.port p).run = .locked bad 1 (some q) → (s.port p).fifo.length < 64 →
        t = s.setPort p (withPacket (s.port p) bad (q ++ [b]) s.clock) →
          exec (.portLineByte p b) s =
            .next (if errorFlag (q ++ [b]) ∧ (s.port p).flags.errorFlagged = false then notifyMgmt (portNotice p t) t
              else t)) ∧
      ∀ bad q t, (s.port p).run = .locked bad 1 (some q) → 64 ≤ (s.port p).fifo.length →
        t = s.setPort p { s.port p with
          run := .locked bad 0 none, flags := { (s.port p).flags with overrun := true } } →
          exec (.portLineByte p b) s =
            .next (if (s.port p).flags.overrun = false then notifyMgmt (portNotice p t) t else t)) ∧
  (∀ (p : PortId) (q : Packet) (s t : State) (bad : Nat) (x : Option Packet), Packet.wf q = true →
      (s.port p).run = .locked bad 0 x → (s.port p).fifo.length < 64 →
      t = s.setPort p (withPacket (s.port p) 0 q s.clock) →
        lineAll p q s =
          .next (if errorFlag q ∧ (s.port p).flags.errorFlagged = false then notifyMgmt (portNotice p t) t else t))

/-- R27, R30, R54, R90: at the third bad sync position in a row the port goes to SEARCH, its FIFO is emptied and SYNC_LOST
is set; the components on it lose their last seen counts; the variants anchored on it become STARVED; and the event is of
class FAULT when a component on the port is bound NATIONAL, and DEGRADED otherwise. Of the rest, only switching and
reports may follow. -/
def Obligations.PortLosesAlignment : Prop :=
  ∀ (p : PortId) (b : Byte) (s : State) (x : Option Packet), (s.port p).run = .locked 2 0 x → b ≠ 0x47 →
    ∃ t, exec (.portLineByte p b) s = .next t ∧
      OnlyHealth { s with ports := t.ports, components := t.components } t ∧
      (∀ q, t.port q = if q = p then
          { s.port p with run := .search, fifo := [], flags := { (s.port p).flags with syncLost := true } }
        else s.port q) ∧
      ClearsLastSeen p s t ∧ StarvesAnchored p s t ∧
      ((∃ c k sl r, s.component c = some k ∧ k.port = p ∧ k.binding = .national sl r) → t.detected.fault = true) ∧
      ((∀ c k sl r, s.component c = some k → k.port = p → k.binding ≠ .national sl r) →
        t.detected.degraded = true ∧ t.detected.fault = s.detected.fault)

/-- R23, R38, R40: PORT_START puts a STOPPED port into SEARCH, with PORT_STATE, and leaves any other run state;
PORT_CLEAR clears the sticky flags it names and replies with the flags before and after; PORT_READ reports the port and
changes nothing. The bytes of the reply where R200 leaves their layout open are the model's choice (log entries 9 to
14). -/
def Obligations.PortRequestsStartClearAndRead : Prop :=
  ∀ (p : PortId) (s : State),
    (canTake .management s →
      ((s.port p).run = .stopped →
        Answers .management 0x08 (e1 p) s [1]
          (notifyMgmt (.portState p .search (s.port p).admission (s.port p).flags (s.port p).fifo.length)
            (s.setPort p { s.port p with run := .search }))) ∧
      ((s.port p).run ≠ .stopped → Answers .management 0x08 (e1 p) s (e1 (s.port p).run.code) s) ∧
      ∀ (b : Byte) (f : PortFlags), b.toNat < 16 →
        f = { syncLost := (s.port p).flags.syncLost && !b.getLsbD 0, overrun := (s.port p).flags.overrun && !b.getLsbD 1,
              continuity := (s.port p).flags.continuity && !b.getLsbD 2,
              errorFlagged := (s.port p).flags.errorFlagged && !b.getLsbD 3 } →
          Answers .management 0x0B (e1 p ++ [b]) s (eFlags (s.port p).flags ++ eFlags f)
            (s.setPort p { s.port p with flags := f })) ∧
    ∀ (l : Link) (national : Bool), canTake l s →
      (national = true ↔ ∃ c k sl r, s.component c = some k ∧ k.port = p ∧ k.binding = .national sl r) →
        Answers l 0x0C (e1 p) s
          (e1 (s.port p).run.code ++ e2 (s.port p).goodSync ++ e2 (s.port p).badSync ++ e1 (s.port p).admission.code ++
            e1 (s.port p).unadmitted.code ++ e1 (s.port p).unmatched.code ++ e2 (s.port p).fifo.length ++
            eFlags (s.port p).flags ++ e1 national.toNat) s

/-- R28, R30, R54: PORT_STOP stops the port and empties its FIFO; a port that was LOCKED clears the last seen counts of
its components and starves the variants anchored on it.

R34, R35: PORT_CONFIG writes the settings it carries, keeps those it does not, leaves the FIFO and the run state, and
replies with all three. Withdrawn admission starves the variants anchored on the port; a request that leaves the
admission does nothing else. The bytes of the reply where R200 leaves their layout open are the model's choice (log
entries 9 to 14). -/
def Obligations.PortStopAndConfig : Prop :=
  (∀ (p : PortId) (s : State), canTake .management s →
      ∃ t, Answers .management 0x09 (e1 p) s [] t ∧
        OnlyHealth { s with ports := t.ports, components := t.components } t ∧
        (∀ q, t.port q = if q = p then { s.port p with run := .stopped, fifo := [] } else s.port q) ∧
        (if (s.port p).isLocked then ClearsLastSeen p s t ∧ StarvesAnchored p s t
          else t.components = s.components ∧ t.variants = s.variants)) ∧
  (∀ (p : PortId) (adm : Option Admission) (un um : Option Policy) (new : Port) (s : State), canTake .management s →
      new = { s.port p with
        admission := adm.getD (s.port p).admission, unadmitted := un.getD (s.port p).unadmitted
        unmatched := um.getD (s.port p).unmatched } →
      ∃ t, Answers .management 0x0A
          (e1 p ++ eOpt (fun a => e1 (Admission.code a)) adm ++ eOpt (fun a => e1 (Policy.code a)) un ++
            eOpt (fun a => e1 (Policy.code a)) um) s
          (e1 new.admission.code ++ e1 new.unadmitted.code ++ e1 new.unmatched.code) t ∧
        OnlyHealth (s.setPort p new) t ∧
        (if (s.port p).admission = .admitted ∧ adm = some .notAdmitted then StarvesAnchored p s t
          else t.variants = s.variants) ∧
        (new.admission = (s.port p).admission → t = s.setPort p new))

/-! ## The classifier -/

/-- R41, R42: the classifier serves the ports in turn from the one after the port served last, passing over empty FIFOs;
it takes the oldest packet of the port it serves; and handling that packet completes and changes no more than R42's steps
may change. With every FIFO empty it waits. -/
def Obligations.ClassifierServesPortsInTurn : Prop :=
  (∀ s : State, (∀ p, (s.port p).fifo = []) → exec .classifierTake s = .next s) ∧
  ∀ (p : PortId) (a : Arrived) (rest : List Arrived) (s : State), s.serves p a rest →
    ∃ t, exec .classifierTake s = .next t ∧ OnlyHandling (served p rest s) t

/-- Whether no entry of the component table is a candidate for an identifier on a port (R50, R51). -/
def unmatchedOn (p : PortId) (i : Ident) (s : State) : Prop :=
  ∀ c k, s.component c = some k → k.port = p → i &&& k.mask ≠ k.ident

/-- R4, R35, R36, R51: a packet with the null identifier, one of a port that is not admitted and discards, and one that
no entry matches on a port that discards, leave the FIFO and change nothing else.

R35, R36, R51, R61, R62, R179, R180, R181: a packet that a policy of CAPTURE takes makes one capture copy. With the
pool full it is discarded with POOL_EMPTY; with the ring full the copy is dropped with CAPTURE_OVERFLOW and the buffer
stays free; otherwise a free buffer holds the packet with one reference and the entry joins the ring, with
CAPTURE_READY when the ring was empty. Nothing else changes. That a null packet of a port that is not admitted is never
captured is the model's reading (log entry 22). -/
def Obligations.PoliciesDiscardOrCapture : Prop :=
  (∀ (p : PortId) (a : Arrived) (rest : List Arrived) (s : State), s.falling = [] → s.serves p a rest →
      (ident a.packet = 8191 ∨ ((s.port p).admission = .notAdmitted ∧ (s.port p).unadmitted = .discard) ∨
        ((s.port p).admission = .admitted ∧ (s.port p).unmatched = .discard ∧ unmatchedOn p (ident a.packet) s)) →
        exec .classifierTake s = .next (served p rest s)) ∧
  (∀ (p : PortId) (a : Arrived) (rest : List Arrived) (why : CapReason) (s u : State), s.falling = [] →
      s.serves p a rest → ident a.packet ≠ 8191 →
      (why = .unadmitted ∧ (s.port p).admission = .notAdmitted ∧ (s.port p).unadmitted = .capture ∨
        why = .unmatched ∧ (s.port p).admission = .admitted ∧ (s.port p).unmatched = .capture ∧
          unmatchedOn p (ident a.packet) s) →
      u = served p rest s →
        (4096 ≤ s.pool.length → exec .classifierTake s = .next (raiseEvent .poolEmpty (.port p) u)) ∧
        (s.pool.length < 4096 → 128 ≤ s.capture.length →
          exec .classifierTake s = .next (raiseEvent .captureOverflow (.port p) u)) ∧
        (s.pool.length < 4096 → s.capture.length < 128 →
          ∃ buf, (∀ b ∈ s.pool, b.id ≠ buf) ∧
            exec .classifierTake s =
              .next { u with
                pool := u.pool ++ [{ id := buf, packet := a.packet, refs := 1 }]
                capture := u.capture ++ [{ buf := buf, reason := why, port := p, arrival := a.arrival }]
                mgmt := if s.capture = [] then u.mgmt.place (.captureReady 1 s.clock) else u.mgmt }))

/-- R50: a packet belongs to the candidate with the most mask bits set, and among equals to the lowest number; without a
candidate it belongs to none. R52: the classifier notes a matched packet's continuity count in its component, and in no
other. -/
def Obligations.MatchingPicksTheMostSpecificEntry : Prop :=
  (∀ (p : PortId) (i : Ident) (s : State),
    (s.matching p i = none ↔ unmatchedOn p i s) ∧
    ∀ c k, s.matching p i = some (c, k) ↔
      s.component c = some k ∧ k.port = p ∧ i &&& k.mask = k.ident ∧
        ∀ d e, s.component d = some e → e.port = p → i &&& e.mask = e.ident →
          maskBits e.mask < maskBits k.mask ∨ (maskBits e.mask = maskBits k.mask ∧ c ≤ d)) ∧
  ∀ (p : PortId) (a : Arrived) (rest : List Arrived) (c : ComponentId) (k : Component) (s : State),
    State.takesFor s p a rest c k →
      ∃ t, exec .classifierTake s = .next t ∧
        ∀ d, t.component d = if d = c then some { k with lastSeen := some (continuity a.packet) } else s.component d

/-- R52, R53: for a packet of an UNBOUND component without meter or capture flag, the handling is its continuity check
alone: a count other than the last seen one plus one (or that one again), or, without payload, other than the last seen
one, is a gap unless the discontinuity flag is set or nothing was seen before; a gap sets the port's CONTINUITY flag, with
PORT_STATE where it was clear, and raises NOTE CONTINUITY_GAP. That PORT_STATE joins the notice queue first is the model's
choice (log entry 8). -/
def Obligations.ContinuityGapIsReported : Prop :=
  ∀ (p : PortId) (a : Arrived) (rest : List Arrived) (c : ComponentId) (k : Component) (s u v : State), s.falling = [] →
    State.takesFor s p a rest c k → k.binding = .unbound → k.meter = none → k.capture = false →
    u = noted p a rest c k s → v = u.setPort p { u.port p with flags := { (u.port p).flags with continuity := true } } →
      (∀ n, k.lastSeen = some n → discFlag a.packet = false → continuity a.packet ≠ n →
        (carriesPayload a.packet = true → continuity a.packet ≠ n + 1) →
          exec .classifierTake s =
            .next (raiseEvent .continuityGap (.component c)
              (if (s.port p).flags.continuity then v else notifyMgmt (portNotice p v) v))) ∧
      ((k.lastSeen = none ∨ discFlag a.packet = true ∨ k.lastSeen = some (continuity a.packet) ∨
          (carriesPayload a.packet = true ∧ ∃ n, k.lastSeen = some n ∧ continuity a.packet = n + 1)) →
        exec .classifierTake s = .next u)

/-- R67, R68, R70, R71, R72: the meter of a packet's component is refilled at its rate up to its cap (not for a late
arrival) and judges the packet by its counted bytes: 188, or its payload byte count. A packet that conforms lowers the
credit by its cost. One that does not sets EXCESS and takes nothing: an ESSENTIAL one goes on, with NOTE METER_EXCESS, and
an EXPENDABLE one is dropped, whatever its binding. Where no gap is reported, nothing else changes for a dropped packet,
nor for one that goes on in an UNBOUND component without capture flag. -/
def Obligations.MeterJudgesEachPacket : Prop :=
  ∀ (p : PortId) (a : Arrived) (rest : List Arrived) (c : ComponentId) (k : Component) (m : MeterId) (d : MeterDef)
    (s u : State) (diff credit cost : Nat) (updated : Clock),
    State.takesFor s p a rest c k → k.meter = some m → (s.meter m).defn = some d →
    diff = (a.arrival - d.updated).toNat →
    credit = (if diff < 2 ^ 47 then min (d.credit + d.rate * diff) (d.burst * 216000000) else d.credit) →
    updated = (if diff < 2 ^ 47 then a.arrival else d.updated) →
    cost = (match d.mode, adaptControl a.packet with
      | .full, _ => 188
      | .payload, .payloadOnly => 184
      | .payload, .both => 184 - (1 + adaptLength a.packet)
      | .payload, .fieldOnly => 0
      | .payload, .neither => 0) * 216000000 →
    u = noted p a rest c k s →
      (∃ t, exec .classifierTake s = .next t ∧
        (credit < cost →
          t.meter m = { defn := some { d with credit := credit, updated := updated }, excess := true }) ∧
        (cost ≤ credit →
          t.meter m = { s.meter m with defn := some { d with credit := credit - cost, updated := updated } })) ∧
      (s.falling = [] → isGap k.lastSeen a.packet = false →
        (credit < cost → k.cls = .expendable →
          exec .classifierTake s =
            .next (u.setMeter m { defn := some { d with credit := credit, updated := updated }, excess := true })) ∧
        (k.binding = .unbound → k.capture = false → credit < cost → k.cls = .essential →
          exec .classifierTake s =
            .next (raiseEvent .meterExcess (.meter m)
              (u.setMeter m { defn := some { d with credit := credit, updated := updated }, excess := true }))) ∧
        (k.binding = .unbound → k.capture = false → cost ≤ credit →
          exec .classifierTake s =
            .next (u.setMeter m { s.meter m with
              defn := some { d with credit := credit - cost, updated := updated } })))

/-- R42, R53, R56, R57, R58, R59, R60, R61, R62, R72, R147, R179: a packet of a component that its meter does not discard
is first reported: a gap sets the port's CONTINUITY flag, and an anchor packet moves the routes by its arrival and its mark.
Then its copies are made of the routes as they stand: one for the capture ring where the component asks for it, and one for
each RUNNING region of its COMMON mask, or for each RUNNING region whose route of the slot carries the component's source.
Each copy joins its queue where that has room, with the fields of its entry, and takes the route's mark-pending flag with it
where it bears a clock sample; one buffer holds the packet with a reference for each copy that joined, and with no buffer
free the packet is discarded whole with POOL_EMPTY. (Where an anchor packet may complete a cue, the next occurrence of a
DAILY cue does not fall due at once.) A packet that its meter discards makes no copy and moves no route. -/
def Obligations.PacketsAreQueuedForTheirRegions : Prop :=
  ∀ (p : PortId) (a : Arrived) (rest : List Arrived) (c : ComponentId) (k : Component) (s : State), s.falling = [] →
    State.takesFor s p a rest c k → (s.anchorSource k.binding ≠ none → s.dailiesWait) →
    (¬s.passesMeter k a →
      ∃ t, exec .classifierTake s = .next t ∧ t.regions = s.regions ∧ t.routes = s.routes ∧ t.pool = s.pool ∧
        t.capture = s.capture) ∧
    (s.passesMeter k a →
      ∃ u t, exec .classifierTake s = .next t ∧ ReportedBy p a rest c k s u ∧ PlacedFrom p a k u t)

/-- R52, R53, R55, R87, R88: an anchor packet of a variant that its meter does not discard moves the variant's health
record by R87's row for its health and the packet's error flag; a continuity gap before it restarts the recovery timer of
a RECOVERING variant, and does nothing else. Of a packet that its meter discards only the gap tells. No other variant
changes. -/
def Obligations.AnchorArrivalMovesHealth : Prop :=
  ∀ (p : PortId) (a : Arrived) (rest : List Arrived) (c : ComponentId) (k : Component) (v : VariantId) (r : RoleId)
    (d : VariantDef) (sd : SlotDef) (s : State), State.takesFor s p a rest c k →
    k.binding = .variant v r → s.variant v = some d → s.slot d.slot = some sd → sd.anchor = r →
      ∃ t, exec .classifierTake s = .next t ∧
        (∀ w, w ≠ v → t.variant w = s.variant w) ∧
        (s.passesMeter k a →
          t.variant v = some (d.arrived (errorFlag a.packet) (isGap k.lastSeen a.packet) s.clock)) ∧
        (¬s.passesMeter k a →
          t.variant v = some (if isGap k.lastSeen a.packet = true ∧ d.health = .recovering then
            { d with recoverTimer := some { set := s.clock, len := d.recoverMs * 27000 } } else d))

/-! ## Health timers -/

/-- R89, R91: a starvation timer that is reached makes its variant STARVED and stops both timers, with
VARIANT_STARVED of class DEGRADED when a route is concerned; a recovery timer that is reached makes a RECOVERING variant
HEALTHY, and its starvation timer runs on. Only switching and reports follow. Before its moment neither does anything
(log entry 15). -/
def Obligations.HealthTimersExpire : Prop :=
  ∀ (v : VariantId) (d : VariantDef) (s : State), s.variant v = some d →
    (∀ x : Deadline, d.starveTimer = some x → d.health ≠ .starved → x.len ≤ (s.clock - x.set).toNat →
      ∃ t, exec (.starvationExpiry v) s = .next t ∧
        OnlySwitching (s.setVariant v (some { d with health := .starved, starveTimer := none, recoverTimer := none })) t ∧
        ((∃ g sl, (s.route g sl).concerns v = true) → t.detected.degraded = true)) ∧
    (∀ x : Deadline, d.recoverTimer = some x → d.health = .recovering → x.len ≤ (s.clock - x.set).toNat →
      ∃ t, exec (.recoveryExpiry v) s = .next t ∧
        OnlySwitching (s.setVariant v (some { d with health := .healthy, recoverTimer := none })) t) ∧
    ((∀ x : Deadline, d.starveTimer = some x → (s.clock - x.set).toNat < x.len) →
      exec (.starvationExpiry v) s = .next s) ∧
    ((∀ x : Deadline, d.recoverTimer = some x → (s.clock - x.set).toNat < x.len) →
      exec (.recoveryExpiry v) s = .next s)

/-! ## Components -/

/-- R45, R46, R47, R54, R157: a COMPONENT_WRITE that meets none of R45's refusals writes the entry as given, with the
match identifier masked and nothing last seen; and in every region the component's registrations become the one that
its COMMON binding asks for there. Nothing else changes.

R45, R46, R47: the refusals of COMPONENT_WRITE: BAD_FIELD for an UNDEFINED meter, for the null identifier under the
full mask, for the match of another entry of the port, and for a COMMON binding without the full mask, with no region
or with the null identifier; then IN_USE for an entry bound NATIONAL or VARIANT; then, in the first region that does
not take the registration, CONFLICT with the definer found there, or FULL. Nothing changes. The bytes of the reply
where R200 leaves their layout open are the model's choice (log entries 9 to 14). The order in which regions are tested
is the model's reading (log entry 17). -/
def Obligations.ComponentWriteDefinesAnEntry : Prop :=
  (∀ (c : ComponentId) (k w : Component) (want : RegionId → List (Ident × Definer)) (s : State), canTake .management s →
      k.released = true → w = { k with ident := k.ident &&& k.mask, lastSeen := none } →
      (∀ m, k.meter = some m → (s.meter m).defn ≠ none) → ¬(k.mask = 0x1FFF ∧ k.ident = 8191) →
      (∀ d e, d ≠ c → s.component d = some e → ¬(e.port = w.port ∧ e.mask = w.mask ∧ e.ident = w.ident)) →
      (∀ mask out, k.binding = .common mask out → k.mask = 0x1FFF ∧ mask ≠ 0 ∧ out ≠ 8191) →
      (∀ e, s.component c = some e → e.released = true) →
      (∀ g x, x ∈ want g ↔ x.2 = .component c ∧ ∃ mask, k.binding = .common mask x.1 ∧ mask.getLsbD g = true) →
      (∀ g, (s.region g).registry.length + (want g).length ≤ 192) →
      (∀ g, ∀ x ∈ want g, ∀ e ∈ (s.region g).registry, e.ident = x.1 → e.definer = .component c) →
        ∃ t, Answers .management 0x0D (componentRequest c k) s (eComponent (some w)) t ∧
          t = { s.setComponent c (some w) with regions := t.regions } ∧
          ∀ g, Registers (fun e => decide (e.definer = .component c)) (want g) (s.region g) (t.region g)) ∧
  (∀ (c : ComponentId) (k : Component) (s : State), canTake .management s → k.released = true →
      ((∃ m, k.meter = some m ∧ (s.meter m).defn = none) ∨ (k.mask = 0x1FFF ∧ k.ident = 8191) ∨
        (∃ d e, d ≠ c ∧ s.component d = some e ∧ e.port = k.port ∧ e.mask = k.mask ∧ e.ident = k.ident &&& k.mask) ∨
        (∃ mask out, k.binding = .common mask out ∧ (k.mask ≠ 0x1FFF ∨ mask = 0 ∨ out = 8191)) →
          Refuses .management 0x0D (componentRequest c k) s .badField []) ∧
      ((∀ m, k.meter = some m → (s.meter m).defn ≠ none) → ¬(k.mask = 0x1FFF ∧ k.ident = 8191) →
        (∀ d e, d ≠ c → s.component d = some e →
          ¬(e.port = k.port ∧ e.mask = k.mask ∧ e.ident = k.ident &&& k.mask)) →
        (∀ mask out, k.binding = .common mask out → k.mask = 0x1FFF ∧ mask ≠ 0 ∧ out ≠ 8191) →
          ((∃ e, s.component c = some e ∧ e.released = false) →
            Refuses .management 0x0D (componentRequest c k) s .inUse []) ∧
          ∀ (mask : RegionMask) (out : Ident) (g : RegionId), k.binding = .common mask out → mask.getLsbD g = true →
            (∀ e, s.component c = some e → e.released = true) →
            (∀ h < g, (s.region h).registry.length < 192 ∧ ∀ e ∈ (s.region h).registry, e.ident ≠ out) →
              (∀ e, (s.region g).registry.find? (fun x => x.ident == out) = some e → e.definer ≠ .component c →
                Refuses .management 0x0D (componentRequest c k) s .conflict [.region g, e.definer.obj]) ∧
              ((s.region g).registry.length = 192 →
                (∀ e ∈ (s.region g).registry, e.ident ≠ out ∧ e.definer ≠ .component c) →
                  Refuses .management 0x0D (componentRequest c k) s .full [.region g])))

/-- R48, R49, R158: COMPONENT_CLEAR frees an entry that is FREE, UNBOUND or COMMON and gives up its registrations,
which stay as drain records while queued packets carry their identifiers; a bound entry is refused IN_USE.
COMPONENT_READ reports the entry and changes nothing. The bytes of the reply where R200 leaves their layout open are
the model's choice (log entries 9 to 14). -/
def Obligations.ComponentClearAndRead : Prop :=
  ∀ (c : ComponentId) (s : State),
    (canTake .management s → (∀ e, s.component c = some e → e.released = true) →
      ∃ t, Answers .management 0x0E (e1 c) s [] t ∧ t = { s.setComponent c none with regions := t.regions } ∧
        ∀ g, t.region g = (s.region g).without fun e => decide (e.definer = .component c)) ∧
    (canTake .management s → (∃ e, s.component c = some e ∧ e.released = false) →
      Refuses .management 0x0E (e1 c) s .inUse []) ∧
    ∀ l, canTake l s → Answers l 0x0F (e1 c) s (eComponent (s.component c)) s

/-! ## Meters -/

/-- R65, R66, R69: METER_WRITE clamps the rate to 64,000..40,000,000 and the burst to 188..188,000, fills the credit and
keeps EXCESS; METER_READ reports the meter with its credit refilled to the present without writing it, and clears EXCESS
where the management link asks for it; the idle refresh of a DEFINED meter, 2^46 ticks after its last update, fills the
credit, and before that nothing happens (the model's choice, log entry 15). The bytes of the reply where R200 leaves their
layout open are the model's choice (log entries 9 to 14). -/
def Obligations.MeterRequestsAndRefresh : Prop :=
  ∀ (m : MeterId) (s : State),
    (∀ (rate burst : Nat) (mode : Counting) (d : MeterDef), canTake .management s → rate < 2 ^ 32 → burst < 2 ^ 32 →
      d = { rate := min 40000000 (max 64000 rate), burst := min 188000 (max 188 burst), mode := mode,
            credit := min 188000 (max 188 burst) * 216000000, updated := s.clock } →
        Answers .management 0x10 (e1 m ++ e4 rate ++ e4 burst ++ e1 mode.code) s
          (e4 d.rate ++ e4 d.burst ++ e1 mode.code ++ e6 d.credit) (s.setMeter m { s.meter m with defn := some d })) ∧
    ((s.meter m).defn = none → exec (.meterIdleRefresh m) s = .next s ∧
      (canTake .management s → Answers .management 0x11 (e1 m ++ [1]) s (e1 0 ++ e1 (s.meter m).excess.toNat)
        (s.setMeter m { defn := none, excess := false })) ∧
      ∀ l, canTake l s → Answers l 0x11 (e1 m ++ [0]) s (e1 0 ++ e1 (s.meter m).excess.toNat) s) ∧
    ∀ d credit reply, (s.meter m).defn = some d →
      credit = (if (s.clock - d.updated).toNat < 2 ^ 47 then
        min (d.credit + d.rate * (s.clock - d.updated).toNat) (d.burst * 216000000) else d.credit) →
      reply = e1 1 ++ e4 d.rate ++ e4 d.burst ++ e1 d.mode.code ++ e6 d.credit ++ e6 d.updated.toNat ++ e6 credit ++
        e4 (credit / 216000000) ++ e1 (s.meter m).excess.toNat →
        (∀ l, canTake l s → Answers l 0x11 (e1 m ++ [0]) s reply s) ∧
        (canTake .management s →
          Answers .management 0x11 (e1 m ++ [1]) s reply (s.setMeter m { s.meter m with excess := false })) ∧
        exec (.meterIdleRefresh m) s =
          .next (if 2 ^ 46 ≤ (s.clock - d.updated).toNat then
            s.setMeter m { s.meter m with
              defn := some { d with credit := d.burst * 216000000, updated := s.clock } } else s)

/-! ## Slots and variants -/

/-- R75, R76, R77, R78: a SLOT_WRITE that passes its three stages defines the slot as given, binds its national
components to their roles, unbinds those that the slot had before and does not keep, and in every region makes the
slot's registrations those of its roles. Nothing else changes. The bytes of the reply where R200 leaves their layout
open are the model's choice (log entries 9 to 14). -/
def Obligations.SlotWriteBindsItsRoles : Prop :=
  ∀ (sl : SlotId) (d : SlotDef) (s : State), canTake .management s → s.slotLegal d →
    (∀ c ∈ d.roles.filterMap SlotRole.national, ¬s.keptFrom sl c) → (∀ g, (s.route g sl).onNational) →
    (∀ x ∈ s.cues, x.slot ≠ sl) →
    (∀ v e, s.variant v = some e → e.slot = sl →
      (∀ x ∈ e.comps, x.1 ∈ d.roles.map SlotRole.role) ∧ d.anchor ∈ e.comps.map Prod.fst) →
    (∀ g, (s.region g).registry.length + d.roles.length ≤ 192) →
    (∀ g, ∀ x ∈ slotWants sl d, ∀ e ∈ (s.region g).registry, e.ident = x.1 → e.definer = x.2) →
      ∃ t, Answers .management 0x12 (slotRequest sl d) s (eSlot (some d)) t ∧
        t = { s.setSlot sl (some d) with components := t.components, regions := t.regions } ∧
        (∀ e ∈ d.roles, ∀ c, e.national = some c →
          t.component c = (s.component c).map fun k => { k with binding := .national sl e.role }) ∧
        (∀ c, c ∉ d.roles.filterMap SlotRole.national →
          t.component c = (s.component c).map fun k =>
            if (∃ r, k.binding = .national sl r) then { k with binding := .unbound } else k) ∧
        ∀ g, Registers (ownSlot sl) (slotWants sl d) (s.region g) (t.region g)

/-- R75, R76, R77: the refusals of SLOT_WRITE, stage by stage: BAD_FIELD; then IN_USE with the first reason found and
its object; then, in the first region that does not take the registrations, CONFLICT with the definer found there, or
FULL. Which object the reply names where the reason holds for several is the model's choice (log entry 31). The order in
which regions are tested, and a conflict before room, are the model's reading (log entry 17). -/
def Obligations.SlotWriteRefusals : Prop :=
  ∀ (sl : SlotId) (d : SlotDef) (s : State), canTake .management s →
    (¬s.slotLegal d → d.roles.length < 256 → Refuses .management 0x12 (slotRequest sl d) s .badField []) ∧
    (s.slotLegal d →
      (∀ pre c post, d.roles.filterMap SlotRole.national = pre ++ c :: post → (∀ x ∈ pre, ¬s.keptFrom sl x) →
        s.keptFrom sl c → Refuses .management 0x12 (slotRequest sl d) s .inUse [.reason 0, .component c]) ∧
      ((∀ c ∈ d.roles.filterMap SlotRole.national, ¬s.keptFrom sl c) →
        (∀ g, ¬(s.route g sl).onNational → (∀ h < g, (s.route h sl).onNational) →
          Refuses .management 0x12 (slotRequest sl d) s .inUse [.reason 1, .region g]) ∧
        ((∀ g, (s.route g sl).onNational) →
          (∀ pre x post, s.cues = pre ++ x :: post → (∀ y ∈ pre, y.slot ≠ sl) → x.slot = sl →
            Refuses .management 0x12 (slotRequest sl d) s .inUse [.reason 2, .cue x.id]) ∧
          ((∀ x ∈ s.cues, x.slot ≠ sl) →
            (∀ v, (s.isVariantOf sl v fun e => ∃ x ∈ e.comps, x.1 ∉ d.roles.map SlotRole.role) →
              (∀ w < v, ¬s.isVariantOf sl w fun e => ∃ x ∈ e.comps, x.1 ∉ d.roles.map SlotRole.role) →
                Refuses .management 0x12 (slotRequest sl d) s .inUse [.reason 3, .variant v]) ∧
            ((∀ v, ¬s.isVariantOf sl v fun e => ∃ x ∈ e.comps, x.1 ∉ d.roles.map SlotRole.role) →
              (∀ v, (s.isVariantOf sl v fun e => d.anchor ∉ e.comps.map Prod.fst) →
                (∀ w < v, ¬s.isVariantOf sl w fun e => d.anchor ∉ e.comps.map Prod.fst) →
                  Refuses .management 0x12 (slotRequest sl d) s .inUse [.reason 4, .variant v]) ∧
              ((∀ v, ¬s.isVariantOf sl v fun e => d.anchor ∉ e.comps.map Prod.fst) →
                ∀ g, (∀ h < g, (s.region h).registry.length + d.roles.length ≤ 192 ∧
                    ∀ x ∈ slotWants sl d, ∀ e ∈ (s.region h).registry, e.ident = x.1 → e.definer = x.2) →
                  (∀ pre x post e, slotWants sl d = pre ++ x :: post →
                    (∀ y ∈ pre, ∀ e ∈ (s.region g).registry, e.ident = y.1 → e.definer = y.2) →
                    (s.region g).registry.find? (fun z => z.ident == x.1) = some e → e.definer ≠ x.2 →
                      Refuses .management 0x12 (slotRequest sl d) s .conflict [.region g, e.definer.obj]) ∧
                  ((∀ x ∈ slotWants sl d, ∀ e ∈ (s.region g).registry, e.ident ≠ x.1) →
                    192 < ((s.region g).registry.filter fun e => !ownSlot sl e).length + d.roles.length →
                      Refuses .management 0x12 (slotRequest sl d) s .full [.region g])))))))

/-- R79, R80, R158: SLOT_CLEAR is refused IN_USE with the first of its three reasons; otherwise it leaves the slot
UNDEFINED, its national components UNBOUND and its registrations given up. SLOT_READ reports the slot and its variants
and changes nothing. Which object a refusal names where its reason holds for several is the model's choice (log entry
31). The bytes of the reply where R200 leaves their layout open are the model's choice (log entries 9 to 14). -/
def Obligations.SlotClearAndRead : Prop :=
  ∀ (sl : SlotId) (s : State),
    (canTake .management s →
      (∀ g, ¬(s.route g sl).onNational → (∀ h < g, (s.route h sl).onNational) →
        Refuses .management 0x13 (e1 sl) s .inUse [.reason 0, .region g]) ∧
      ((∀ g, (s.route g sl).onNational) →
        (∀ pre x post, s.cues = pre ++ x :: post → (∀ y ∈ pre, y.slot ≠ sl) → x.slot = sl →
          Refuses .management 0x13 (e1 sl) s .inUse [.reason 1, .cue x.id]) ∧
        ((∀ x ∈ s.cues, x.slot ≠ sl) →
          (∀ v, (s.isVariantOf sl v fun _ => True) → (∀ w < v, ¬s.isVariantOf sl w fun _ => True) →
            Refuses .management 0x13 (e1 sl) s .inUse [.reason 2, .variant v]) ∧
          ((∀ v, ¬s.isVariantOf sl v fun _ => True) →
            ∃ t, Answers .management 0x13 (e1 sl) s [] t ∧
              t = { s.setSlot sl none with components := t.components, regions := t.regions } ∧
              (∀ c, t.component c = (s.component c).map fun k =>
                if (∃ r, k.binding = .national sl r) then { k with binding := .unbound } else k) ∧
              ∀ g, t.region g = (s.region g).without (ownSlot sl))))) ∧
    ∀ (l : Link) (vs : List VariantId), canTake l s → vs.Pairwise (· < ·) →
      (∀ v, v ∈ vs ↔ s.isVariantOf sl v fun _ => True) →
        Answers l 0x14 (e1 sl) s
          (eSlot (s.slot sl) ++ if s.slot sl = none then [] else eList (fun v : VariantId => e1 v) vs) s

/-- R82, R83, R92: a VARIANT_WRITE that is not refused defines the variant, STARVED with both timers stopped and its
durations clamped, binds its components to their roles, unbinds those that the variant had before and does not keep,
and sends VARIANT_HEALTH on the management link. Nothing else changes. The health before of an UNDEFINED variant is the
model's choice (log entry 21). The bytes of the reply where R200 leaves their layout open are the model's choice (log
entries 9 to 14). -/
def Obligations.VariantWriteBindsItsRoles : Prop :=
  ∀ (v : VariantId) (d : VariantDef) (starve recover ret : Nat) (s : State), canTake .management s →
    starve < 2 ^ 32 → recover < 2 ^ 32 → ret < 2 ^ 32 →
    d = { d with
      starveMs := min 5000 (max 20 starve), recoverMs := min 60000 recover, returnMs := min 10000 ret
      health := .starved, starveTimer := none, recoverTimer := none } →
    s.variantLegal d →
    (∀ x ∈ d.comps, ∀ k, s.component x.2 = some k → k.binding = .unbound ∨ ∃ r, k.binding = .variant v r) →
    ¬s.variantUsed v →
      ∃ t, Answers .management 0x15 (variantRequest v d starve recover ret) s (eVariant s (some d)) t ∧
        t = notifyMgmt (.variantHealth v (s.healthBefore v) .starved .written s.clock)
          { s.setVariant v (some d) with components := t.components } ∧
        (∀ x ∈ d.comps, t.component x.2 = (s.component x.2).map fun k => { k with binding := .variant v x.1 }) ∧
        ∀ c, c ∉ d.comps.map Prod.snd →
          t.component c = (s.component c).map fun k =>
            if (∃ r, k.binding = .variant v r) then { k with binding := .unbound } else k

/-- R82, R84, R85: the refusals of VARIANT_WRITE, BAD_FIELD before IN_USE; VARIANT_CLEAR, which is refused IN_USE while
a route or a cue uses the variant, leaves it UNDEFINED with its components UNBOUND; VARIANT_READ reports the variant,
the ticks left on its timers and the routes concerned with it, and changes nothing. The bytes of the reply where R200
leaves their layout open are the model's choice (log entries 9 to 14). -/
def Obligations.VariantRefusalsClearAndRead : Prop :=
  ∀ (v : VariantId) (s : State),
    (∀ (d : VariantDef) (starve recover ret : Nat), canTake .management s → starve < 2 ^ 32 → recover < 2 ^ 32 →
      ret < 2 ^ 32 → d.comps.length < 256 →
        (¬s.variantLegal d → Refuses .management 0x15 (variantRequest v d starve recover ret) s .badField []) ∧
        (s.variantLegal d →
          (∃ x ∈ d.comps, ∃ k, s.component x.2 = some k ∧ k.binding ≠ .unbound ∧ ∀ r, k.binding ≠ .variant v r) ∨
            s.variantUsed v →
            Refuses .management 0x15 (variantRequest v d starve recover ret) s .inUse [])) ∧
    (canTake .management s →
      (s.variantUsed v → Refuses .management 0x16 (e1 v) s .inUse []) ∧
      (¬s.variantUsed v →
        ∃ t, Answers .management 0x16 (e1 v) s [] t ∧ t = { s.setVariant v none with components := t.components } ∧
          ∀ c, t.component c = (s.component c).map fun k =>
            if (∃ r, k.binding = .variant v r) then { k with binding := .unbound } else k)) ∧
    ∀ l, canTake l s →
      (s.variant v = none → Answers l 0x17 (e1 v) s (e1 0) s) ∧
      ∀ d, s.variant v = some d →
        Answers l 0x17 (e1 v) s
          (eVariant s (some d) ++
            eOpt (fun x : Deadline => e6 (x.len - (s.clock - x.set).toNat)) d.starveTimer ++
            eOpt (fun x : Deadline => e6 (x.len - (s.clock - x.set).toNat)) d.recoverTimer ++
            eList (fun g : RegionId => e1 g ++ e1 (s.route g d.slot).state.code)
              ((List.finRange 8).filter fun g => (s.route g d.slot).concerns v)) s

/-! ## The switch schedule -/

/-- R93, R94, R97: a CUE_ADD that is not refused enters the cue, PENDING with no outcome, its wait limit clamped by its
policy's range. A due time in the future waits; one late by 10 s or less falls due at once, in its place, here with
no older cue of the same tick before it; and a DAILY one late by more than that waits for the first of its days that lies
in the future. The reply carries the cue id, the due time as entered (for a DAILY cue that is re-entered within the
request too: the model's choice, log entry 35), the wait limit as taken and whether the cue fell due.

R95, R96, R136: the checks of CUE_ADD in their order: malformed fields, an unset station time, a full schedule, an id
in use, a slot or target that does not stand, a region claimed by another owner, and a ONCE cue more than 10 s late.
The bytes of the reply where R200 leaves their layout open are the model's choice (log entries 9 to 14). That due times
are compared as numbers is the model's reading (log entry 23). -/
def Obligations.CueAddPlacesOrRefusesACue : Prop :=
  (∀ (l : Link) (x : CueAdd) (now late : Nat) (w : Option Nat) (c : Cue) (s : State), canTake l s →
      x.enters now w c s → s.insertion < 4294967294 →
      late = (now + 152882380800000000 - x.due) % 152882380800000000 →
        (76441190400000000 ≤ late →
          ∃ t, Answers l 0x1B (cueRequest x) s (e2 x.id ++ eStation x.due ++ eOpt e4 w ++ [0]) t ∧ Entered c s t) ∧
        (late ≤ 270000000 → (s.cues.map Cue.id).Nodup → s.falling = [] →
          (∀ (g : RegionId) (id : Nat), x.mask.getLsbD g = true → (s.route g x.slot).waiter ≠ some (.cue id)) →
          (∀ y ∈ s.cues, y.state = .pending → y.due % 152882380800000000 = now →
            c.due < y.due ∨ (c.due = y.due ∧ s.insertion < y.insertion)) →
            ∃ u t, Answers l 0x1B (cueRequest x) s (e2 x.id ++ eStation x.due ++ eOpt e4 w ++ [1]) t ∧ Entered c s u ∧
              HandedOver c u t) ∧
        (270000000 < late → late < 76441190400000000 → x.rpt = .daily →
          ∃ days due t, late < days * 2332800000000 ∧ (days - 1) * 2332800000000 ≤ late ∧ 0 < days ∧
            due = (x.due + days * 2332800000000) % 152882380800000000 ∧
            Answers l 0x1B (cueRequest x) s (e2 x.id ++ eStation due ++ eOpt e4 w ++ [0]) t ∧
            Entered { c with due := due } s t)) ∧
  (∀ (l : Link) (x : CueAdd) (s : State), canTake l s →
      (x.id < 65536 → x.due < 152882380800000000 → x.wait < 2 ^ 32 → x.owner < 256 →
        (x.id = 0 ∨ x.mask = 0 ∨ 127 < x.owner) → Refuses l 0x1B (cueRequest x) s .badField []) ∧
      (x.wellFormed →
        (s.station = none → Refuses l 0x1B (cueRequest x) s .notReady []) ∧
        ∀ now, s.station = some now →
          (128 ≤ s.cues.length → Refuses l 0x1B (cueRequest x) s .full []) ∧
          (s.cues.length < 128 →
            ((∃ y ∈ s.cues, y.id = x.id) → Refuses l 0x1B (cueRequest x) s .duplicate []) ∧
            ((∀ y ∈ s.cues, y.id ≠ x.id) →
              (¬s.targetLegal x.slot x.target → Refuses l 0x1B (cueRequest x) s .badField []) ∧
              (s.targetLegal x.slot x.target →
                (∀ g owner, s.firstClaimed x.mask x.owner g owner →
                  Refuses l 0x1B (cueRequest x) s .claimed [.region g, .owner owner]) ∧
                (s.mayTouch x.mask x.owner → x.rpt = .once →
                  270000000 < (now + 152882380800000000 - x.due) % 152882380800000000 →
                  (now + 152882380800000000 - x.due) % 152882380800000000 < 76441190400000000 →
                    Refuses l 0x1B (cueRequest x) s .tooLate []))))))

/-- R98, R99, R102, R103: at the tick at which station time reaches the due time of a PENDING cue, the first such cue in
schedule order is handed to its routes. While none is due nothing happens (log entry 15).

R101, R121: where routes of its mask wait on earlier cues, each such cue first gets its SUPERSEDED for that region, and
completes when that was its last outcome; the new cue is then dealt with as before. (Here a DAILY cue that completes does
not fall due again at once.) That the regions follow one another in ascending order, which decides the insertion numbers
of DAILY cues that complete, is the model's choice (log entry 7).

R97, R98: a cue that CUE_ADD makes fall due at once is handed over behind every PENDING cue due at the same tick that
stands before it in schedule order, one at a time; the model's reading (log entry 34) is that these fall due within the
request, and that due times are compared as numbers is its reading too (log entry 23). The bytes of the reply where R200
leaves their layout open are the model's choice (log entries 9 to 14, 35). -/
def Obligations.CueFallsDueAtItsTime : Prop :=
  (∀ s : State, (∀ now, s.station = some now → ∀ y ∈ s.cues, y.state = .pending → y.due % 152882380800000000 ≠ now) →
    exec .cueFallsDue s = .next s) ∧
  (∀ (c : Cue) (pre post : List Cue) (s : State), s.station = some c.due → s.cues = pre ++ c :: post →
    (∀ y ∈ pre, y.state = .pending → y.due % 152882380800000000 ≠ c.due) →
      (s.readyToFall c → ∃ t, exec .cueFallsDue s = .next t ∧ HandedOver c s t) ∧
      (s.standsReady c → s.insertion < 4294967280 → s.dailiesWait →
        ∃ u t, exec .cueFallsDue s = .next t ∧ SupersedesWaits c.slot (regionsOf c.mask) s u ∧ HandedOver c u t)) ∧
  ∀ (l : Link) (x : CueAdd) (now : Nat) (w : Option Nat) (c : Cue) (s : State), canTake l s → x.enters now w c s →
    (now + 152882380800000000 - x.due) % 152882380800000000 ≤ 270000000 →
    (s.cues.map Cue.id).Nodup → s.falling = [] → s.insertion < 4294960000 → s.dailiesWait →
    (∀ g : RegionId, x.mask.getLsbD g = true → (s.route g x.slot).waiter ≠ some (.cue x.id)) →
    (∀ y ∈ s.cues, y.state = .pending → y.due % 152882380800000000 = now → s.standsReady y) →
      ∃ u pre post t, Entered c s u ∧ u.cues = pre ++ c :: post ∧
        Answers l 0x1B (cueRequest x) s (e2 x.id ++ eStation x.due ++ eOpt e4 w ++ [1]) t ∧
        HandedInTurn
          (pre.filter (fun y => decide (y.state = .pending) && decide (y.due % 152882380800000000 = now)) ++ [c]) u t

/-- R104, R105, R106, R126, R136: CUE_CANCEL of an unknown cue is refused UNKNOWN, and of one in a region that another
owner claims CLAIMED. Taken, it removes the cue, DAILY or not, with its missing outcomes CANCELLED. Of a PENDING cue it
sends CUE_DONE on both links and touches no route; the routes that wait on an ACTIVE one abandon their waits.

R107, R108, R125, R136: CUE_CONFIRM is refused UNKNOWN, CLAIMED, NOT_DUE for a PENDING cue, and WRONG_POLICY for one that
is not ON_CONFIRM, in this order. Taken, it switches each route that waits on it, or sends it to the fallback when its
target variant is not HEALTHY; the cue then has every outcome and completes: it is removed, or, when DAILY, re-entered
(here for an occurrence that does not fall due at once). The bytes of the reply where R200 leaves their layout open are
the model's choice (log entries 9 to 14). -/
def Obligations.CueCancelAndConfirm : Prop :=
  (∀ (l : Link) (id owner : Nat) (s : State), canTake l s → 0 < id → id < 65536 → owner ≤ 127 →
      ((∀ y ∈ s.cues, y.id ≠ id) → Refuses l 0x1C (e2 id ++ e1 owner) s .unknown []) ∧
      ∀ c done, c ∈ s.cues → c.id = id → (s.cues.map Cue.id).Nodup →
        done = { c with outcomes := c.outcomes.map fun x => if x.2 = .none then (x.1, CueOutcome.cancelled) else x } →
        (∀ g claimant, s.firstClaimed c.mask owner g claimant →
          Refuses l 0x1C (e2 id ++ e1 owner) s .claimed [.region g, .owner claimant]) ∧
        (s.mayTouch c.mask owner →
          (c.state = .pending →
            Answers l 0x1C (e2 id ++ e1 owner) s (e1 0 ++ eList eOutcome done.outcomes)
              (notifyBoth (.cueDone done none)
                { s with cues := s.cues.filter fun y => y.id != id, changes := s.changes + 1 })) ∧
          (c.state = .active →
            ∃ t, Answers l 0x1C (e2 id ++ e1 owner) s (e1 1 ++ eList eOutcome done.outcomes) t ∧ OnlySwitching s t ∧
              t.cues = s.cues.filter (fun y => y.id != id) ∧ t.insertion = s.insertion ∧ t.changes = s.changes + 1 ∧
              ∀ (g : RegionId) (sl : SlotId), t.route g sl =
                if sl = c.slot ∧ c.mask.getLsbD g ∧ (s.route g sl).waiter = some (.cue id) then s.abandon (s.route g sl)
                else s.route g sl))) ∧
  (∀ (l : Link) (id owner : Nat) (s : State), canTake l s → 0 < id → id < 65536 → owner ≤ 127 →
      ((∀ y ∈ s.cues, y.id ≠ id) → Refuses l 0x1D (e2 id ++ e1 owner) s .unknown []) ∧
      ∀ c, c ∈ s.cues → c.id = id → (s.cues.map Cue.id).Nodup →
        (∀ g claimant, s.firstClaimed c.mask owner g claimant →
          Refuses l 0x1D (e2 id ++ e1 owner) s .claimed [.region g, .owner claimant]) ∧
        (s.mayTouch c.mask owner →
          (c.state = .pending → Refuses l 0x1D (e2 id ++ e1 owner) s .notDue []) ∧
          (c.state = .active → c.policy ≠ .onConfirm → Refuses l 0x1D (e2 id ++ e1 owner) s .wrongPolicy []) ∧
          (c.state = .active → c.policy = .onConfirm → (c.rpt = .daily → s.insertion < 4294967295) → s.nextWaits c →
            s.falling = [] →
            c.outcomes.map Prod.fst = regionsOf c.mask → (∃ x ∈ c.outcomes, x.2 = .none) →
            (∀ g : RegionId, (g, CueOutcome.none) ∈ c.outcomes ↔
              c.mask.getLsbD g = true ∧ ∃ d, (s.route g c.slot).state = .awaitConfirm c.target (some id) d) →
            (∀ g target d, (s.route g c.slot).state = .awaitConfirm target (some id) d → target = c.target) →
              ∃ t, Answers l 0x1D (e2 id ++ e1 owner) s
                  (eList eOutcome (c.outcomes.map fun x =>
                    if x.2 = .none then (x.1, if s.fit c.target then CueOutcome.switched else .fallback) else x)) t ∧
                OnlySwitching s t ∧ Completed c s t ∧ t.falling = [] ∧
                ∀ g sl,
                  (sl = c.slot ∧ (g, CueOutcome.none) ∈ c.outcomes →
                    (s.fit c.target = true → t.route g sl = (s.route g sl).switchTo c.target) ∧
                    ∀ v, c.target = .variant v → s.healthy v = false →
                      t.route g sl = (s.route g sl).fallBack v (s.fallbackOf v)) ∧
                  (¬(sl = c.slot ∧ (g, CueOutcome.none) ∈ c.outcomes) → t.route g sl = s.route g sl))))

/-- The bytes of a cue at a position of the schedule, as CUE_LIST carries them (R109): its record in the order of 6.1, with
the regions that wait on it and their deadlines. -/
def cueBytes (s : State) (x : Cue × Nat) : List Byte :=
  e1 x.2 ++ e2 x.1.id ++ eStation x.1.due ++ [x.1.mask] ++ e1 x.1.slot ++ eTarget x.1.target ++ e1 x.1.policy.code ++
    eOpt e4 x.1.waitMs ++ e1 x.1.rpt.code ++ e1 x.1.owner ++ e1 x.1.state.code ++ eList eOutcome x.1.outcomes ++
    e4 x.1.insertion ++
    eList (fun y : RegionId × Deadline => e1 y.1 ++ e6 (y.2.set + BitVec.ofNat 48 y.2.len).toNat) (s.waits x.1)

/-- R109: CUE_LIST reports the cue of an id, or up to eight cues from a position on, with the number of cues, the
change count and whether station time is set, and changes nothing; an id that no cue has is refused UNKNOWN, and both
selectors, neither, or one out of range BAD_FIELD. The bytes of the reply where R200 leaves their layout open are the
model's choice (log entries 9 to 14). -/
def Obligations.CueListReadsTheSchedule : Prop :=
  ∀ (l : Link) (s : State) (rest : List Byte), canTake l s →
    rest = e2 s.cues.length ++ e2 s.changes.toNat ++ e1 s.offset.isSome.toNat →
      (∀ (c : Cue) (pre post : List Cue), s.cues = pre ++ c :: post → (∀ y ∈ pre, y.id ≠ c.id) → 0 < c.id →
        c.id < 65536 → Answers l 0x1E ([1] ++ e2 c.id ++ [0]) s ([1] ++ cueBytes s (c, pre.length) ++ rest) s) ∧
      (∀ id : Nat, 0 < id → id < 65536 → (∀ y ∈ s.cues, y.id ≠ id) →
        Refuses l 0x1E ([1] ++ e2 id ++ [0]) s .unknown []) ∧
      (∀ pos : Nat, pos ≤ 127 →
        Answers l 0x1E ([0, 1] ++ e1 pos) s (eList (cueBytes s) ((s.cues.zipIdx.drop pos).take 8) ++ rest) s) ∧
      Refuses l 0x1E [0, 0] s .badField [] ∧
      (∀ id pos : Nat, id < 65536 → pos < 256 → Refuses l 0x1E ([1] ++ e2 id ++ [1] ++ e1 pos) s .badField []) ∧
      Refuses l 0x1E ([1] ++ e2 0 ++ [0]) s .badField [] ∧
      ∀ pos : Nat, 127 < pos → pos < 256 → Refuses l 0x1E ([0, 1] ++ e1 pos) s .badField []

/-! ## Routes -/

/-- R121, R122, R129, R133: a taken ROUTE_TAKE meets the route of each region of its mask by R121 and R122, and replies
with the wait limit as taken and each region's outcome (here a DAILY cue that completes does not fall due again at once).
No other route moves; nothing else changes but the schedule and reports, and where no cue waits on a route of the mask
only reports. R101: each cue on which a route of the mask waits gets its SUPERSEDED there, and completes when that was its
last outcome; nothing else of the schedule changes. That the regions follow one another in ascending order, which decides
the insertion numbers of DAILY cues that complete, is the model's choice (log entry 7). A mask of no region, an owner
above 127 and a target that does not stand are refused BAD_FIELD, and then a region that another owner claims CLAIMED. The
bytes of the reply where R200 leaves their layout open are the model's choice (log entries 9 to 14). -/
def Obligations.RouteTakeMeetsEachRoute : Prop :=
  ∀ (l : Link) (mask : RegionMask) (sl : SlotId) (t : Target) (p : SwitchPolicy) (wait owner : Nat) (w : Option Nat)
    (body : List Byte) (s : State), canTake l s → wait < 2 ^ 32 → owner < 256 →
    (p = .immediate ∧ w = none ∨ p = .atMark ∧ w = some (min 10000 wait)) →
    body = [mask] ++ e1 sl ++ eTarget t ++ e1 p.code ++ e4 wait ++ e1 owner →
      (mask = 0 ∨ 127 < owner ∨ ¬s.targetLegal sl t → Refuses l 0x20 body s .badField []) ∧
      (mask ≠ 0 → owner ≤ 127 → s.targetLegal sl t →
        (∀ g claimant, s.firstClaimed mask owner g claimant →
          Refuses l 0x20 body s .claimed [.region g, .owner claimant]) ∧
        (s.mayTouch mask owner → s.falling = [] → s.dailiesWait →
            ∃ (u : State) (o : RegionId → CueOutcome),
              Answers l 0x20 body s (eOpt e4 w ++ eList eOutcome ((regionsOf mask).map fun g => (g, o g))) u ∧
              OnlySwitching s u ∧
              ((∀ (g : RegionId) (id : Nat), mask.getLsbD g = true → (s.route g sl).waiter ≠ some (.cue id)) →
                OnlyReports { s with routes := u.routes } u) ∧
              ((s.cues.map Cue.id).Nodup → s.insertion < 4294967280 →
                ∃ v, SupersedesWaits sl (regionsOf mask) s v ∧ OnlyReports { v with routes := u.routes } u) ∧
              ∀ (g : RegionId) (x : SlotId),
                (x = sl → mask.getLsbD g = true →
                  s.meets t p (w.getD 0) none (s.route g sl) (u.route g sl) (o g)) ∧
                (x ≠ sl ∨ mask.getLsbD g = false → u.route g x = s.route g x)))

/-- R120, R130, R131: ROUTE_HOLD sets the hold flag of each route of its mask, and a route that waits abandons its wait
(here a DAILY cue that completes does not fall due again at once): it settles on its current source, or from BLANK returns
to its intended variant when that is HEALTHY and stays in FALLBACK when not. R100, R102, R103: a cue on which it waited
gets HELD from it and completes with its last outcome; that the regions follow one another in ascending order is the
model's choice (log entry 7). ROUTE_FREE clears the flag and nothing else. Both reply with each route's state and current
source after the request. The bytes of the reply where R200 leaves their layout open are the model's choice (log entries 9
to 14). -/
def Obligations.RouteHoldAndFree : Prop :=
  ∀ (l : Link) (mask : RegionMask) (sl : SlotId) (owner : Nat) (body : List Byte) (s : State), canTake l s →
    owner < 256 → body = [mask] ++ e1 sl ++ e1 owner →
      (mask = 0 ∨ 127 < owner → Refuses l 0x21 body s .badField [] ∧ Refuses l 0x22 body s .badField []) ∧
      (mask ≠ 0 → owner ≤ 127 → ∀ g claimant, s.firstClaimed mask owner g claimant →
        Refuses l 0x21 body s .claimed [.region g, .owner claimant] ∧
          Refuses l 0x22 body s .claimed [.region g, .owner claimant]) ∧
      (mask ≠ 0 → owner ≤ 127 → s.mayTouch mask owner → s.falling = [] → s.dailiesWait →
        (∃ t, Answers l 0x21 body s
            (eList (fun g : RegionId => e1 g ++ e1 (t.route g sl).state.code ++ eSource (t.route g sl).current)
              (regionsOf mask)) t ∧ OnlySwitching s t ∧
          ((∀ (g : RegionId) (id : Nat), mask.getLsbD g = true → (s.route g sl).waiter ≠ some (.cue id)) →
            OnlyReports { s with routes := t.routes } t) ∧
          ((s.cues.map Cue.id).Nodup → s.insertion < 4294960000 →
            ∃ v, GivesOutcomes ((regionsOf mask).filterMap fun g => (s.route g sl).tells g .held) s v ∧
              OnlyReports { v with routes := t.routes } t) ∧
          ∀ (g : RegionId) (x : SlotId) (r : Route), r = s.route g x →
            (x ≠ sl ∨ mask.getLsbD g = false → t.route g x = r) ∧
            (x = sl → mask.getLsbD g = true →
              (r.waiter = none → t.route g x = { r with hold := true }) ∧
              (r.waiter ≠ none → r.current = .national →
                t.route g x = { r with intended := .national, state := .steady, hold := true }) ∧
              (∀ v, r.waiter ≠ none → r.current = .variant v →
                t.route g x = { r with intended := .variant v, state := .steady, hold := true }) ∧
              (∀ v, r.waiter ≠ none → r.current = .blank → r.intended = .variant v → s.healthy v = false →
                t.route g x = { r with state := .fallback, hold := true }) ∧
              (∀ v, r.waiter ≠ none → r.current = .blank → r.intended = .variant v → s.healthy v = true →
                s.returnTicks v ≠ 0 →
                t.route g x =
                  { r with state := .returning v { set := s.clock, len := s.returnTicks v }, hold := true }) ∧
              (∀ v, r.waiter ≠ none → r.current = .blank → r.intended = .variant v → s.healthy v = true →
                s.returnTicks v = 0 →
                t.route g x = { r with current := .variant v, state := .steady, hold := true, markPending := true }))) ∧
        ∃ t, Answers l 0x22 body s
            (eList (fun g : RegionId => e1 g ++ e1 (s.route g sl).state.code ++ eSource (s.route g sl).current)
              (regionsOf mask)) t ∧ OnlyReports { s with routes := t.routes } t ∧
          ∀ (g : RegionId) (x : SlotId), t.route g x =
            if x = sl ∧ mask.getLsbD g then { s.route g x with hold := false } else s.route g x)

/-- R119, R120, R124: a deadline that is reached acts by its route's state. PENDING_SPLICE and RETURNING switch, with
FORCED_SPLICE of class DEGRADED; AWAIT_CONFIRM abandons its wait. No other route moves. A cue that waited gets its
outcome, and with the last it completes: it is removed, or, when DAILY, re-entered. Before its moment nothing happens (log
entry 15).

R98, R103: a DAILY cue is re-entered for the next day, or, where that is late by more than 10 s, for the first day after it
that lies in the future. Where the next day is the present or late by 10 s or less, the cue falls due at once in the same
event, behind every PENDING cue of the same tick that stands before it; that these fall due within the event, and that due
times are compared as numbers and regions follow one another in ascending order, is the model's reading (log entries 7, 23
and 34). -/
def Obligations.RouteDeadlineEndsTheWait : Prop :=
  ∀ (g : RegionId) (sl : SlotId) (s : State) (r : Route), r = s.route g sl →
    ((∀ d, r.state.deadline = some d → (s.clock - d.set).toNat < d.len) → exec (.routeDeadline g sl) s = .next s) ∧
    ∀ (d : Deadline) (new : Route) (o : CueOutcome), r.state.deadline = some d → d.len ≤ (s.clock - d.set).toNat →
      s.falling = [] →
      ((∃ t c, r.state = .pendingSplice t c d ∧ new = r.switchTo t ∧ o = .forced) ∨
        (∃ v, r.state = .returning v d ∧ new = r.switchTo (.variant v) ∧ o = .none) ∨
        (∃ t c, r.state = .awaitConfirm t c d ∧ new = s.abandon r ∧ o = .expired)) →
      ((∀ id, r.waiter ≠ some (.cue id)) →
        ∃ t, exec (.routeDeadline g sl) s = .next t ∧ OnlyReports (s.setRoute g sl new) t ∧
          (o ≠ .expired → t.detected.degraded = true)) ∧
      (∀ c c', r.waiter = some (.cue c.id) → c ∈ s.cues → (s.cues.map Cue.id).Nodup → c.state = .active →
        (c.rpt = .daily → s.insertion < 4294967295) → s.nextWaits c →
        c' = { c with outcomes := c.outcomes.map fun x => if x.1 = g ∧ x.2 = .none then (g, o) else x } →
          ∃ t, exec (.routeDeadline g sl) s = .next t ∧ OnlySwitching (s.setRoute g sl new) t ∧
            t.routes = (s.setRoute g sl new).routes ∧
            (if ∀ x ∈ c'.outcomes, x.2 ≠ .none then Completed c' s t
              else t.insertion = s.insertion ∧ t.cues = s.cues.map fun y => if y.id = c.id then c' else y) ∧
            (o ≠ .expired → t.detected.degraded = true)) ∧
      ∀ c c' again now, r.waiter = some (.cue c.id) → c ∈ s.cues → (s.cues.map Cue.id).Nodup → c.state = .active →
        c.rpt = .daily → s.station = some now → c.nextLate now ≤ 270000000 → s.insertion < 4294960000 →
        s.cues.length ≤ 128 →
        (∀ y ∈ s.cues, y.id ≠ c.id → s.nextWaits y) →
        c.mask ≠ 0 → c.outcomes.map Prod.fst = regionsOf c.mask →
        (∀ h : RegionId, c.mask.getLsbD h = true → ((s.setRoute g sl new).route h c.slot).waiter ≠ some (.cue c.id)) →
        (∀ y ∈ s.cues, y.state = .pending → y.due % 152882380800000000 = now → (s.setRoute g sl new).standsReady y) →
        c' = { c with outcomes := c.outcomes.map fun x => if x.1 = g ∧ x.2 = .none then (g, o) else x } →
        (∀ x ∈ c'.outcomes, x.2 ≠ .none) → again = c'.reentered c.nextDay s.insertion →
          ∃ u pre post t, exec (.routeDeadline g sl) s = .next t ∧ OnlySwitching (s.setRoute g sl new) u ∧
            u.routes = (s.setRoute g sl new).routes ∧ Completed c' s u ∧ u.cues = pre ++ again :: post ∧
            HandedInTurn
              (pre.filter (fun y => decide (y.state = .pending) && decide (y.due % 152882380800000000 = now)) ++ [again]) u t ∧
            (o ≠ .expired → t.detected.degraded = true)

/-- R56, R123: the packet of an anchor component whose entry flag is set and whose error flag is clear, unless its meter
discards it, reports a mark of its source: every route of the slot in PENDING_SPLICE towards that source, or in RETURNING
towards that variant, switches to it, and no other route moves but in its mark-pending flag. (Here a DAILY cue that
completes does not fall due again at once, and a variant is HEALTHY already, so that its arrival report moves no route.)

R100, R102, R103, R118: each cue on which a route waited for that source gets SWITCHED from it, and completes with its last
outcome; nothing else of the schedule changes. That the regions follow one another in ascending order is the model's
choice (log entry 7). -/
def Obligations.MarksSwitchWaitingRoutes : Prop :=
  ∀ (p : PortId) (a : Arrived) (rest : List Arrived) (c : ComponentId) (k : Component) (sl : SlotId) (x : Target)
    (s : State), s.falling = [] → State.takesFor s p a rest c k → s.passesMeter k a →
    s.anchorSource k.binding = some (sl, x) → s.fit x = true → s.dailiesWait →
    entryFlag a.packet = true → errorFlag a.packet = false →
      ∃ t, exec .classifierTake s = .next t ∧
        ((s.cues.map Cue.id).Nodup → s.insertion < 4294960000 →
          ∃ v, GivesOutcomes (s.markedOutcomes sl x) s v ∧ t.cues = v.cues ∧ t.insertion = v.insertion ∧
            t.changes = v.changes) ∧
        ∀ (g : RegionId) (y : SlotId), ∃ m,
          ((y = sl ∧ ((∃ cue d, (s.route g y).state = .pendingSplice x cue d) ∨
              ∃ v d, x = .variant v ∧ (s.route g y).state = .returning v d)) →
            t.route g y = { s.route g y with current := x.source, intended := x, state := .steady, markPending := m }) ∧
          (¬(y = sl ∧ ((∃ cue d, (s.route g y).state = .pendingSplice x cue d) ∨
              ∃ v d, x = .variant v ∧ (s.route g y).state = .returning v d)) →
            t.route g y = { s.route g y with markPending := m })

/-- R119, R127, R128: when a variant becomes STARVED each route acts by its state and the variant's place in it, and when
it becomes HEALTHY a FALLBACK route that intends it enters RETURNING, or switches at once where the return wait is 0.
(Here a DAILY cue that completes does not fall due again at once.)

R100, R102, R103: at a starvation each cue on which a route waits for the variant gets FALLBACK from it, each on which a
route that carries the variant waits for another source FORCED, and a cue completes with its last outcome; nothing else of
the schedule changes, and at a recovery nothing of it does. That the routes follow one another in ascending order is the
model's choice (log entry 7). -/
def Obligations.HealthChangesMoveRoutes : Prop :=
  ∀ (v : VariantId) (d : VariantDef) (x : Deadline) (s : State), s.variant v = some d → s.falling = [] → s.dailiesWait →
    x.len ≤ (s.clock - x.set).toNat →
    (d.starveTimer = some x → d.health ≠ .starved →
      ∃ t, exec (.starvationExpiry v) s = .next t ∧
        ((s.cues.map Cue.id).Nodup → s.insertion < 4294960000 →
          ∃ w, GivesOutcomes (s.starvedOutcomes v) s w ∧
            OnlyReports { w with routes := t.routes, variants := t.variants } t) ∧
        ∀ (g : RegionId) (sl : SlotId) (r : Route), r = s.route g sl →
          t.route g sl =
            match r.state with
            | .steady => if r.current = .variant v then r.fallBack v d.fallback.source else r
            | .pendingSplice w _ _ =>
              if w = .variant v then r.fallBack v d.fallback.source
              else if r.current = .variant v then r.switchTo w else r
            | .awaitConfirm w _ _ =>
              if w ≠ .variant v ∧ r.current = .variant v then
                { r with current := d.fallback.source, intended := .variant v, markPending := true }
              else r
            | .fallback => r
            | .returning w _ => if w = v then { r with state := .fallback } else r) ∧
    (d.recoverTimer = some x → d.health = .recovering →
      ∃ t, exec (.recoveryExpiry v) s = .next t ∧ OnlyReports { s with routes := t.routes, variants := t.variants } t ∧
        ∀ (g : RegionId) (sl : SlotId), t.route g sl = (s.route g sl).recovered v d s.clock)

/-- The bytes of a route as ROUTE_READ carries them (R132): its record in the order of 7.1, the ticks that remain, the
tally lines bound to it and its region's claimant. -/
def routeBytes (s : State) (g : RegionId) (sl : SlotId) : List Byte :=
  eSource (s.route g sl).current ++ eTarget (s.route g sl).intended ++ e1 (s.route g sl).state.code ++
    eOpt eTarget (s.route g sl).state.target ++
    (match (s.route g sl).state with
      | .steady | .fallback | .returning _ _ => [0]
      | .pendingSplice _ _ _ => [1] ++ e1 0
      | .awaitConfirm _ _ _ => [1] ++ e1 1) ++
    eOpt e2 (s.route g sl).state.cue ++
    eOpt (fun d : Deadline => e6 (d.set + BitVec.ofNat 48 d.len).toNat) (s.route g sl).state.deadline ++
    e1 (s.route g sl).hold.toNat ++ e1 (s.route g sl).markPending.toNat ++
    eOpt (fun d : Deadline => e6 (d.len - (s.clock - d.set).toNat)) (s.route g sl).state.deadline ++
    eList (fun t : TallyId => e1 t) ((List.finRange 8).filter fun t => decide (s.tallies[t] = some (g, sl))) ++
    eOpt e1 (s.claimant g)

/-- R132, R135: ROUTE_READ reports one route, or the 24 of a region, and changes nothing; an index outside its set is
refused BAD_FIELD. TALLY_BIND, refused NOT_PERMITTED on the cue link, binds a line and nothing else, and replies with
all eight: a bound line is active exactly while its route carries a variant. The bytes of the reply where R200 leaves
their layout open are the model's choice (log entries 9 to 14). -/
def Obligations.RouteReadAndTallyLines : Prop :=
  (∀ (l : Link) (g : RegionId) (s : State), canTake l s →
    (∀ sl : SlotId, Answers l 0x23 (e1 g ++ [1] ++ e1 sl) s (routeBytes s g sl) s) ∧
      Answers l 0x23 (e1 g ++ [0]) s ((List.finRange 24).flatMap fun sl => routeBytes s g sl) s) ∧
  (∀ (l : Link) (g sl : Byte) (s : State), canTake l s →
    (8 ≤ g.toNat → Refuses l 0x23 [g, 0] s .badField []) ∧
      (8 ≤ g.toNat ∨ 24 ≤ sl.toNat → Refuses l 0x23 [g, 1, sl] s .badField [])) ∧
  (∀ (tl g sl : Byte) (s : State), canTake .management s →
    (8 ≤ tl.toNat → Refuses .management 0x24 [tl, 0] s .badField []) ∧
      (8 ≤ tl.toNat ∨ 8 ≤ g.toNat ∨ 24 ≤ sl.toNat → Refuses .management 0x24 [tl, 1, g, sl] s .badField [])) ∧
  (∀ (body : List Byte) (s : State), canTake .cue s → Refuses .cue 0x24 body s .notPermitted []) ∧
  ∀ (tl : TallyId) (b : Option (RegionId × SlotId)) (active : TallyId → Bool) (s t : State), canTake .management s →
    t = { s with tallies := s.tallies.set tl b } →
    (∀ x, active x = true ↔ ∃ g sl v, t.tallies[x] = some (g, sl) ∧ (s.route g sl).current = .variant v) →
      Answers .management 0x24 (e1 tl ++ eOpt (fun x : RegionId × SlotId => e1 x.1 ++ e1 x.2) b) s
        ((List.finRange 8).flatMap fun x =>
          eOpt (fun y : RegionId × SlotId => e1 y.1 ++ e1 y.2) t.tallies[x] ++ e1 (active x).toNat) t

/-- R137, R138, R139, R140: CLAIM gives every region of its mask to an owner, or is refused CLAIMED with the first
region that another owner has and changes none; UNCLAIM frees those of the owner; CLAIM_BREAK frees them all;
CLAIM_READ reports the eight claimants. Nothing else changes. An empty mask and an owner that is 0 or above 127 are
refused BAD_FIELD, and CLAIM_BREAK is refused NOT_PERMITTED on the cue link. The bytes of the reply where R200 leaves
their layout open are the model's choice (log entries 9 to 14). -/
def Obligations.ClaimsReserveRegions : Prop :=
  (∀ (l : Link) (mask : RegionMask) (owner : Nat) (s : State), canTake l s → mask ≠ 0 → 0 < owner → owner ≤ 127 →
    (∀ g claimant, s.firstClaimed mask owner g claimant →
      Refuses l 0x25 ([mask] ++ e1 owner) s .claimed [.region g, .owner claimant]) ∧
    (s.mayTouch mask owner →
      ∃ t, Answers l 0x25 ([mask] ++ e1 owner) s ((List.finRange 8).flatMap fun g => eOpt e1 (t.claimant g)) t ∧
        t = { s with claims := t.claims } ∧
        ∀ g : RegionId, t.claimant g = if mask.getLsbD g then some owner else s.claimant g) ∧
    (∃ t, Answers l 0x26 ([mask] ++ e1 owner) s
        (eList (fun g : RegionId => e1 g)
            ((List.finRange 8).filter fun g => mask.getLsbD g && decide (s.claimant g = some owner)) ++
          (List.finRange 8).flatMap fun g => eOpt e1 (t.claimant g)) t ∧
      t = { s with claims := t.claims } ∧
      ∀ g : RegionId, t.claimant g =
        if mask.getLsbD g = true ∧ s.claimant g = some owner then none else s.claimant g) ∧
    (l = .management →
      ∃ t, Answers l 0x27 [mask] s
          (eList (fun g : RegionId => e1 g ++ eOpt e1 (s.claimant g))
            ((List.finRange 8).filter fun g => mask.getLsbD g)) t ∧
        t = { s with claims := t.claims } ∧
        ∀ g : RegionId, t.claimant g = if mask.getLsbD g then none else s.claimant g) ∧
    Answers l 0x28 [] s ((List.finRange 8).flatMap fun g => eOpt e1 (s.claimant g)) s) ∧
  (∀ (l : Link) (mask : RegionMask) (owner : Byte) (s : State), canTake l s →
    mask = 0 ∨ owner = 0 ∨ 127 < owner.toNat →
      Refuses l 0x25 [mask, owner] s .badField [] ∧ Refuses l 0x26 [mask, owner] s .badField []) ∧
  (∀ s : State, canTake .management s → Refuses .management 0x27 [0] s .badField []) ∧
  ∀ (body : List Byte) (s : State), canTake .cue s → Refuses .cue 0x27 body s .notPermitted []

/-! ## Regions and feeds -/

/-- The bytes of a region as REGION_READ carries them without a starting identifier (R159). -/
def regionBytes (s : State) (g : RegionId) : List Byte :=
  e1 (s.region g).clk.isSome.toNat ++ e4 (s.region g).rate ++ eOpt e4 (s.region g).pendingRate ++
    e1 (s.region g).mode.code ++ e4 (s.region g).delayMs ++ e4 (s.region g).ageMs ++
    (match (s.region g).clk with
      | some c => e6 c.base.toNat ++ e6 c.next.toNat ++ e4 c.index
      | none => []) ++
    e2 (s.region g).mainQ.length ++ e2 (s.region g).expQ.length ++
    eOpt (fun e : QEntry => e6 (s.clock - e.arrival).toNat) (s.region g).mainQ.head? ++
    eOpt (fun e : QEntry => e6 (s.clock - e.arrival).toNat) (s.region g).expQ.head? ++
    e2 (s.region g).registry.length ++ e2 (s.region g).drains.length ++
    eList (fun fd : FeedId => e1 fd) ((List.finRange 16).filter fun fd => decide ((s.feed fd).bound = some g)) ++
    e4 ((s.region g).nulls.filter id).length

/-- R142, R143, R159: REGION_CONFIG writes the settings it carries, clamped, and keeps the others; a rate given for a
RUNNING region becomes the pending rate, or withdraws it when it equals the rate in force. REGION_READ reports a
region, or up to 64 of its registrations from an identifier on, and changes nothing. The rate in the reply to a request
that gives none is the model's choice (log entry 32). The bytes of the reply where R200
leaves their layout open, the definer of a registration among them, are the model's choice (log entries 9 to 14, 36). -/
def Obligations.RegionConfigAndRead : Prop :=
  (∀ (g : RegionId) (rate delay age : Option Nat) (mode : Option ArbiterMode) (r new : Region) (taken : Option Nat)
    (s : State), canTake .management s → (∀ x ∈ rate, x < 2 ^ 32) → (∀ x ∈ delay, x < 2 ^ 32) →
    (∀ x ∈ age, x < 2 ^ 32) → r = s.region g → taken = rate.map (fun x => min 60000000 (max 2000000 x)) →
    new = { r with
      mode := mode.getD r.mode
      delayMs := (delay.map fun x => min 500 (max 5 x)).getD r.delayMs
      ageMs := (age.map fun x => min 2000 (max 5 x)).getD r.ageMs
      rate := if r.clk = none then taken.getD r.rate else r.rate
      pendingRate := if r.clk = none ∨ taken = none then r.pendingRate
        else if taken = some r.rate then none else taken } →
      Answers .management 0x29
        (e1 g ++ eOpt e4 rate ++ eOpt (fun m => e1 (ArbiterMode.code m)) mode ++ eOpt e4 delay ++ eOpt e4 age) s
        (e4 (taken.getD r.rate) ++ e1 new.mode.code ++ e4 new.delayMs ++ e4 new.ageMs ++
          (if r.clk = none then [0] else [1] ++ e4 r.rate ++ eOpt e4 new.pendingRate)) (s.setRegion g new)) ∧
  ∀ (l : Link) (g : RegionId) (s : State), canTake l s →
    Answers l 0x2C (e1 g ++ [0]) s (regionBytes s g) s ∧
    (∀ i : Ident, i ≠ 8191 →
      Answers l 0x2C (e1 g ++ [1] ++ e2 i.toNat) s
        (eList (fun e : RegEntry => e2 e.ident.toNat ++ eObj e.definer.obj ++ e1 e.last.toNat ++ e1 e.owed.toNat)
            (((s.region g).registry.filter fun e => decide (i.toNat ≤ e.ident.toNat)).take 64) ++
          e2 (s.region g).registry.length) s) ∧
    Refuses l 0x2C (e1 g ++ [1] ++ e2 8191) s .badField []

/-- R145, R146, R155, R158, R168, R170, R175: REGION_START of a STOPPED region sets its slot clock at the present local
clock value, begins a cycle of each of its RUNNING carousels, and begins slot 0 there and then as a slot instant does: with
its queues empty, the first packet of the RUNNING carousel whose turn is first, or else a null packet. Of a RUNNING region
it changes nothing. REGION_STOP of a RUNNING region takes its slot clock away, puts a pending rate in force, flushes both
queues with their references, leaves the discontinuities that their entries would have set owed, removes the drain records
and ends the cycles of its carousels; a swap that was pending takes effect, and the registrations that its list does not
use are given up (here those of the list stand, as CAROUSEL_SWAP left them). Of a STOPPED region it changes nothing. That
a carousel which is not RUNNING has no cycle start after the region's start, and that slot 0 replaces what a feed still
carried, is the model's reading (log entry 28). The bytes of the reply where R200 leaves their layout open are the model's
choice (log entries 9 to 14). -/
def Obligations.RegionStartAndStop : Prop :=
  ∀ (g : RegionId) (r : Region) (s : State), canTake .management s → r = s.region g →
    (r.clk = none →
      (∃ u t : State,
        u = { s.setRegion g { r with clk := some { base := s.clock, next := s.clock, acc := 0, index := 0 }, nulls := [] }
              with carousels := u.carousels } ∧
        (∀ k, u.carousel k =
          if (s.carousel k).region = some g then
            if (s.carousel k).state = .running then (s.carousel k).cycling s.clock
            else { s.carousel k with cycleStart := none }
          else s.carousel k) ∧
          exec (.slotInstant g) u = .next t ∧ Answers .management 0x2A (e1 g) s ([1, 1] ++ e6 s.clock.toNat) t ∧
            (r.mainQ = [] → r.expQ = [] → (∀ k, (s.carousel k).region = some g → (s.carousel k).cursor = none) →
              ((∀ k, (s.carousel k).region = some g → (s.carousel k).state = .running → (s.carousel k).live = []) →
                (t.region g).lastBegun = .null ∧ FeedsCarry g nullPacket s t) ∧
              ∀ k p, (s.carousel k).region = some g → (s.carousel k).state = .running →
                (s.carousel k).live.head? = some p → r.lookup (ident p) ≠ none →
                (∀ h, (s.carousel h).region = some g → (s.carousel h).state = .running → (s.carousel h).live ≠ [] →
                  r.carouselTurn k ≤ r.carouselTurn h) →
                  (t.region g).lastBegun = .carousel ∧
                    FeedsCarry g
                      (setContinuity
                        (if carriesPayload p then r.lastCount (ident p) + 1 else r.lastCount (ident p)) p) s t)) ∧
      Answers .management 0x2B (e1 g) s (e2 0 ++ e2 0) s) ∧
    (r.clk ≠ none →
      Answers .management 0x2A (e1 g) s [1, 0] s ∧
      ((∀ k, (s.carousel k).region = some g → (s.carousel k).swapPending = true → r.holdsBuilding k (s.carousel k)) →
        ∃ t, Answers .management 0x2B (e1 g) s (e2 r.mainQ.length ++ e2 r.expQ.length) t ∧
          t = { s.setRegion g { r with
                  clk := none, rate := r.pendingRate.getD r.rate, pendingRate := none, mainQ := [], expQ := []
                  drains := []
                  registry :=
                    (r.registry.filter fun e => (List.finRange 32).all fun k =>
                      !(decide ((s.carousel k).region = some g) && (s.carousel k).swapPending) ||
                        keptBySwap k (s.carousel k) (e.ident, e.definer)).map fun e => { e with
                    owed := e.owed || (r.mainQ ++ r.expQ).any fun q => q.setDisc && decide (q.out = e.ident) } }
                with
                pool := droppedFrom ((r.mainQ ++ r.expQ).map QEntry.buf) s.pool
                carousels := t.carousels } ∧
          ∀ k, t.carousel k =
            if (s.carousel k).region = some g then { (s.carousel k).settled with cursor := none, interval := none }
            else s.carousel k))

/-- R143, R144, R159, R160: at a slot instant of a RUNNING region exactly one packet is begun: the slot clock moves on by
one slot, from a new base where a pending rate takes effect; every feed bound to the region begins that packet and carries
it to the next instant; and the packet counts among the last 65,536 as null or not. No other region, carousel or feed
changes. At any other moment, and for a STOPPED region, nothing happens (log entry 15). -/
def Obligations.SlotInstantBeginsOnePacket : Prop :=
  ∀ (g : RegionId) (r : Region) (s : State), r = s.region g →
    ((∀ c, r.clk = some c → c.next ≠ s.clock) → exec (.slotInstant g) s = .next s) ∧
    ∀ c c' rate, r.clk = some c → c.next = s.clock →
      ((r.pendingRate = none ∧ rate = r.rate ∧ c' = c.after rate) ∨
        (r.pendingRate = some rate ∧
          c' = SlotClock.after { base := s.clock, next := s.clock, acc := 0, index := 0 } rate)) →
        ∃ t p, exec (.slotInstant g) s = .next t ∧ OnlyInstant g s t ∧ FeedsCarry g p s t ∧
          (t.region g).clk = some c' ∧ (t.region g).rate = rate ∧ (t.region g).pendingRate = none ∧
          (t.region g).nulls = (decide ((t.region g).lastBegun = .null) :: r.nulls).take 65536 ∧
          (t.region g).mode = r.mode ∧ (t.region g).delayMs = r.delayMs ∧ (t.region g).ageMs = r.ageMs

/-- R148, R149, R150, R151, R176: at a slot instant the heads that have waited longer than their limits are discarded, each
queue up to the first that has not, with LATE_DISCARD of class DEGRADED and AGE_DISCARD of class NOTE, and their references
are dropped. Then, unless ROTATE gives the main queue its turn, the carousel first in turn with a packet due is chosen;
else the main queue's head, else the expendable queue's, else a null packet.

R153, R154, R155, R158, R176: the discontinuities that discarded entries would have set are owed in the record of their
identifier, and a drain record whose identifier no queued entry carries any more is gone. The packet begun takes the next
count of its identifier's record, the registry entry or else the drain record, which then holds it; a queued packet pays
an owed discontinuity where it can, and a carousel packet never does. -/
def Obligations.SlotInstantDiscardsAndChooses : Prop :=
  ∀ (g : RegionId) (c : SlotClock) (r : Region) (dropped mq eq : List QEntry) (gone : List Nat) (s : State),
    r = s.region g → r.clk = some c → c.next = s.clock →
    mq = r.mainQ.dropWhile (fun e => e.over r.delayMs s.clock) →
    eq = r.expQ.dropWhile (fun e => e.over r.ageMs s.clock) →
    dropped = (r.mainQ.takeWhile fun e => e.over r.delayMs s.clock) ++
      (r.expQ.takeWhile fun e => e.over r.ageMs s.clock) →
    gone = dropped.map QEntry.buf →
    ∃ t, exec (.slotInstant g) s = .next t ∧
      (mq ≠ r.mainQ → t.detected.degraded = true) ∧ (eq ≠ r.expQ → t.detected.note = true) ∧
      (¬(r.mode = .rotate ∧ r.lastBegun = .carousel ∧ mq ≠ []) → ∀ k i p, (s.carousel k).region = some g →
        (s.carousel k).cursor = some i → (s.carousel k).live[i]? = some p →
        (∀ h j, (s.carousel h).region = some g → (s.carousel h).cursor = some j → j < (s.carousel h).live.length →
          r.carouselTurn k ≤ r.carouselTurn h) →
          (t.region g).lastBegun = .carousel ∧ (t.region g).lastCarousel = some k ∧ (t.region g).mainQ = mq ∧
            (t.region g).expQ = eq ∧ t.pool = droppedFrom gone s.pool ∧ (∃ n, FeedsCarry g (setContinuity n p) s t) ∧
            ∀ n, n = (if carriesPayload p then r.lastCount (ident p) + 1 else r.lastCount (ident p)) →
              r.lookup (ident p) ≠ none →
                FeedsCarry g (setContinuity n p) s t ∧
                ((s.carousel k).swapPending = false ∨ i + 1 < (s.carousel k).live.length →
                  ∀ j, r.keepsRecord (t.region g) j (if j = ident p then n else r.lastCount j)
                    (r.owedAfter dropped j))) ∧
      ((r.mode = .rotate ∧ r.lastBegun = .carousel ∧ mq ≠ []) ∨
          (∀ h j, (s.carousel h).region = some g → (s.carousel h).cursor = some j →
            (s.carousel h).live.length ≤ j) →
        t.carousels = s.carousels ∧ (t.region g).lastCarousel = r.lastCarousel ∧
        (∀ e rest, mq = e :: rest →
          (t.region g).lastBegun = .main ∧ (t.region g).mainQ = rest ∧ (t.region g).expQ = eq ∧
            t.pool = droppedFrom (gone ++ [e.buf]) s.pool ∧
            BegunFrom g r dropped e (bufferPacket (droppedFrom gone s.pool) e.buf) s t) ∧
        (∀ e rest, mq = [] → eq = e :: rest →
          (t.region g).lastBegun = .expendable ∧ (t.region g).mainQ = [] ∧ (t.region g).expQ = rest ∧
            t.pool = droppedFrom (gone ++ [e.buf]) s.pool ∧
            BegunFrom g r dropped e (bufferPacket (droppedFrom gone s.pool) e.buf) s t) ∧
        (mq = [] → eq = [] →
          (t.region g).lastBegun = .null ∧ (t.region g).mainQ = [] ∧ (t.region g).expQ = [] ∧
            (t.region g).registry.map RegEntry.last = r.registry.map RegEntry.last ∧
            (∀ j, r.keepsRecord (t.region g) j (r.lastCount j) (r.owedAfter dropped j)) ∧
            t.pool = droppedFrom gone s.pool ∧ FeedsCarry g nullPacket s t))

/-- R152, R153, R154, R156: the output copy of a queued packet. It carries the entry's identifier, with the flags beside it
as they arrived; the next continuity count of that identifier; the discontinuity flag where the entry sets it or pays one
that is owed; and, where the entry bears the clock and the packet a clock sample, the sample moved forward by the
residence, with the six bits between base and extension kept. Every other byte leaves as it arrived.

R152, R153, R154, R158, R160: a packet that a slot instant takes from the head of a queue with nothing discarded leaves on
the feeds as its output copy, formed from its pool buffer; the record of its identifier, the registry entry or else the
drain record, then holds the count written, and a discontinuity that the packet paid is owed no longer. -/
def Obligations.OutputCopyDrawsOnTheRegistry : Prop :=
  (∀ (r : Region) (e : QEntry) (p q : Packet) (t : Clock), Packet.wf p = true → (e.setDisc = true → hasSample p = true) →
      q = r.outputCopy e p t →
        Packet.wf q = true ∧ ident q = e.out ∧
        (byteAt q 1).extractLsb' 5 3 = (byteAt p 1).extractLsb' 5 3 ∧
        continuity q = (if carriesPayload p then r.lastCount e.out + 1 else r.lastCount e.out) ∧
        (byteAt q 3).extractLsb' 4 4 = (byteAt p 3).extractLsb' 4 4 ∧ byteAt q 4 = byteAt p 4 ∧
        byteAt q 5 = (if e.setDisc = true ∨ (e.clockBearing = true ∧ hasSample p = true ∧ r.isOwed e.out = true) then
          byteAt p 5 ||| 0x80 else byteAt p 5) ∧
        (e.clockBearing = true ∧ hasSample p = true →
          sampleValue q = (sampleValue p + (t - e.arrival).toNat) % 2576980377600 ∧ sampleExt q < 300 ∧
            sampleField q / 512 % 64 = sampleField p / 512 % 64) ∧
        (¬(e.clockBearing = true ∧ hasSample p = true) → sampleField q = sampleField p) ∧ q.drop 12 = p.drop 12) ∧
  (∀ (g : RegionId) (c : SlotClock) (r : Region) (e : QEntry) (rest : List QEntry) (s : State), r = s.region g →
      r.clk = some c → c.next = s.clock →
      (∀ h j, (s.carousel h).region = some g → (s.carousel h).cursor = some j → (s.carousel h).live.length ≤ j) →
      (∀ x ∈ r.mainQ.head?, x.over r.delayMs s.clock = false) → (∀ x ∈ r.expQ.head?, x.over r.ageMs s.clock = false) →
      (r.mainQ = e :: rest ∨ (r.mainQ = [] ∧ r.expQ = e :: rest)) →
        ∃ t, exec (.slotInstant g) s = .next t ∧
          FeedsCarry g (r.outputCopy e (bufferPacket s.pool e.buf) s.clock) s t ∧
          BegunFrom g r [] e (bufferPacket s.pool e.buf) s t)

/-- R160, R161, R162: FEED_BIND to another region, or to none, cuts off the packet in progress, and to the same region
changes nothing; it replies with all sixteen bindings. A feed whose region has stopped goes idle at the end of its
packet; before that, on an idle feed and on one of a RUNNING region FEED_GOES_IDLE does nothing (the model's choice, log
entry 15). The bytes of the reply where R200 leaves their layout
open are the model's choice (log entries 9 to 14). -/
def Obligations.FeedsBindAndGoIdle : Prop :=
  (∀ (fd : FeedId) (x : Option RegionId) (s t : State), canTake .management s →
    t = (if (s.feed fd).bound = x then s else s.setFeed fd { bound := x, out := none }) →
      Answers .management 0x2D (e1 fd ++ eOpt (fun g : RegionId => e1 g) x) s
        ((List.finRange 16).flatMap fun f => eOpt (fun g : RegionId => e1 g) (t.feed f).bound) t) ∧
  ∀ (fd : FeedId) (s : State),
    ((s.feed fd).out = none → exec (.feedGoesIdle fd) s = .next s) ∧
    (∀ g, (s.feed fd).bound = some g → (s.region g).clk ≠ none → exec (.feedGoesIdle fd) s = .next s) ∧
    ∀ o, (s.feed fd).out = some o → (∀ g, (s.feed fd).bound = some g → (s.region g).clk = none) →
      exec (.feedGoesIdle fd) s =
        .next (if (o.ends - o.begun).toNat ≤ (s.clock - o.begun).toNat then
          s.setFeed fd { s.feed fd with out := none } else s)

/-! ## Carousels and capture -/

/-- R165: CAROUSEL_CONFIG writes the settings it carries, with the interval clamped, and keeps the others. A change of
region is refused IN_USE while the carousel runs, and otherwise moves its live list's registrations from the old region
to the new, or is refused CONFLICT or FULL where they do not fit. That a conflict is looked for before room is the model's
reading (log entry 17), and that a move keeps the cycle start time its choice (log entry 33).

R164, R166: CAROUSEL_APPEND adds up to 8 packets to the building list, or begins it anew, and replies with its length
and the free buffers. A packet that does not begin with the sync byte or has the null identifier is refused BAD_FIELD,
a pending swap IN_USE, and a list beyond 64 packets or carousel memory FULL, in this order. The bytes of the reply
where R200 leaves their layout open are the model's choice (log entries 9 to 14). -/
def Obligations.CarouselConfigAndAppend : Prop :=
  (∀ (k : CarouselId) (region : Option RegionId) (interval : Option Nat) (mode : Option CarMode) (c new : Carousel)
      (body reply : List Byte) (s : State), canTake .management s → (∀ x ∈ interval, x < 2 ^ 32) → c = s.carousel k →
      new = { c with
        region := region.or c.region, intervalMs := (interval.map fun x => min 30000 (max 10 x)).getD c.intervalMs
        mode := mode.getD c.mode } →
      body = e1 k ++ eOpt (fun g : RegionId => e1 g) region ++ eOpt e4 interval ++
        eOpt (fun m => e1 (CarMode.code m)) mode →
      reply = eOpt (fun g : RegionId => e1 g) new.region ++ e4 new.intervalMs ++ e1 new.mode.code →
        (new.region = c.region → Answers .management 0x2E body s reply (s.setCarousel k new)) ∧
        ∀ g, region = some g → c.region ≠ some g →
          (c.state = .running → Refuses .management 0x2E body s .inUse []) ∧
          (c.state ≠ .running →
            (∀ pre x post e, carouselWants k c.live = pre ++ x :: post →
              (∀ y ∈ pre, ∀ z ∈ (s.region g).registry, z.ident = y.1 → z.definer = y.2) →
              (s.region g).registry.find? (fun z => z.ident == x.1) = some e → e.definer ≠ x.2 →
                Refuses .management 0x2E body s .conflict [.region g, e.definer.obj]) ∧
            ((∀ x ∈ carouselWants k c.live, ∀ e ∈ (s.region g).registry, e.ident ≠ x.1) →
              192 < (s.region g).registry.length + (distinctIdents c.live).length →
                Refuses .management 0x2E body s .full [.region g]) ∧
            ((s.region g).registry.length + (distinctIdents c.live).length ≤ 192 →
              (∀ x ∈ carouselWants k c.live, ∀ e ∈ (s.region g).registry, e.ident = x.1 → e.definer = x.2) →
                ∃ t, Answers .management 0x2E body s reply t ∧ t = { s.setCarousel k new with regions := t.regions } ∧
                  Registers (fun _ => false) (carouselWants k c.live) (s.region g) (t.region g) ∧
                  ∀ h, h ≠ g →
                    t.region h =
                      if c.region = some h then (s.region h).without fun e => decide (e.definer = .carousel k)
                      else s.region h))) ∧
  (∀ (k : CarouselId) (fresh : Bool) (ps kept : List Packet) (c : Carousel) (body : List Byte) (free : Nat) (s : State),
      canTake .management s → c = s.carousel k → (∀ p ∈ ps, p.length = 188) →
      body = e1 k ++ e1 fresh.toNat ++ eList (fun p : Packet => p) ps → kept = (if fresh then [] else c.building) →
      free = s.carouselFree + (c.building.length - kept.length) →
        (8 < ps.length → ps.length < 256 → Refuses .management 0x2F body s .badField []) ∧
        (ps.length ≤ 8 →
          ((∃ p ∈ ps, byteAt p 0 ≠ 0x47 ∨ ident p = 8191) → Refuses .management 0x2F body s .badField []) ∧
          ((∀ p ∈ ps, byteAt p 0 = 0x47 ∧ ident p ≠ 8191) →
            (c.swapPending = true → Refuses .management 0x2F body s .inUse []) ∧
            (c.swapPending = false → 64 < kept.length + ps.length ∨ free < ps.length →
              Refuses .management 0x2F body s .full []) ∧
            (c.swapPending = false → kept.length + ps.length ≤ 64 → ps.length ≤ free →
              ∃ t, t = s.setCarousel k { c with building := kept ++ ps } ∧
                Answers .management 0x2F body s (e2 (kept.length + ps.length) ++ e2 t.carouselFree) t))))

/-- R167, R168: CAROUSEL_SWAP is refused BAD_FIELD without a region, IN_USE while a swap is pending, EMPTY without a
building list, and CONFLICT or FULL where an identifier cannot be registered. Taken, it registers the building list's
identifiers and tells which are new. Between cycles the building list becomes the live list at once, and the
identifiers it does not use are given up; in a cycle the swap waits. That a conflict is looked for before room is the
model's reading (log entry 17). The bytes of the reply where R200 leaves their
layout open are the model's choice (log entries 9 to 14). -/
def Obligations.CarouselSwapTakesTheBuildingList : Prop :=
  ∀ (k : CarouselId) (c : Carousel) (s : State), canTake .management s → c = s.carousel k →
    (c.region = none → Refuses .management 0x30 (e1 k) s .badField []) ∧
    ∀ g, c.region = some g →
      (c.swapPending = true → Refuses .management 0x30 (e1 k) s .inUse []) ∧
      (c.swapPending = false → c.building = [] → Refuses .management 0x30 (e1 k) s .empty []) ∧
      (c.swapPending = false → c.building ≠ [] →
        (∀ pre x post e, carouselWants k c.building = pre ++ x :: post →
          (∀ y ∈ pre, ∀ z ∈ (s.region g).registry, z.ident = y.1 → z.definer = y.2) →
          (s.region g).registry.find? (fun z => z.ident == x.1) = some e → e.definer ≠ x.2 →
            Refuses .management 0x30 (e1 k) s .conflict [.region g, e.definer.obj]) ∧
        ((∀ x ∈ carouselWants k c.building, ∀ e ∈ (s.region g).registry, e.ident ≠ x.1) →
          192 < (s.region g).registry.length + (distinctIdents c.building).length →
            Refuses .management 0x30 (e1 k) s .full [.region g]) ∧
        ((s.region g).registry.length + (distinctIdents c.building).length ≤ 192 →
          (∀ x ∈ carouselWants k c.building, ∀ e ∈ (s.region g).registry, e.ident = x.1 → e.definer = x.2) →
            ∀ added, added = eList (fun i : Ident => e2 i.toNat)
              ((distinctIdents c.building).filter fun i => (s.region g).registry.all fun e => e.ident != i) →
              (c.cursor = none →
                ∃ t, Answers .management 0x30 (e1 k) s ([1] ++ added) t ∧
                  t = { s.setCarousel k { c with live := c.building, building := [] } with regions := t.regions } ∧
                  Registers (fun e => decide (e.definer = .carousel k)) (carouselWants k c.building) (s.region g)
                    (t.region g) ∧
                  ∀ h, h ≠ g → t.region h = s.region h) ∧
              (c.cursor ≠ none →
                ∃ t, Answers .management 0x30 (e1 k) s ([0] ++ added) t ∧
                  t = { s.setCarousel k { c with swapPending := true } with regions := t.regions } ∧
                  Registers (fun _ => false) (carouselWants k c.building) (s.region g) (t.region g) ∧
                  ∀ h, h ≠ g → t.region h = s.region h)))

/-- R169, R170, R173, R174, R177: CAROUSEL_START, refused BAD_FIELD without a region and EMPTY without a live list,
makes an IDLE or DONE carousel RUNNING and begins its cycle where its region is RUNNING; CAROUSEL_STOP ends the cycle
and makes a RUNNING or DONE carousel IDLE; CAROUSEL_CLEAR, refused IN_USE for a RUNNING one, empties both lists and
gives up the registrations; CAROUSEL_READ reports and changes nothing. R168, R173: a swap that is pending when
CAROUSEL_STOP ends the cycle takes effect with it: the building list becomes the live list, and the identifiers it does
not use are given up. That CAROUSEL_START makes the cycle start absent where it begins no cycle is the model's reading (log
entry 28). The bytes of the reply where R200 leaves their layout open are the model's choice (log entries 9 to 14). -/
def Obligations.CarouselRequestsStartStopClearAndRead : Prop :=
  ∀ (k : CarouselId) (c : Carousel) (s : State), c = s.carousel k →
    (canTake .management s →
      (c.region = none → Refuses .management 0x31 (e1 k) s .badField []) ∧
      (∀ g, c.region = some g →
        (c.live = [] → Refuses .management 0x31 (e1 k) s .empty []) ∧
        (c.live ≠ [] →
          (c.state = .running → Answers .management 0x31 (e1 k) s [1, 0] s) ∧
          (c.state ≠ .running → (s.region g).clk = none →
            Answers .management 0x31 (e1 k) s [1, 0] (s.setCarousel k { c with state := .running, cycleStart := none })) ∧
          (c.state ≠ .running → (s.region g).clk ≠ none →
            Answers .management 0x31 (e1 k) s ([1, 1] ++ e6 s.clock.toNat)
              (s.setCarousel k { c.cycling s.clock with state := .running })))) ∧
      (c.state = .idle → Answers .management 0x32 (e1 k) s (e1 0 ++ e2 c.stillDue) s) ∧
      (c.state ≠ .idle → c.swapPending = false →
        Answers .management 0x32 (e1 k) s (e1 c.state.code ++ e2 c.stillDue)
          (s.setCarousel k { c with state := .idle, cursor := none, interval := none })) ∧
      (∀ g, c.state ≠ .idle → c.swapPending = true → c.region = some g →
        ∃ t, Answers .management 0x32 (e1 k) s (e1 c.state.code ++ e2 c.stillDue) t ∧
          t = { s.setCarousel k { c.settled with state := .idle, cursor := none, interval := none }
                with regions := t.regions } ∧
          Registers (fun e => decide (e.definer = .carousel k)) (carouselWants k c.building) (s.region g) (t.region g) ∧
          ∀ h, h ≠ g → t.region h = s.region h) ∧
      (c.state = .running → Refuses .management 0x34 (e1 k) s .inUse []) ∧
      (c.state ≠ .running →
        ∃ t, Answers .management 0x34 (e1 k) s (e2 (c.live.length + c.building.length)) t ∧
          t = { s.setCarousel k { c with state := .idle, live := [], building := [] } with regions := t.regions } ∧
          ∀ g, t.region g =
            if c.region = some g then (s.region g).without fun e => decide (e.definer = .carousel k)
            else s.region g)) ∧
    ∀ l, canTake l s →
      Answers l 0x33 (e1 k) s
        (eOpt (fun g : RegionId => e1 g) c.region ++ e4 c.intervalMs ++ e1 c.mode.code ++ e1 c.state.code ++
          e2 c.live.length ++ e2 c.building.length ++ eList (fun p : Packet => e2 (ident p).toNat) c.live ++
          eList (fun p : Packet => e2 (ident p).toNat) c.building ++ e1 c.swapPending.toNat ++
          eOpt (fun i => e1 i ++ e2 (c.live.length - i)) c.cursor ++ eOpt (fun t : Clock => e6 t.toNat) c.cycleStart ++
          (match c.interval with
            | none => [0]
            | some (d, false) => [1] ++ e6 (d.len - (s.clock - d.set).toNat)
            | some (_, true) => [2]) ++
          e2 s.carouselFree) s

/-- R168, R170, R171, R172: a carousel packet begun at a slot instant, where ROTATE does not give the main queue its turn
(R149), moves the cursor on. Past the last packet the cycle finishes: a SINGLE carousel is DONE; a CONTINUOUS one waits
for its interval deadline, or, when that was reached in the cycle, begins the next at once with NOTE CAROUSEL_LATE; and a
pending swap takes effect: the registrations that the new list does not use are given up, and stay as drain records while
queued packets carry them (here those of the new list stand, as CAROUSEL_SWAP left them). At the deadline a RUNNING
carousel between cycles begins the next, and one in a cycle is marked; before it nothing happens (log entry 15). That the
deadline of a SINGLE carousel's cycle is marked too is the model's choice (log entry 25). -/
def Obligations.CarouselCyclesRepeat : Prop :=
  (∀ (g : RegionId) (k : CarouselId) (c done : Carousel) (i : Nat) (x : SlotClock) (s t : State), c = s.carousel k →
    (s.region g).clk = some x → x.next = s.clock → c.region = some g → c.cursor = some i → i < c.live.length →
    ¬((s.region g).mode = .rotate ∧ (s.region g).lastBegun = .carousel ∧
      (s.region g).mainQ.dropWhile (fun e => e.over (s.region g).delayMs s.clock) ≠ []) →
    (∀ h j, (s.carousel h).region = some g → (s.carousel h).cursor = some j → j < (s.carousel h).live.length →
      (s.region g).carouselTurn k ≤ (s.region g).carouselTurn h) →
    done = { c.settled with cursor := none } → exec (.slotInstant g) s = .next t →
      (∀ h, h ≠ k → t.carousel h = s.carousel h) ∧
      (i + 1 < c.live.length ∨ c.swapPending = false → (t.region g).definers = (s.region g).definers) ∧
      (i + 1 = c.live.length → c.swapPending = true → (s.region g).holdsBuilding k c →
        (t.region g).definers = (s.region g).definers.filter (keptBySwap k c) ∧
        ∀ y ∈ (s.region g).definers, keptBySwap k c y = false →
          ((∃ d ∈ (t.region g).drains, d.ident = y.1) ↔ ∃ q ∈ (t.region g).mainQ ++ (t.region g).expQ, q.out = y.1)) ∧
      (i + 1 < c.live.length → t.carousel k = { c with cursor := some (i + 1) }) ∧
      (i + 1 = c.live.length →
        (c.mode = .single → t.carousel k = { done with state := .done, interval := none }) ∧
        (c.mode = .continuous → (∀ d, c.interval ≠ some (d, true)) → t.carousel k = done) ∧
        ∀ d, c.mode = .continuous → c.interval = some (d, true) →
          t.carousel k = done.cycling s.clock ∧ t.detected.note = true)) ∧
  ∀ (k : CarouselId) (c : Carousel) (s : State), c = s.carousel k →
    ((c.state ≠ .running ∨ c.interval = none ∨ ∃ d, c.interval = some (d, true)) →
      exec (.carouselIntervalDeadline k) s = .next s) ∧
    ∀ d : Deadline, c.interval = some (d, false) →
      ((s.clock - d.set).toNat < d.len → exec (.carouselIntervalDeadline k) s = .next s) ∧
      (d.len ≤ (s.clock - d.set).toNat → c.state = .running →
        (c.cursor = none → exec (.carouselIntervalDeadline k) s = .next (s.setCarousel k (c.cycling s.clock))) ∧
        (c.cursor ≠ none →
          exec (.carouselIntervalDeadline k) s = .next (s.setCarousel k { c with interval := some (d, true) })))

/-- R63, R182, R183: CAPTURE_READ reports the oldest 1 to 8 entries with their packets and changes nothing; CAPTURE_RELEASE
removes the n oldest, or all there are, and drops their references. The cue link refuses both NOT_PERMITTED. -/
def Obligations.CaptureReadAndRelease : Prop :=
  (∀ (n : Nat) (s : State), canTake .management s → n < 65536 →
    Answers .management 0x35 (e2 n) s
      (e2 (min 8 (max 1 n)) ++ e2 s.capture.length ++
        eList (fun x : CapEntry × Nat =>
            e1 x.2 ++ e1 x.1.reason.code ++ e1 x.1.port ++ e6 x.1.arrival.toNat ++ bufferPacket s.pool x.1.buf)
          (s.capture.zipIdx.take (min 8 (max 1 n)))) s ∧
    Answers .management 0x36 (e2 n) s
      (e2 (min s.capture.length n) ++ e2 (s.capture.length - min s.capture.length n))
      { s with
        capture := s.capture.drop n
        pool := droppedFrom ((s.capture.take n).map CapEntry.buf) s.pool }) ∧
  ∀ (body : List Byte) (s : State), canTake .cue s →
    Refuses .cue 0x35 body s .notPermitted [] ∧ Refuses .cue 0x36 body s .notPermitted []

/-! ## Invariants that every step keeps -/

/-- R142, R144: every step keeps each region's slot clock exact: slot k of the schedule lies floor(k × N / R) ticks after
its base. -/
def Obligations.StepKeepsSlotClocksExact : Prop := ∀ s t : State, s.clocksOk → step s = .next t → t.clocksOk

/-- R65, R68: every step keeps each DEFINED meter within its ranges, and its credit within its cap. -/
def Obligations.StepKeepsMeterCreditWithinItsCap : Prop := ∀ s t : State, s.metersOk → step s = .next t → t.metersOk

/-- R60, R63: every step keeps the reference counts of the pool true. -/
def Obligations.StepKeepsPoolCountsTrue : Prop := ∀ s t : State, s.poolOk → step s = .next t → t.poolOk

/-- R157, R158: every step keeps one definer for each identifier of a region's registry, and no drain record beside a
registration. -/
def Obligations.StepKeepsOneDefinerPerIdentifier : Prop := ∀ s t : State, s.namesOk → step s = .next t → t.namesOk

/-- 7.1, R118, R120, R130: every step keeps each STEADY route on the source it is meant to carry, and each route that waits
on a cue or a take free of a hold. -/
def Obligations.StepKeepsRoutesConsistent : Prop := ∀ s t : State, s.routesOk → step s = .next t → t.routesOk

/-- The state after reset meets every invariant. -/
def Obligations.ResetMeetsTheInvariants : Prop :=
  State.reset.clocksOk ∧ State.reset.metersOk ∧ State.reset.poolOk ∧ State.reset.namesOk ∧ State.reset.routesOk ∧
    State.reset.linksOk
end

