-- ==== Sys2Proof/Laws/Operands.lean ====
section
/-!
SUPPORT. What a reader takes from what a writer wrote: one lemma for each item of R200.
-/
namespace Sys2Proof.Machine

theorem be_length (k n : Nat) : (be k n).length = k := by
  induction k generalizing n with
  | zero => rfl
  | succ k ih => simp [be, ih]

theorem be_toNat (x : Nat) : (BitVec.ofNat 8 x).toNat = x % 256 := by simp

theorem rNatFrom_be (k n acc : Nat) (rest : List Byte) :
    rNatFrom k acc (be k n ++ rest) = some (acc * 256 ^ k + n % 256 ^ k, rest) := by
  induction k generalizing acc with
  | zero => simp [rNatFrom, be, Nat.mod_one]
  | succ k ih =>
    simp only [be, List.cons_append, rNatFrom, ih, be_toNat, Option.some.injEq, Prod.mk.injEq, and_true]
    have h : n % 256 ^ (k + 1) = n / 256 ^ k % 256 * 256 ^ k + n % 256 ^ k := by
      rw [pow_succ, Nat.mod_mul, Nat.mul_comm (256 ^ k), Nat.add_comm]
    rw [h, pow_succ]
    ring

/-- A number is read as it was written, when it fits its width. -/
theorem rNat_be (k n : Nat) (rest : List Byte) (h : n < 256 ^ k) : rNat k (be k n ++ rest) = some (n, rest) := by
  simp [rNat, rNatFrom_be, Nat.mod_eq_of_lt h]

theorem rNat_e1 (n : Nat) (rest : List Byte) (h : n < 256) : rNat 1 (e1 n ++ rest) = some (n, rest) :=
  rNat_be 1 n rest (by simpa using h)

theorem rNat_e2 (n : Nat) (rest : List Byte) (h : n < 65536) : rNat 2 (e2 n ++ rest) = some (n, rest) :=
  rNat_be 2 n rest (by simpa using h)

theorem rNat_e4 (n : Nat) (rest : List Byte) (h : n < 4294967296) : rNat 4 (e4 n ++ rest) = some (n, rest) :=
  rNat_be 4 n rest (by simpa using h)

theorem rNat_e6 (n : Nat) (rest : List Byte) (h : n < 281474976710656) : rNat 6 (e6 n ++ rest) = some (n, rest) :=
  rNat_be 6 n rest (by simpa using h)

theorem e1_eq (n : Nat) : e1 n = [BitVec.ofNat 8 n] := by simp [e1, be]

/-- An index is read as it was written. -/
theorem rIndex_e1 {n : Nat} (i : Fin n) (hn : n ≤ 256) (rest : List Byte) : rIndex n (e1 i ++ rest) = some (i, rest) := by
  have hi : (i : Nat) % 256 = i := Nat.mod_eq_of_lt (by omega)
  simp [e1_eq, rIndex, hi]

/-- A value of an enumeration is read as its position was written. -/
theorem rEnum_e1 {α : Type} (values : List α) (i : Nat) (v : α) (rest : List Byte) (hi : i < 256)
    (h : values[i]? = some v) : rEnum values (e1 i ++ rest) = some (v, rest) := by
  have hi' : i % 256 = i := Nat.mod_eq_of_lt hi
  simp [e1_eq, rEnum, hi', h]

theorem rFlag_eFlag (b : Bool) (rest : List Byte) : rFlag (eFlag b ++ rest) = some (b, rest) := by
  cases b <;> rfl

/-- An identifier or mask is read as it was written. -/
theorem rIdent_e2 (i : Ident) (rest : List Byte) : rIdent (e2 i.toNat ++ rest) = some (i, rest) := by
  have h : i.toNat < 8192 := i.isLt
  simp [rIdent, rNat_e2 _ _ (show i.toNat < 65536 by omega), h]

theorem rOpt_none {α : Type} (r : Reader α) (w : α → List Byte) (rest : List Byte) :
    rOpt r (eOpt w none ++ rest) = some (none, rest) := by simp [rOpt, eOpt]

/-- A present optional field is read as it was written. -/
theorem rOpt_some {α : Type} (r : Reader α) (w : α → List Byte) (a : α) (rest : List Byte)
    (h : r (w a ++ rest) = some (a, rest)) : rOpt r (eOpt w (some a) ++ rest) = some (some a, rest) := by
  simp [rOpt, eOpt, h]

/-- One item after another is read as they were written. -/
theorem rThen_some {α β : Type} (r : Reader α) (q : Reader β) (b b1 b2 : List Byte) (x : α) (y : β)
    (h : r b = some (x, b1)) (h' : q b1 = some (y, b2)) : rThen r q b = some ((x, y), b2) := by
  simp [rThen, h, h']

theorem rWhen_some {α : Type} (r : Reader α) (ok : α → Bool) (b rest : List Byte) (x : α)
    (h : r b = some (x, rest)) (hx : ok x = true) : rWhen r ok b = some (x, rest) := by
  simp [rWhen, h, hx]

/-- A body is read whole when its reader leaves nothing. -/
theorem readAll_some {α : Type} (r : Reader α) (b : List Byte) (x : α) (h : r b = some (x, [])) :
    readAll r b = some x := by simp [readAll, h]

/-- A list's entries are read as they were written. -/
theorem rMany_flatMap {α : Type} (r : Reader α) (w : α → List Byte) (l : List α) (rest : List Byte)
    (h : ∀ a ∈ l, ∀ b, r (w a ++ b) = some (a, b)) : rMany r l.length (l.flatMap w ++ rest) = some (l, rest) := by
  induction l with
  | nil => simp [rMany]
  | cons a l ih =>
    have ha := h a (by simp) (l.flatMap w ++ rest)
    have hl := ih fun x hx => h x (by simp [hx])
    simp [rMany, ha, hl]

theorem rList_eList {α : Type} (most : Nat) (r : Reader α) (w : α → List Byte) (l : List α) (rest : List Byte)
    (hm : l.length ≤ most) (h256 : l.length < 256) (h : ∀ a ∈ l, ∀ b, r (w a ++ b) = some (a, b)) :
    rList most r (eList w l ++ rest) = some (l, rest) := by
  have hl : l.length % 256 = l.length := Nat.mod_eq_of_lt h256
  simp [rList, eList, e1_eq, hl, hm, rMany_flatMap r w l rest h]

/-- A target is read as it was written. -/
theorem rTarget_eTarget (t : Target) (rest : List Byte) : rTarget (eTarget t ++ rest) = some (t, rest) := by
  cases t with
  | national => simp [rTarget, eTarget, eSource, Target.source, Source.code, e1_eq]
  | variant v =>
    have hv : (v : Nat) % 256 = v := Nat.mod_eq_of_lt (by omega)
    have hne : BitVec.ofNat 8 (v : Nat) ≠ 255#8 := fun e => by
      have := congrArg BitVec.toNat e
      simp [hv] at this
      omega
    simp [rTarget, eTarget, eSource, Target.source, Source.code, e1_eq, hv, hne]

/-- A station time is read as it was written. -/
theorem rStation_eStation (n : Nat) (rest : List Byte) (h : n < Config.stationSpan) :
    rStation (eStation n ++ rest) = some (n, rest) := by
  have hd : n / Config.dayTicks < 65536 := Nat.div_lt_of_lt_mul (by simpa [Config.stationSpan, Config.dayTicks] using h)
  have ht : n % Config.dayTicks < Config.dayTicks := Nat.mod_lt _ (by simp [Config.dayTicks])
  have ht' : n % Config.dayTicks < 281474976710656 := lt_trans ht (by simp [Config.dayTicks])
  have hs : n / Config.dayTicks * Config.dayTicks + n % Config.dayTicks = n := by
    rw [Nat.mul_comm]; exact Nat.div_add_mod n Config.dayTicks
  simp [rStation, eStation, List.append_assoc, rNat_e2 _ _ hd, rNat_e6 _ _ ht', ht, hs]

end Sys2Proof.Machine
end

