-- ==== Sys2Proof/Laws/State.lean ====
section
/-!
SUPPORT. What each setter of one record leaves alone and what it changes: one lemma for each field of `State` and for
each accessor, so that no proof unfolds a record update.
-/
namespace Sys2Proof.Machine

variable (s : State)

/-! ## setPort -/

@[simp] theorem State.setPort_clock (p : PortId) (x : Port) : (s.setPort p x).clock = s.clock := rfl
@[simp] theorem State.setPort_offset (p : PortId) (x : Port) : (s.setPort p x).offset = s.offset := rfl
@[simp] theorem State.setPort_lastServed (p : PortId) (x : Port) : (s.setPort p x).lastServed = s.lastServed := rfl
@[simp] theorem State.setPort_components (p : PortId) (x : Port) : (s.setPort p x).components = s.components := rfl
@[simp] theorem State.setPort_pool (p : PortId) (x : Port) : (s.setPort p x).pool = s.pool := rfl
@[simp] theorem State.setPort_meters (p : PortId) (x : Port) : (s.setPort p x).meters = s.meters := rfl
@[simp] theorem State.setPort_slots (p : PortId) (x : Port) : (s.setPort p x).slots = s.slots := rfl
@[simp] theorem State.setPort_variants (p : PortId) (x : Port) : (s.setPort p x).variants = s.variants := rfl
@[simp] theorem State.setPort_cues (p : PortId) (x : Port) : (s.setPort p x).cues = s.cues := rfl
@[simp] theorem State.setPort_insertion (p : PortId) (x : Port) : (s.setPort p x).insertion = s.insertion := rfl
@[simp] theorem State.setPort_changes (p : PortId) (x : Port) : (s.setPort p x).changes = s.changes := rfl
@[simp] theorem State.setPort_falling (p : PortId) (x : Port) : (s.setPort p x).falling = s.falling := rfl
@[simp] theorem State.setPort_routes (p : PortId) (x : Port) : (s.setPort p x).routes = s.routes := rfl
@[simp] theorem State.setPort_tallies (p : PortId) (x : Port) : (s.setPort p x).tallies = s.tallies := rfl
@[simp] theorem State.setPort_claims (p : PortId) (x : Port) : (s.setPort p x).claims = s.claims := rfl
@[simp] theorem State.setPort_regions (p : PortId) (x : Port) : (s.setPort p x).regions = s.regions := rfl
@[simp] theorem State.setPort_feeds (p : PortId) (x : Port) : (s.setPort p x).feeds = s.feeds := rfl
@[simp] theorem State.setPort_carousels (p : PortId) (x : Port) : (s.setPort p x).carousels = s.carousels := rfl
@[simp] theorem State.setPort_capture (p : PortId) (x : Port) : (s.setPort p x).capture = s.capture := rfl
@[simp] theorem State.setPort_mgmt (p : PortId) (x : Port) : (s.setPort p x).mgmt = s.mgmt := rfl
@[simp] theorem State.setPort_cueLink (p : PortId) (x : Port) : (s.setPort p x).cueLink = s.cueLink := rfl
@[simp] theorem State.setPort_detected (p : PortId) (x : Port) : (s.setPort p x).detected = s.detected := rfl
@[simp] theorem State.setPort_resetting (p : PortId) (x : Port) : (s.setPort p x).resetting = s.resetting := rfl
@[simp] theorem State.setPort_races (p : PortId) (x : Port) : (s.setPort p x).races = s.races := rfl
@[simp] theorem State.setPort_pending (p : PortId) (x : Port) : (s.setPort p x).pending = s.pending := rfl
@[simp] theorem State.setPort_component_of (p : PortId) (x : Port) (q : ComponentId) : (s.setPort p x).component q = s.component q := rfl
@[simp] theorem State.setPort_meter_of (p : PortId) (x : Port) (q : MeterId) : (s.setPort p x).meter q = s.meter q := rfl
@[simp] theorem State.setPort_slot_of (p : PortId) (x : Port) (q : SlotId) : (s.setPort p x).slot q = s.slot q := rfl
@[simp] theorem State.setPort_variant_of (p : PortId) (x : Port) (q : VariantId) : (s.setPort p x).variant q = s.variant q := rfl
@[simp] theorem State.setPort_route_of (p : PortId) (x : Port) (q : RegionId) (r : SlotId) : (s.setPort p x).route q r = s.route q r := rfl
@[simp] theorem State.setPort_region_of (p : PortId) (x : Port) (q : RegionId) : (s.setPort p x).region q = s.region q := rfl
@[simp] theorem State.setPort_feed_of (p : PortId) (x : Port) (q : FeedId) : (s.setPort p x).feed q = s.feed q := rfl
@[simp] theorem State.setPort_carousel_of (p : PortId) (x : Port) (q : CarouselId) : (s.setPort p x).carousel q = s.carousel q := rfl
@[simp] theorem State.setPort_claimant_of (p : PortId) (x : Port) (q : RegionId) : (s.setPort p x).claimant q = s.claimant q := rfl
@[simp] theorem State.setPort_link_of (p : PortId) (x : Port) (q : Link) : (s.setPort p x).link q = s.link q := rfl
@[simp] theorem State.setPort_port_self (p : PortId) (x : Port) : (s.setPort p x).port p = x := by
  simp [State.setPort, State.port]
theorem State.setPort_port_ne (p : PortId) (x : Port) (q : PortId) (h : p ≠ q) : (s.setPort p x).port q = s.port q := by
  have h' : (p : Nat) ≠ q := fun e => h (Fin.ext e)
  simp [State.setPort, State.port, Vector.getElem_set_ne, h']
@[simp] theorem State.setPort_port (p : PortId) (x : Port) (q : PortId) : (s.setPort p x).port q = if p = q then x else s.port q := by
  by_cases h : p = q
  · subst h; simp
  · rw [State.setPort_port_ne _ _ _ _ h, if_neg h]

/-! ## setComponent -/

@[simp] theorem State.setComponent_clock (c : ComponentId) (x : Option Component) : (s.setComponent c x).clock = s.clock := rfl
@[simp] theorem State.setComponent_offset (c : ComponentId) (x : Option Component) : (s.setComponent c x).offset = s.offset := rfl
@[simp] theorem State.setComponent_ports (c : ComponentId) (x : Option Component) : (s.setComponent c x).ports = s.ports := rfl
@[simp] theorem State.setComponent_lastServed (c : ComponentId) (x : Option Component) : (s.setComponent c x).lastServed = s.lastServed := rfl
@[simp] theorem State.setComponent_pool (c : ComponentId) (x : Option Component) : (s.setComponent c x).pool = s.pool := rfl
@[simp] theorem State.setComponent_meters (c : ComponentId) (x : Option Component) : (s.setComponent c x).meters = s.meters := rfl
@[simp] theorem State.setComponent_slots (c : ComponentId) (x : Option Component) : (s.setComponent c x).slots = s.slots := rfl
@[simp] theorem State.setComponent_variants (c : ComponentId) (x : Option Component) : (s.setComponent c x).variants = s.variants := rfl
@[simp] theorem State.setComponent_cues (c : ComponentId) (x : Option Component) : (s.setComponent c x).cues = s.cues := rfl
@[simp] theorem State.setComponent_insertion (c : ComponentId) (x : Option Component) : (s.setComponent c x).insertion = s.insertion := rfl
@[simp] theorem State.setComponent_changes (c : ComponentId) (x : Option Component) : (s.setComponent c x).changes = s.changes := rfl
@[simp] theorem State.setComponent_falling (c : ComponentId) (x : Option Component) : (s.setComponent c x).falling = s.falling := rfl
@[simp] theorem State.setComponent_routes (c : ComponentId) (x : Option Component) : (s.setComponent c x).routes = s.routes := rfl
@[simp] theorem State.setComponent_tallies (c : ComponentId) (x : Option Component) : (s.setComponent c x).tallies = s.tallies := rfl
@[simp] theorem State.setComponent_claims (c : ComponentId) (x : Option Component) : (s.setComponent c x).claims = s.claims := rfl
@[simp] theorem State.setComponent_regions (c : ComponentId) (x : Option Component) : (s.setComponent c x).regions = s.regions := rfl
@[simp] theorem State.setComponent_feeds (c : ComponentId) (x : Option Component) : (s.setComponent c x).feeds = s.feeds := rfl
@[simp] theorem State.setComponent_carousels (c : ComponentId) (x : Option Component) : (s.setComponent c x).carousels = s.carousels := rfl
@[simp] theorem State.setComponent_capture (c : ComponentId) (x : Option Component) : (s.setComponent c x).capture = s.capture := rfl
@[simp] theorem State.setComponent_mgmt (c : ComponentId) (x : Option Component) : (s.setComponent c x).mgmt = s.mgmt := rfl
@[simp] theorem State.setComponent_cueLink (c : ComponentId) (x : Option Component) : (s.setComponent c x).cueLink = s.cueLink := rfl
@[simp] theorem State.setComponent_detected (c : ComponentId) (x : Option Component) : (s.setComponent c x).detected = s.detected := rfl
@[simp] theorem State.setComponent_resetting (c : ComponentId) (x : Option Component) : (s.setComponent c x).resetting = s.resetting := rfl
@[simp] theorem State.setComponent_races (c : ComponentId) (x : Option Component) : (s.setComponent c x).races = s.races := rfl
@[simp] theorem State.setComponent_pending (c : ComponentId) (x : Option Component) : (s.setComponent c x).pending = s.pending := rfl
@[simp] theorem State.setComponent_port_of (c : ComponentId) (x : Option Component) (q : PortId) : (s.setComponent c x).port q = s.port q := rfl
@[simp] theorem State.setComponent_meter_of (c : ComponentId) (x : Option Component) (q : MeterId) : (s.setComponent c x).meter q = s.meter q := rfl
@[simp] theorem State.setComponent_slot_of (c : ComponentId) (x : Option Component) (q : SlotId) : (s.setComponent c x).slot q = s.slot q := rfl
@[simp] theorem State.setComponent_variant_of (c : ComponentId) (x : Option Component) (q : VariantId) : (s.setComponent c x).variant q = s.variant q := rfl
@[simp] theorem State.setComponent_route_of (c : ComponentId) (x : Option Component) (q : RegionId) (r : SlotId) : (s.setComponent c x).route q r = s.route q r := rfl
@[simp] theorem State.setComponent_region_of (c : ComponentId) (x : Option Component) (q : RegionId) : (s.setComponent c x).region q = s.region q := rfl
@[simp] theorem State.setComponent_feed_of (c : ComponentId) (x : Option Component) (q : FeedId) : (s.setComponent c x).feed q = s.feed q := rfl
@[simp] theorem State.setComponent_carousel_of (c : ComponentId) (x : Option Component) (q : CarouselId) : (s.setComponent c x).carousel q = s.carousel q := rfl
@[simp] theorem State.setComponent_claimant_of (c : ComponentId) (x : Option Component) (q : RegionId) : (s.setComponent c x).claimant q = s.claimant q := rfl
@[simp] theorem State.setComponent_link_of (c : ComponentId) (x : Option Component) (q : Link) : (s.setComponent c x).link q = s.link q := rfl
@[simp] theorem State.setComponent_component_self (c : ComponentId) (x : Option Component) : (s.setComponent c x).component c = x := by
  simp [State.setComponent, State.component]
theorem State.setComponent_component_ne (c : ComponentId) (x : Option Component) (q : ComponentId) (h : c ≠ q) : (s.setComponent c x).component q = s.component q := by
  have h' : (c : Nat) ≠ q := fun e => h (Fin.ext e)
  simp [State.setComponent, State.component, Vector.getElem_set_ne, h']
@[simp] theorem State.setComponent_component (c : ComponentId) (x : Option Component) (q : ComponentId) : (s.setComponent c x).component q = if c = q then x else s.component q := by
  by_cases h : c = q
  · subst h; simp
  · rw [State.setComponent_component_ne _ _ _ _ h, if_neg h]

/-! ## setMeter -/

@[simp] theorem State.setMeter_clock (m : MeterId) (x : Meter) : (s.setMeter m x).clock = s.clock := rfl
@[simp] theorem State.setMeter_offset (m : MeterId) (x : Meter) : (s.setMeter m x).offset = s.offset := rfl
@[simp] theorem State.setMeter_ports (m : MeterId) (x : Meter) : (s.setMeter m x).ports = s.ports := rfl
@[simp] theorem State.setMeter_lastServed (m : MeterId) (x : Meter) : (s.setMeter m x).lastServed = s.lastServed := rfl
@[simp] theorem State.setMeter_components (m : MeterId) (x : Meter) : (s.setMeter m x).components = s.components := rfl
@[simp] theorem State.setMeter_pool (m : MeterId) (x : Meter) : (s.setMeter m x).pool = s.pool := rfl
@[simp] theorem State.setMeter_slots (m : MeterId) (x : Meter) : (s.setMeter m x).slots = s.slots := rfl
@[simp] theorem State.setMeter_variants (m : MeterId) (x : Meter) : (s.setMeter m x).variants = s.variants := rfl
@[simp] theorem State.setMeter_cues (m : MeterId) (x : Meter) : (s.setMeter m x).cues = s.cues := rfl
@[simp] theorem State.setMeter_insertion (m : MeterId) (x : Meter) : (s.setMeter m x).insertion = s.insertion := rfl
@[simp] theorem State.setMeter_changes (m : MeterId) (x : Meter) : (s.setMeter m x).changes = s.changes := rfl
@[simp] theorem State.setMeter_falling (m : MeterId) (x : Meter) : (s.setMeter m x).falling = s.falling := rfl
@[simp] theorem State.setMeter_routes (m : MeterId) (x : Meter) : (s.setMeter m x).routes = s.routes := rfl
@[simp] theorem State.setMeter_tallies (m : MeterId) (x : Meter) : (s.setMeter m x).tallies = s.tallies := rfl
@[simp] theorem State.setMeter_claims (m : MeterId) (x : Meter) : (s.setMeter m x).claims = s.claims := rfl
@[simp] theorem State.setMeter_regions (m : MeterId) (x : Meter) : (s.setMeter m x).regions = s.regions := rfl
@[simp] theorem State.setMeter_feeds (m : MeterId) (x : Meter) : (s.setMeter m x).feeds = s.feeds := rfl
@[simp] theorem State.setMeter_carousels (m : MeterId) (x : Meter) : (s.setMeter m x).carousels = s.carousels := rfl
@[simp] theorem State.setMeter_capture (m : MeterId) (x : Meter) : (s.setMeter m x).capture = s.capture := rfl
@[simp] theorem State.setMeter_mgmt (m : MeterId) (x : Meter) : (s.setMeter m x).mgmt = s.mgmt := rfl
@[simp] theorem State.setMeter_cueLink (m : MeterId) (x : Meter) : (s.setMeter m x).cueLink = s.cueLink := rfl
@[simp] theorem State.setMeter_detected (m : MeterId) (x : Meter) : (s.setMeter m x).detected = s.detected := rfl
@[simp] theorem State.setMeter_resetting (m : MeterId) (x : Meter) : (s.setMeter m x).resetting = s.resetting := rfl
@[simp] theorem State.setMeter_races (m : MeterId) (x : Meter) : (s.setMeter m x).races = s.races := rfl
@[simp] theorem State.setMeter_pending (m : MeterId) (x : Meter) : (s.setMeter m x).pending = s.pending := rfl
@[simp] theorem State.setMeter_port_of (m : MeterId) (x : Meter) (q : PortId) : (s.setMeter m x).port q = s.port q := rfl
@[simp] theorem State.setMeter_component_of (m : MeterId) (x : Meter) (q : ComponentId) : (s.setMeter m x).component q = s.component q := rfl
@[simp] theorem State.setMeter_slot_of (m : MeterId) (x : Meter) (q : SlotId) : (s.setMeter m x).slot q = s.slot q := rfl
@[simp] theorem State.setMeter_variant_of (m : MeterId) (x : Meter) (q : VariantId) : (s.setMeter m x).variant q = s.variant q := rfl
@[simp] theorem State.setMeter_route_of (m : MeterId) (x : Meter) (q : RegionId) (r : SlotId) : (s.setMeter m x).route q r = s.route q r := rfl
@[simp] theorem State.setMeter_region_of (m : MeterId) (x : Meter) (q : RegionId) : (s.setMeter m x).region q = s.region q := rfl
@[simp] theorem State.setMeter_feed_of (m : MeterId) (x : Meter) (q : FeedId) : (s.setMeter m x).feed q = s.feed q := rfl
@[simp] theorem State.setMeter_carousel_of (m : MeterId) (x : Meter) (q : CarouselId) : (s.setMeter m x).carousel q = s.carousel q := rfl
@[simp] theorem State.setMeter_claimant_of (m : MeterId) (x : Meter) (q : RegionId) : (s.setMeter m x).claimant q = s.claimant q := rfl
@[simp] theorem State.setMeter_link_of (m : MeterId) (x : Meter) (q : Link) : (s.setMeter m x).link q = s.link q := rfl
@[simp] theorem State.setMeter_meter_self (m : MeterId) (x : Meter) : (s.setMeter m x).meter m = x := by
  simp [State.setMeter, State.meter]
theorem State.setMeter_meter_ne (m : MeterId) (x : Meter) (q : MeterId) (h : m ≠ q) : (s.setMeter m x).meter q = s.meter q := by
  have h' : (m : Nat) ≠ q := fun e => h (Fin.ext e)
  simp [State.setMeter, State.meter, Vector.getElem_set_ne, h']
@[simp] theorem State.setMeter_meter (m : MeterId) (x : Meter) (q : MeterId) : (s.setMeter m x).meter q = if m = q then x else s.meter q := by
  by_cases h : m = q
  · subst h; simp
  · rw [State.setMeter_meter_ne _ _ _ _ h, if_neg h]

/-! ## setSlot -/

@[simp] theorem State.setSlot_clock (sl : SlotId) (x : Option SlotDef) : (s.setSlot sl x).clock = s.clock := rfl
@[simp] theorem State.setSlot_offset (sl : SlotId) (x : Option SlotDef) : (s.setSlot sl x).offset = s.offset := rfl
@[simp] theorem State.setSlot_ports (sl : SlotId) (x : Option SlotDef) : (s.setSlot sl x).ports = s.ports := rfl
@[simp] theorem State.setSlot_lastServed (sl : SlotId) (x : Option SlotDef) : (s.setSlot sl x).lastServed = s.lastServed := rfl
@[simp] theorem State.setSlot_components (sl : SlotId) (x : Option SlotDef) : (s.setSlot sl x).components = s.components := rfl
@[simp] theorem State.setSlot_pool (sl : SlotId) (x : Option SlotDef) : (s.setSlot sl x).pool = s.pool := rfl
@[simp] theorem State.setSlot_meters (sl : SlotId) (x : Option SlotDef) : (s.setSlot sl x).meters = s.meters := rfl
@[simp] theorem State.setSlot_variants (sl : SlotId) (x : Option SlotDef) : (s.setSlot sl x).variants = s.variants := rfl
@[simp] theorem State.setSlot_cues (sl : SlotId) (x : Option SlotDef) : (s.setSlot sl x).cues = s.cues := rfl
@[simp] theorem State.setSlot_insertion (sl : SlotId) (x : Option SlotDef) : (s.setSlot sl x).insertion = s.insertion := rfl
@[simp] theorem State.setSlot_changes (sl : SlotId) (x : Option SlotDef) : (s.setSlot sl x).changes = s.changes := rfl
@[simp] theorem State.setSlot_falling (sl : SlotId) (x : Option SlotDef) : (s.setSlot sl x).falling = s.falling := rfl
@[simp] theorem State.setSlot_routes (sl : SlotId) (x : Option SlotDef) : (s.setSlot sl x).routes = s.routes := rfl
@[simp] theorem State.setSlot_tallies (sl : SlotId) (x : Option SlotDef) : (s.setSlot sl x).tallies = s.tallies := rfl
@[simp] theorem State.setSlot_claims (sl : SlotId) (x : Option SlotDef) : (s.setSlot sl x).claims = s.claims := rfl
@[simp] theorem State.setSlot_regions (sl : SlotId) (x : Option SlotDef) : (s.setSlot sl x).regions = s.regions := rfl
@[simp] theorem State.setSlot_feeds (sl : SlotId) (x : Option SlotDef) : (s.setSlot sl x).feeds = s.feeds := rfl
@[simp] theorem State.setSlot_carousels (sl : SlotId) (x : Option SlotDef) : (s.setSlot sl x).carousels = s.carousels := rfl
@[simp] theorem State.setSlot_capture (sl : SlotId) (x : Option SlotDef) : (s.setSlot sl x).capture = s.capture := rfl
@[simp] theorem State.setSlot_mgmt (sl : SlotId) (x : Option SlotDef) : (s.setSlot sl x).mgmt = s.mgmt := rfl
@[simp] theorem State.setSlot_cueLink (sl : SlotId) (x : Option SlotDef) : (s.setSlot sl x).cueLink = s.cueLink := rfl
@[simp] theorem State.setSlot_detected (sl : SlotId) (x : Option SlotDef) : (s.setSlot sl x).detected = s.detected := rfl
@[simp] theorem State.setSlot_resetting (sl : SlotId) (x : Option SlotDef) : (s.setSlot sl x).resetting = s.resetting := rfl
@[simp] theorem State.setSlot_races (sl : SlotId) (x : Option SlotDef) : (s.setSlot sl x).races = s.races := rfl
@[simp] theorem State.setSlot_pending (sl : SlotId) (x : Option SlotDef) : (s.setSlot sl x).pending = s.pending := rfl
@[simp] theorem State.setSlot_port_of (sl : SlotId) (x : Option SlotDef) (q : PortId) : (s.setSlot sl x).port q = s.port q := rfl
@[simp] theorem State.setSlot_component_of (sl : SlotId) (x : Option SlotDef) (q : ComponentId) : (s.setSlot sl x).component q = s.component q := rfl
@[simp] theorem State.setSlot_meter_of (sl : SlotId) (x : Option SlotDef) (q : MeterId) : (s.setSlot sl x).meter q = s.meter q := rfl
@[simp] theorem State.setSlot_variant_of (sl : SlotId) (x : Option SlotDef) (q : VariantId) : (s.setSlot sl x).variant q = s.variant q := rfl
@[simp] theorem State.setSlot_route_of (sl : SlotId) (x : Option SlotDef) (q : RegionId) (r : SlotId) : (s.setSlot sl x).route q r = s.route q r := rfl
@[simp] theorem State.setSlot_region_of (sl : SlotId) (x : Option SlotDef) (q : RegionId) : (s.setSlot sl x).region q = s.region q := rfl
@[simp] theorem State.setSlot_feed_of (sl : SlotId) (x : Option SlotDef) (q : FeedId) : (s.setSlot sl x).feed q = s.feed q := rfl
@[simp] theorem State.setSlot_carousel_of (sl : SlotId) (x : Option SlotDef) (q : CarouselId) : (s.setSlot sl x).carousel q = s.carousel q := rfl
@[simp] theorem State.setSlot_claimant_of (sl : SlotId) (x : Option SlotDef) (q : RegionId) : (s.setSlot sl x).claimant q = s.claimant q := rfl
@[simp] theorem State.setSlot_link_of (sl : SlotId) (x : Option SlotDef) (q : Link) : (s.setSlot sl x).link q = s.link q := rfl
@[simp] theorem State.setSlot_slot_self (sl : SlotId) (x : Option SlotDef) : (s.setSlot sl x).slot sl = x := by
  simp [State.setSlot, State.slot]
theorem State.setSlot_slot_ne (sl : SlotId) (x : Option SlotDef) (q : SlotId) (h : sl ≠ q) : (s.setSlot sl x).slot q = s.slot q := by
  have h' : (sl : Nat) ≠ q := fun e => h (Fin.ext e)
  simp [State.setSlot, State.slot, Vector.getElem_set_ne, h']
@[simp] theorem State.setSlot_slot (sl : SlotId) (x : Option SlotDef) (q : SlotId) : (s.setSlot sl x).slot q = if sl = q then x else s.slot q := by
  by_cases h : sl = q
  · subst h; simp
  · rw [State.setSlot_slot_ne _ _ _ _ h, if_neg h]

/-! ## setVariant -/

@[simp] theorem State.setVariant_clock (v : VariantId) (x : Option VariantDef) : (s.setVariant v x).clock = s.clock := rfl
@[simp] theorem State.setVariant_offset (v : VariantId) (x : Option VariantDef) : (s.setVariant v x).offset = s.offset := rfl
@[simp] theorem State.setVariant_ports (v : VariantId) (x : Option VariantDef) : (s.setVariant v x).ports = s.ports := rfl
@[simp] theorem State.setVariant_lastServed (v : VariantId) (x : Option VariantDef) : (s.setVariant v x).lastServed = s.lastServed := rfl
@[simp] theorem State.setVariant_components (v : VariantId) (x : Option VariantDef) : (s.setVariant v x).components = s.components := rfl
@[simp] theorem State.setVariant_pool (v : VariantId) (x : Option VariantDef) : (s.setVariant v x).pool = s.pool := rfl
@[simp] theorem State.setVariant_meters (v : VariantId) (x : Option VariantDef) : (s.setVariant v x).meters = s.meters := rfl
@[simp] theorem State.setVariant_slots (v : VariantId) (x : Option VariantDef) : (s.setVariant v x).slots = s.slots := rfl
@[simp] theorem State.setVariant_cues (v : VariantId) (x : Option VariantDef) : (s.setVariant v x).cues = s.cues := rfl
@[simp] theorem State.setVariant_insertion (v : VariantId) (x : Option VariantDef) : (s.setVariant v x).insertion = s.insertion := rfl
@[simp] theorem State.setVariant_changes (v : VariantId) (x : Option VariantDef) : (s.setVariant v x).changes = s.changes := rfl
@[simp] theorem State.setVariant_falling (v : VariantId) (x : Option VariantDef) : (s.setVariant v x).falling = s.falling := rfl
@[simp] theorem State.setVariant_routes (v : VariantId) (x : Option VariantDef) : (s.setVariant v x).routes = s.routes := rfl
@[simp] theorem State.setVariant_tallies (v : VariantId) (x : Option VariantDef) : (s.setVariant v x).tallies = s.tallies := rfl
@[simp] theorem State.setVariant_claims (v : VariantId) (x : Option VariantDef) : (s.setVariant v x).claims = s.claims := rfl
@[simp] theorem State.setVariant_regions (v : VariantId) (x : Option VariantDef) : (s.setVariant v x).regions = s.regions := rfl
@[simp] theorem State.setVariant_feeds (v : VariantId) (x : Option VariantDef) : (s.setVariant v x).feeds = s.feeds := rfl
@[simp] theorem State.setVariant_carousels (v : VariantId) (x : Option VariantDef) : (s.setVariant v x).carousels = s.carousels := rfl
@[simp] theorem State.setVariant_capture (v : VariantId) (x : Option VariantDef) : (s.setVariant v x).capture = s.capture := rfl
@[simp] theorem State.setVariant_mgmt (v : VariantId) (x : Option VariantDef) : (s.setVariant v x).mgmt = s.mgmt := rfl
@[simp] theorem State.setVariant_cueLink (v : VariantId) (x : Option VariantDef) : (s.setVariant v x).cueLink = s.cueLink := rfl
@[simp] theorem State.setVariant_detected (v : VariantId) (x : Option VariantDef) : (s.setVariant v x).detected = s.detected := rfl
@[simp] theorem State.setVariant_resetting (v : VariantId) (x : Option VariantDef) : (s.setVariant v x).resetting = s.resetting := rfl
@[simp] theorem State.setVariant_races (v : VariantId) (x : Option VariantDef) : (s.setVariant v x).races = s.races := rfl
@[simp] theorem State.setVariant_pending (v : VariantId) (x : Option VariantDef) : (s.setVariant v x).pending = s.pending := rfl
@[simp] theorem State.setVariant_port_of (v : VariantId) (x : Option VariantDef) (q : PortId) : (s.setVariant v x).port q = s.port q := rfl
@[simp] theorem State.setVariant_component_of (v : VariantId) (x : Option VariantDef) (q : ComponentId) : (s.setVariant v x).component q = s.component q := rfl
@[simp] theorem State.setVariant_meter_of (v : VariantId) (x : Option VariantDef) (q : MeterId) : (s.setVariant v x).meter q = s.meter q := rfl
@[simp] theorem State.setVariant_slot_of (v : VariantId) (x : Option VariantDef) (q : SlotId) : (s.setVariant v x).slot q = s.slot q := rfl
@[simp] theorem State.setVariant_route_of (v : VariantId) (x : Option VariantDef) (q : RegionId) (r : SlotId) : (s.setVariant v x).route q r = s.route q r := rfl
@[simp] theorem State.setVariant_region_of (v : VariantId) (x : Option VariantDef) (q : RegionId) : (s.setVariant v x).region q = s.region q := rfl
@[simp] theorem State.setVariant_feed_of (v : VariantId) (x : Option VariantDef) (q : FeedId) : (s.setVariant v x).feed q = s.feed q := rfl
@[simp] theorem State.setVariant_carousel_of (v : VariantId) (x : Option VariantDef) (q : CarouselId) : (s.setVariant v x).carousel q = s.carousel q := rfl
@[simp] theorem State.setVariant_claimant_of (v : VariantId) (x : Option VariantDef) (q : RegionId) : (s.setVariant v x).claimant q = s.claimant q := rfl
@[simp] theorem State.setVariant_link_of (v : VariantId) (x : Option VariantDef) (q : Link) : (s.setVariant v x).link q = s.link q := rfl
@[simp] theorem State.setVariant_variant_self (v : VariantId) (x : Option VariantDef) : (s.setVariant v x).variant v = x := by
  simp [State.setVariant, State.variant]
theorem State.setVariant_variant_ne (v : VariantId) (x : Option VariantDef) (q : VariantId) (h : v ≠ q) : (s.setVariant v x).variant q = s.variant q := by
  have h' : (v : Nat) ≠ q := fun e => h (Fin.ext e)
  simp [State.setVariant, State.variant, Vector.getElem_set_ne, h']
@[simp] theorem State.setVariant_variant (v : VariantId) (x : Option VariantDef) (q : VariantId) : (s.setVariant v x).variant q = if v = q then x else s.variant q := by
  by_cases h : v = q
  · subst h; simp
  · rw [State.setVariant_variant_ne _ _ _ _ h, if_neg h]

/-! ## setRegion -/

@[simp] theorem State.setRegion_clock (g : RegionId) (x : Region) : (s.setRegion g x).clock = s.clock := rfl
@[simp] theorem State.setRegion_offset (g : RegionId) (x : Region) : (s.setRegion g x).offset = s.offset := rfl
@[simp] theorem State.setRegion_ports (g : RegionId) (x : Region) : (s.setRegion g x).ports = s.ports := rfl
@[simp] theorem State.setRegion_lastServed (g : RegionId) (x : Region) : (s.setRegion g x).lastServed = s.lastServed := rfl
@[simp] theorem State.setRegion_components (g : RegionId) (x : Region) : (s.setRegion g x).components = s.components := rfl
@[simp] theorem State.setRegion_pool (g : RegionId) (x : Region) : (s.setRegion g x).pool = s.pool := rfl
@[simp] theorem State.setRegion_meters (g : RegionId) (x : Region) : (s.setRegion g x).meters = s.meters := rfl
@[simp] theorem State.setRegion_slots (g : RegionId) (x : Region) : (s.setRegion g x).slots = s.slots := rfl
@[simp] theorem State.setRegion_variants (g : RegionId) (x : Region) : (s.setRegion g x).variants = s.variants := rfl
@[simp] theorem State.setRegion_cues (g : RegionId) (x : Region) : (s.setRegion g x).cues = s.cues := rfl
@[simp] theorem State.setRegion_insertion (g : RegionId) (x : Region) : (s.setRegion g x).insertion = s.insertion := rfl
@[simp] theorem State.setRegion_changes (g : RegionId) (x : Region) : (s.setRegion g x).changes = s.changes := rfl
@[simp] theorem State.setRegion_falling (g : RegionId) (x : Region) : (s.setRegion g x).falling = s.falling := rfl
@[simp] theorem State.setRegion_routes (g : RegionId) (x : Region) : (s.setRegion g x).routes = s.routes := rfl
@[simp] theorem State.setRegion_tallies (g : RegionId) (x : Region) : (s.setRegion g x).tallies = s.tallies := rfl
@[simp] theorem State.setRegion_claims (g : RegionId) (x : Region) : (s.setRegion g x).claims = s.claims := rfl
@[simp] theorem State.setRegion_feeds (g : RegionId) (x : Region) : (s.setRegion g x).feeds = s.feeds := rfl
@[simp] theorem State.setRegion_carousels (g : RegionId) (x : Region) : (s.setRegion g x).carousels = s.carousels := rfl
@[simp] theorem State.setRegion_capture (g : RegionId) (x : Region) : (s.setRegion g x).capture = s.capture := rfl
@[simp] theorem State.setRegion_mgmt (g : RegionId) (x : Region) : (s.setRegion g x).mgmt = s.mgmt := rfl
@[simp] theorem State.setRegion_cueLink (g : RegionId) (x : Region) : (s.setRegion g x).cueLink = s.cueLink := rfl
@[simp] theorem State.setRegion_detected (g : RegionId) (x : Region) : (s.setRegion g x).detected = s.detected := rfl
@[simp] theorem State.setRegion_resetting (g : RegionId) (x : Region) : (s.setRegion g x).resetting = s.resetting := rfl
@[simp] theorem State.setRegion_races (g : RegionId) (x : Region) : (s.setRegion g x).races = s.races := rfl
@[simp] theorem State.setRegion_pending (g : RegionId) (x : Region) : (s.setRegion g x).pending = s.pending := rfl
@[simp] theorem State.setRegion_port_of (g : RegionId) (x : Region) (q : PortId) : (s.setRegion g x).port q = s.port q := rfl
@[simp] theorem State.setRegion_component_of (g : RegionId) (x : Region) (q : ComponentId) : (s.setRegion g x).component q = s.component q := rfl
@[simp] theorem State.setRegion_meter_of (g : RegionId) (x : Region) (q : MeterId) : (s.setRegion g x).meter q = s.meter q := rfl
@[simp] theorem State.setRegion_slot_of (g : RegionId) (x : Region) (q : SlotId) : (s.setRegion g x).slot q = s.slot q := rfl
@[simp] theorem State.setRegion_variant_of (g : RegionId) (x : Region) (q : VariantId) : (s.setRegion g x).variant q = s.variant q := rfl
@[simp] theorem State.setRegion_route_of (g : RegionId) (x : Region) (q : RegionId) (r : SlotId) : (s.setRegion g x).route q r = s.route q r := rfl
@[simp] theorem State.setRegion_feed_of (g : RegionId) (x : Region) (q : FeedId) : (s.setRegion g x).feed q = s.feed q := rfl
@[simp] theorem State.setRegion_carousel_of (g : RegionId) (x : Region) (q : CarouselId) : (s.setRegion g x).carousel q = s.carousel q := rfl
@[simp] theorem State.setRegion_claimant_of (g : RegionId) (x : Region) (q : RegionId) : (s.setRegion g x).claimant q = s.claimant q := rfl
@[simp] theorem State.setRegion_link_of (g : RegionId) (x : Region) (q : Link) : (s.setRegion g x).link q = s.link q := rfl
@[simp] theorem State.setRegion_region_self (g : RegionId) (x : Region) : (s.setRegion g x).region g = x := by
  simp [State.setRegion, State.region]
theorem State.setRegion_region_ne (g : RegionId) (x : Region) (q : RegionId) (h : g ≠ q) : (s.setRegion g x).region q = s.region q := by
  have h' : (g : Nat) ≠ q := fun e => h (Fin.ext e)
  simp [State.setRegion, State.region, Vector.getElem_set_ne, h']
@[simp] theorem State.setRegion_region (g : RegionId) (x : Region) (q : RegionId) : (s.setRegion g x).region q = if g = q then x else s.region q := by
  by_cases h : g = q
  · subst h; simp
  · rw [State.setRegion_region_ne _ _ _ _ h, if_neg h]

/-! ## setFeed -/

@[simp] theorem State.setFeed_clock (fd : FeedId) (x : Feed) : (s.setFeed fd x).clock = s.clock := rfl
@[simp] theorem State.setFeed_offset (fd : FeedId) (x : Feed) : (s.setFeed fd x).offset = s.offset := rfl
@[simp] theorem State.setFeed_ports (fd : FeedId) (x : Feed) : (s.setFeed fd x).ports = s.ports := rfl
@[simp] theorem State.setFeed_lastServed (fd : FeedId) (x : Feed) : (s.setFeed fd x).lastServed = s.lastServed := rfl
@[simp] theorem State.setFeed_components (fd : FeedId) (x : Feed) : (s.setFeed fd x).components = s.components := rfl
@[simp] theorem State.setFeed_pool (fd : FeedId) (x : Feed) : (s.setFeed fd x).pool = s.pool := rfl
@[simp] theorem State.setFeed_meters (fd : FeedId) (x : Feed) : (s.setFeed fd x).meters = s.meters := rfl
@[simp] theorem State.setFeed_slots (fd : FeedId) (x : Feed) : (s.setFeed fd x).slots = s.slots := rfl
@[simp] theorem State.setFeed_variants (fd : FeedId) (x : Feed) : (s.setFeed fd x).variants = s.variants := rfl
@[simp] theorem State.setFeed_cues (fd : FeedId) (x : Feed) : (s.setFeed fd x).cues = s.cues := rfl
@[simp] theorem State.setFeed_insertion (fd : FeedId) (x : Feed) : (s.setFeed fd x).insertion = s.insertion := rfl
@[simp] theorem State.setFeed_changes (fd : FeedId) (x : Feed) : (s.setFeed fd x).changes = s.changes := rfl
@[simp] theorem State.setFeed_falling (fd : FeedId) (x : Feed) : (s.setFeed fd x).falling = s.falling := rfl
@[simp] theorem State.setFeed_routes (fd : FeedId) (x : Feed) : (s.setFeed fd x).routes = s.routes := rfl
@[simp] theorem State.setFeed_tallies (fd : FeedId) (x : Feed) : (s.setFeed fd x).tallies = s.tallies := rfl
@[simp] theorem State.setFeed_claims (fd : FeedId) (x : Feed) : (s.setFeed fd x).claims = s.claims := rfl
@[simp] theorem State.setFeed_regions (fd : FeedId) (x : Feed) : (s.setFeed fd x).regions = s.regions := rfl
@[simp] theorem State.setFeed_carousels (fd : FeedId) (x : Feed) : (s.setFeed fd x).carousels = s.carousels := rfl
@[simp] theorem State.setFeed_capture (fd : FeedId) (x : Feed) : (s.setFeed fd x).capture = s.capture := rfl
@[simp] theorem State.setFeed_mgmt (fd : FeedId) (x : Feed) : (s.setFeed fd x).mgmt = s.mgmt := rfl
@[simp] theorem State.setFeed_cueLink (fd : FeedId) (x : Feed) : (s.setFeed fd x).cueLink = s.cueLink := rfl
@[simp] theorem State.setFeed_detected (fd : FeedId) (x : Feed) : (s.setFeed fd x).detected = s.detected := rfl
@[simp] theorem State.setFeed_resetting (fd : FeedId) (x : Feed) : (s.setFeed fd x).resetting = s.resetting := rfl
@[simp] theorem State.setFeed_races (fd : FeedId) (x : Feed) : (s.setFeed fd x).races = s.races := rfl
@[simp] theorem State.setFeed_pending (fd : FeedId) (x : Feed) : (s.setFeed fd x).pending = s.pending := rfl
@[simp] theorem State.setFeed_port_of (fd : FeedId) (x : Feed) (q : PortId) : (s.setFeed fd x).port q = s.port q := rfl
@[simp] theorem State.setFeed_component_of (fd : FeedId) (x : Feed) (q : ComponentId) : (s.setFeed fd x).component q = s.component q := rfl
@[simp] theorem State.setFeed_meter_of (fd : FeedId) (x : Feed) (q : MeterId) : (s.setFeed fd x).meter q = s.meter q := rfl
@[simp] theorem State.setFeed_slot_of (fd : FeedId) (x : Feed) (q : SlotId) : (s.setFeed fd x).slot q = s.slot q := rfl
@[simp] theorem State.setFeed_variant_of (fd : FeedId) (x : Feed) (q : VariantId) : (s.setFeed fd x).variant q = s.variant q := rfl
@[simp] theorem State.setFeed_route_of (fd : FeedId) (x : Feed) (q : RegionId) (r : SlotId) : (s.setFeed fd x).route q r = s.route q r := rfl
@[simp] theorem State.setFeed_region_of (fd : FeedId) (x : Feed) (q : RegionId) : (s.setFeed fd x).region q = s.region q := rfl
@[simp] theorem State.setFeed_carousel_of (fd : FeedId) (x : Feed) (q : CarouselId) : (s.setFeed fd x).carousel q = s.carousel q := rfl
@[simp] theorem State.setFeed_claimant_of (fd : FeedId) (x : Feed) (q : RegionId) : (s.setFeed fd x).claimant q = s.claimant q := rfl
@[simp] theorem State.setFeed_link_of (fd : FeedId) (x : Feed) (q : Link) : (s.setFeed fd x).link q = s.link q := rfl
@[simp] theorem State.setFeed_feed_self (fd : FeedId) (x : Feed) : (s.setFeed fd x).feed fd = x := by
  simp [State.setFeed, State.feed]
theorem State.setFeed_feed_ne (fd : FeedId) (x : Feed) (q : FeedId) (h : fd ≠ q) : (s.setFeed fd x).feed q = s.feed q := by
  have h' : (fd : Nat) ≠ q := fun e => h (Fin.ext e)
  simp [State.setFeed, State.feed, Vector.getElem_set_ne, h']
@[simp] theorem State.setFeed_feed (fd : FeedId) (x : Feed) (q : FeedId) : (s.setFeed fd x).feed q = if fd = q then x else s.feed q := by
  by_cases h : fd = q
  · subst h; simp
  · rw [State.setFeed_feed_ne _ _ _ _ h, if_neg h]

/-! ## setCarousel -/

@[simp] theorem State.setCarousel_clock (k : CarouselId) (x : Carousel) : (s.setCarousel k x).clock = s.clock := rfl
@[simp] theorem State.setCarousel_offset (k : CarouselId) (x : Carousel) : (s.setCarousel k x).offset = s.offset := rfl
@[simp] theorem State.setCarousel_ports (k : CarouselId) (x : Carousel) : (s.setCarousel k x).ports = s.ports := rfl
@[simp] theorem State.setCarousel_lastServed (k : CarouselId) (x : Carousel) : (s.setCarousel k x).lastServed = s.lastServed := rfl
@[simp] theorem State.setCarousel_components (k : CarouselId) (x : Carousel) : (s.setCarousel k x).components = s.components := rfl
@[simp] theorem State.setCarousel_pool (k : CarouselId) (x : Carousel) : (s.setCarousel k x).pool = s.pool := rfl
@[simp] theorem State.setCarousel_meters (k : CarouselId) (x : Carousel) : (s.setCarousel k x).meters = s.meters := rfl
@[simp] theorem State.setCarousel_slots (k : CarouselId) (x : Carousel) : (s.setCarousel k x).slots = s.slots := rfl
@[simp] theorem State.setCarousel_variants (k : CarouselId) (x : Carousel) : (s.setCarousel k x).variants = s.variants := rfl
@[simp] theorem State.setCarousel_cues (k : CarouselId) (x : Carousel) : (s.setCarousel k x).cues = s.cues := rfl
@[simp] theorem State.setCarousel_insertion (k : CarouselId) (x : Carousel) : (s.setCarousel k x).insertion = s.insertion := rfl
@[simp] theorem State.setCarousel_changes (k : CarouselId) (x : Carousel) : (s.setCarousel k x).changes = s.changes := rfl
@[simp] theorem State.setCarousel_falling (k : CarouselId) (x : Carousel) : (s.setCarousel k x).falling = s.falling := rfl
@[simp] theorem State.setCarousel_routes (k : CarouselId) (x : Carousel) : (s.setCarousel k x).routes = s.routes := rfl
@[simp] theorem State.setCarousel_tallies (k : CarouselId) (x : Carousel) : (s.setCarousel k x).tallies = s.tallies := rfl
@[simp] theorem State.setCarousel_claims (k : CarouselId) (x : Carousel) : (s.setCarousel k x).claims = s.claims := rfl
@[simp] theorem State.setCarousel_regions (k : CarouselId) (x : Carousel) : (s.setCarousel k x).regions = s.regions := rfl
@[simp] theorem State.setCarousel_feeds (k : CarouselId) (x : Carousel) : (s.setCarousel k x).feeds = s.feeds := rfl
@[simp] theorem State.setCarousel_capture (k : CarouselId) (x : Carousel) : (s.setCarousel k x).capture = s.capture := rfl
@[simp] theorem State.setCarousel_mgmt (k : CarouselId) (x : Carousel) : (s.setCarousel k x).mgmt = s.mgmt := rfl
@[simp] theorem State.setCarousel_cueLink (k : CarouselId) (x : Carousel) : (s.setCarousel k x).cueLink = s.cueLink := rfl
@[simp] theorem State.setCarousel_detected (k : CarouselId) (x : Carousel) : (s.setCarousel k x).detected = s.detected := rfl
@[simp] theorem State.setCarousel_resetting (k : CarouselId) (x : Carousel) : (s.setCarousel k x).resetting = s.resetting := rfl
@[simp] theorem State.setCarousel_races (k : CarouselId) (x : Carousel) : (s.setCarousel k x).races = s.races := rfl
@[simp] theorem State.setCarousel_pending (k : CarouselId) (x : Carousel) : (s.setCarousel k x).pending = s.pending := rfl
@[simp] theorem State.setCarousel_port_of (k : CarouselId) (x : Carousel) (q : PortId) : (s.setCarousel k x).port q = s.port q := rfl
@[simp] theorem State.setCarousel_component_of (k : CarouselId) (x : Carousel) (q : ComponentId) : (s.setCarousel k x).component q = s.component q := rfl
@[simp] theorem State.setCarousel_meter_of (k : CarouselId) (x : Carousel) (q : MeterId) : (s.setCarousel k x).meter q = s.meter q := rfl
@[simp] theorem State.setCarousel_slot_of (k : CarouselId) (x : Carousel) (q : SlotId) : (s.setCarousel k x).slot q = s.slot q := rfl
@[simp] theorem State.setCarousel_variant_of (k : CarouselId) (x : Carousel) (q : VariantId) : (s.setCarousel k x).variant q = s.variant q := rfl
@[simp] theorem State.setCarousel_route_of (k : CarouselId) (x : Carousel) (q : RegionId) (r : SlotId) : (s.setCarousel k x).route q r = s.route q r := rfl
@[simp] theorem State.setCarousel_region_of (k : CarouselId) (x : Carousel) (q : RegionId) : (s.setCarousel k x).region q = s.region q := rfl
@[simp] theorem State.setCarousel_feed_of (k : CarouselId) (x : Carousel) (q : FeedId) : (s.setCarousel k x).feed q = s.feed q := rfl
@[simp] theorem State.setCarousel_claimant_of (k : CarouselId) (x : Carousel) (q : RegionId) : (s.setCarousel k x).claimant q = s.claimant q := rfl
@[simp] theorem State.setCarousel_link_of (k : CarouselId) (x : Carousel) (q : Link) : (s.setCarousel k x).link q = s.link q := rfl
@[simp] theorem State.setCarousel_carousel_self (k : CarouselId) (x : Carousel) : (s.setCarousel k x).carousel k = x := by
  simp [State.setCarousel, State.carousel]
theorem State.setCarousel_carousel_ne (k : CarouselId) (x : Carousel) (q : CarouselId) (h : k ≠ q) : (s.setCarousel k x).carousel q = s.carousel q := by
  have h' : (k : Nat) ≠ q := fun e => h (Fin.ext e)
  simp [State.setCarousel, State.carousel, Vector.getElem_set_ne, h']
@[simp] theorem State.setCarousel_carousel (k : CarouselId) (x : Carousel) (q : CarouselId) : (s.setCarousel k x).carousel q = if k = q then x else s.carousel q := by
  by_cases h : k = q
  · subst h; simp
  · rw [State.setCarousel_carousel_ne _ _ _ _ h, if_neg h]

/-! ## setClaim -/

@[simp] theorem State.setClaim_clock (g : RegionId) (x : Option Nat) : (s.setClaim g x).clock = s.clock := rfl
@[simp] theorem State.setClaim_offset (g : RegionId) (x : Option Nat) : (s.setClaim g x).offset = s.offset := rfl
@[simp] theorem State.setClaim_ports (g : RegionId) (x : Option Nat) : (s.setClaim g x).ports = s.ports := rfl
@[simp] theorem State.setClaim_lastServed (g : RegionId) (x : Option Nat) : (s.setClaim g x).lastServed = s.lastServed := rfl
@[simp] theorem State.setClaim_components (g : RegionId) (x : Option Nat) : (s.setClaim g x).components = s.components := rfl
@[simp] theorem State.setClaim_pool (g : RegionId) (x : Option Nat) : (s.setClaim g x).pool = s.pool := rfl
@[simp] theorem State.setClaim_meters (g : RegionId) (x : Option Nat) : (s.setClaim g x).meters = s.meters := rfl
@[simp] theorem State.setClaim_slots (g : RegionId) (x : Option Nat) : (s.setClaim g x).slots = s.slots := rfl
@[simp] theorem State.setClaim_variants (g : RegionId) (x : Option Nat) : (s.setClaim g x).variants = s.variants := rfl
@[simp] theorem State.setClaim_cues (g : RegionId) (x : Option Nat) : (s.setClaim g x).cues = s.cues := rfl
@[simp] theorem State.setClaim_insertion (g : RegionId) (x : Option Nat) : (s.setClaim g x).insertion = s.insertion := rfl
@[simp] theorem State.setClaim_changes (g : RegionId) (x : Option Nat) : (s.setClaim g x).changes = s.changes := rfl
@[simp] theorem State.setClaim_falling (g : RegionId) (x : Option Nat) : (s.setClaim g x).falling = s.falling := rfl
@[simp] theorem State.setClaim_routes (g : RegionId) (x : Option Nat) : (s.setClaim g x).routes = s.routes := rfl
@[simp] theorem State.setClaim_tallies (g : RegionId) (x : Option Nat) : (s.setClaim g x).tallies = s.tallies := rfl
@[simp] theorem State.setClaim_regions (g : RegionId) (x : Option Nat) : (s.setClaim g x).regions = s.regions := rfl
@[simp] theorem State.setClaim_feeds (g : RegionId) (x : Option Nat) : (s.setClaim g x).feeds = s.feeds := rfl
@[simp] theorem State.setClaim_carousels (g : RegionId) (x : Option Nat) : (s.setClaim g x).carousels = s.carousels := rfl
@[simp] theorem State.setClaim_capture (g : RegionId) (x : Option Nat) : (s.setClaim g x).capture = s.capture := rfl
@[simp] theorem State.setClaim_mgmt (g : RegionId) (x : Option Nat) : (s.setClaim g x).mgmt = s.mgmt := rfl
@[simp] theorem State.setClaim_cueLink (g : RegionId) (x : Option Nat) : (s.setClaim g x).cueLink = s.cueLink := rfl
@[simp] theorem State.setClaim_detected (g : RegionId) (x : Option Nat) : (s.setClaim g x).detected = s.detected := rfl
@[simp] theorem State.setClaim_resetting (g : RegionId) (x : Option Nat) : (s.setClaim g x).resetting = s.resetting := rfl
@[simp] theorem State.setClaim_races (g : RegionId) (x : Option Nat) : (s.setClaim g x).races = s.races := rfl
@[simp] theorem State.setClaim_pending (g : RegionId) (x : Option Nat) : (s.setClaim g x).pending = s.pending := rfl
@[simp] theorem State.setClaim_port_of (g : RegionId) (x : Option Nat) (q : PortId) : (s.setClaim g x).port q = s.port q := rfl
@[simp] theorem State.setClaim_component_of (g : RegionId) (x : Option Nat) (q : ComponentId) : (s.setClaim g x).component q = s.component q := rfl
@[simp] theorem State.setClaim_meter_of (g : RegionId) (x : Option Nat) (q : MeterId) : (s.setClaim g x).meter q = s.meter q := rfl
@[simp] theorem State.setClaim_slot_of (g : RegionId) (x : Option Nat) (q : SlotId) : (s.setClaim g x).slot q = s.slot q := rfl
@[simp] theorem State.setClaim_variant_of (g : RegionId) (x : Option Nat) (q : VariantId) : (s.setClaim g x).variant q = s.variant q := rfl
@[simp] theorem State.setClaim_route_of (g : RegionId) (x : Option Nat) (q : RegionId) (r : SlotId) : (s.setClaim g x).route q r = s.route q r := rfl
@[simp] theorem State.setClaim_region_of (g : RegionId) (x : Option Nat) (q : RegionId) : (s.setClaim g x).region q = s.region q := rfl
@[simp] theorem State.setClaim_feed_of (g : RegionId) (x : Option Nat) (q : FeedId) : (s.setClaim g x).feed q = s.feed q := rfl
@[simp] theorem State.setClaim_carousel_of (g : RegionId) (x : Option Nat) (q : CarouselId) : (s.setClaim g x).carousel q = s.carousel q := rfl
@[simp] theorem State.setClaim_link_of (g : RegionId) (x : Option Nat) (q : Link) : (s.setClaim g x).link q = s.link q := rfl
@[simp] theorem State.setClaim_claimant_self (g : RegionId) (x : Option Nat) : (s.setClaim g x).claimant g = x := by
  simp [State.setClaim, State.claimant]
theorem State.setClaim_claimant_ne (g : RegionId) (x : Option Nat) (q : RegionId) (h : g ≠ q) : (s.setClaim g x).claimant q = s.claimant q := by
  have h' : (g : Nat) ≠ q := fun e => h (Fin.ext e)
  simp [State.setClaim, State.claimant, Vector.getElem_set_ne, h']
@[simp] theorem State.setClaim_claimant (g : RegionId) (x : Option Nat) (q : RegionId) : (s.setClaim g x).claimant q = if g = q then x else s.claimant q := by
  by_cases h : g = q
  · subst h; simp
  · rw [State.setClaim_claimant_ne _ _ _ _ h, if_neg h]

/-! ## setRoute -/

@[simp] theorem State.setRoute_clock (g : RegionId) (sl : SlotId) (x : Route) : (s.setRoute g sl x).clock = s.clock := rfl
@[simp] theorem State.setRoute_offset (g : RegionId) (sl : SlotId) (x : Route) : (s.setRoute g sl x).offset = s.offset := rfl
@[simp] theorem State.setRoute_ports (g : RegionId) (sl : SlotId) (x : Route) : (s.setRoute g sl x).ports = s.ports := rfl
@[simp] theorem State.setRoute_lastServed (g : RegionId) (sl : SlotId) (x : Route) : (s.setRoute g sl x).lastServed = s.lastServed := rfl
@[simp] theorem State.setRoute_components (g : RegionId) (sl : SlotId) (x : Route) : (s.setRoute g sl x).components = s.components := rfl
@[simp] theorem State.setRoute_pool (g : RegionId) (sl : SlotId) (x : Route) : (s.setRoute g sl x).pool = s.pool := rfl
@[simp] theorem State.setRoute_meters (g : RegionId) (sl : SlotId) (x : Route) : (s.setRoute g sl x).meters = s.meters := rfl
@[simp] theorem State.setRoute_slots (g : RegionId) (sl : SlotId) (x : Route) : (s.setRoute g sl x).slots = s.slots := rfl
@[simp] theorem State.setRoute_variants (g : RegionId) (sl : SlotId) (x : Route) : (s.setRoute g sl x).variants = s.variants := rfl
@[simp] theorem State.setRoute_cues (g : RegionId) (sl : SlotId) (x : Route) : (s.setRoute g sl x).cues = s.cues := rfl
@[simp] theorem State.setRoute_insertion (g : RegionId) (sl : SlotId) (x : Route) : (s.setRoute g sl x).insertion = s.insertion := rfl
@[simp] theorem State.setRoute_changes (g : RegionId) (sl : SlotId) (x : Route) : (s.setRoute g sl x).changes = s.changes := rfl
@[simp] theorem State.setRoute_falling (g : RegionId) (sl : SlotId) (x : Route) : (s.setRoute g sl x).falling = s.falling := rfl
@[simp] theorem State.setRoute_tallies (g : RegionId) (sl : SlotId) (x : Route) : (s.setRoute g sl x).tallies = s.tallies := rfl
@[simp] theorem State.setRoute_claims (g : RegionId) (sl : SlotId) (x : Route) : (s.setRoute g sl x).claims = s.claims := rfl
@[simp] theorem State.setRoute_regions (g : RegionId) (sl : SlotId) (x : Route) : (s.setRoute g sl x).regions = s.regions := rfl
@[simp] theorem State.setRoute_feeds (g : RegionId) (sl : SlotId) (x : Route) : (s.setRoute g sl x).feeds = s.feeds := rfl
@[simp] theorem State.setRoute_carousels (g : RegionId) (sl : SlotId) (x : Route) : (s.setRoute g sl x).carousels = s.carousels := rfl
@[simp] theorem State.setRoute_capture (g : RegionId) (sl : SlotId) (x : Route) : (s.setRoute g sl x).capture = s.capture := rfl
@[simp] theorem State.setRoute_mgmt (g : RegionId) (sl : SlotId) (x : Route) : (s.setRoute g sl x).mgmt = s.mgmt := rfl
@[simp] theorem State.setRoute_cueLink (g : RegionId) (sl : SlotId) (x : Route) : (s.setRoute g sl x).cueLink = s.cueLink := rfl
@[simp] theorem State.setRoute_detected (g : RegionId) (sl : SlotId) (x : Route) : (s.setRoute g sl x).detected = s.detected := rfl
@[simp] theorem State.setRoute_resetting (g : RegionId) (sl : SlotId) (x : Route) : (s.setRoute g sl x).resetting = s.resetting := rfl
@[simp] theorem State.setRoute_races (g : RegionId) (sl : SlotId) (x : Route) : (s.setRoute g sl x).races = s.races := rfl
@[simp] theorem State.setRoute_pending (g : RegionId) (sl : SlotId) (x : Route) : (s.setRoute g sl x).pending = s.pending := rfl
@[simp] theorem State.setRoute_port_of (g : RegionId) (sl : SlotId) (x : Route) (q : PortId) : (s.setRoute g sl x).port q = s.port q := rfl
@[simp] theorem State.setRoute_component_of (g : RegionId) (sl : SlotId) (x : Route) (q : ComponentId) : (s.setRoute g sl x).component q = s.component q := rfl
@[simp] theorem State.setRoute_meter_of (g : RegionId) (sl : SlotId) (x : Route) (q : MeterId) : (s.setRoute g sl x).meter q = s.meter q := rfl
@[simp] theorem State.setRoute_slot_of (g : RegionId) (sl : SlotId) (x : Route) (q : SlotId) : (s.setRoute g sl x).slot q = s.slot q := rfl
@[simp] theorem State.setRoute_variant_of (g : RegionId) (sl : SlotId) (x : Route) (q : VariantId) : (s.setRoute g sl x).variant q = s.variant q := rfl
@[simp] theorem State.setRoute_region_of (g : RegionId) (sl : SlotId) (x : Route) (q : RegionId) : (s.setRoute g sl x).region q = s.region q := rfl
@[simp] theorem State.setRoute_feed_of (g : RegionId) (sl : SlotId) (x : Route) (q : FeedId) : (s.setRoute g sl x).feed q = s.feed q := rfl
@[simp] theorem State.setRoute_carousel_of (g : RegionId) (sl : SlotId) (x : Route) (q : CarouselId) : (s.setRoute g sl x).carousel q = s.carousel q := rfl
@[simp] theorem State.setRoute_claimant_of (g : RegionId) (sl : SlotId) (x : Route) (q : RegionId) : (s.setRoute g sl x).claimant q = s.claimant q := rfl
@[simp] theorem State.setRoute_link_of (g : RegionId) (sl : SlotId) (x : Route) (q : Link) : (s.setRoute g sl x).link q = s.link q := rfl
@[simp] theorem State.setRoute_route (g : RegionId) (sl : SlotId) (x : Route) (h : RegionId) (tl : SlotId) :
    (s.setRoute g sl x).route h tl = if g = h ∧ sl = tl then x else s.route h tl := by
  unfold State.setRoute State.route
  by_cases hg : g = h
  · subst hg
    by_cases hs : sl = tl
    · subst hs; simp
    · have h' : (sl : Nat) ≠ tl := fun e => hs (Fin.ext e)
      simp [hs, Vector.getElem_set_ne, h']
  · have h' : (g : Nat) ≠ h := fun e => hg (Fin.ext e)
    simp [hg, Vector.getElem_set_ne, h']

/-! ## setLink -/

@[simp] theorem State.setLink_clock (l : Link) (x : LinkState) : (s.setLink l x).clock = s.clock := by cases l <;> rfl
@[simp] theorem State.setLink_offset (l : Link) (x : LinkState) : (s.setLink l x).offset = s.offset := by cases l <;> rfl
@[simp] theorem State.setLink_ports (l : Link) (x : LinkState) : (s.setLink l x).ports = s.ports := by cases l <;> rfl
@[simp] theorem State.setLink_lastServed (l : Link) (x : LinkState) : (s.setLink l x).lastServed = s.lastServed := by cases l <;> rfl
@[simp] theorem State.setLink_components (l : Link) (x : LinkState) : (s.setLink l x).components = s.components := by cases l <;> rfl
@[simp] theorem State.setLink_pool (l : Link) (x : LinkState) : (s.setLink l x).pool = s.pool := by cases l <;> rfl
@[simp] theorem State.setLink_meters (l : Link) (x : LinkState) : (s.setLink l x).meters = s.meters := by cases l <;> rfl
@[simp] theorem State.setLink_slots (l : Link) (x : LinkState) : (s.setLink l x).slots = s.slots := by cases l <;> rfl
@[simp] theorem State.setLink_variants (l : Link) (x : LinkState) : (s.setLink l x).variants = s.variants := by cases l <;> rfl
@[simp] theorem State.setLink_cues (l : Link) (x : LinkState) : (s.setLink l x).cues = s.cues := by cases l <;> rfl
@[simp] theorem State.setLink_insertion (l : Link) (x : LinkState) : (s.setLink l x).insertion = s.insertion := by cases l <;> rfl
@[simp] theorem State.setLink_changes (l : Link) (x : LinkState) : (s.setLink l x).changes = s.changes := by cases l <;> rfl
@[simp] theorem State.setLink_falling (l : Link) (x : LinkState) : (s.setLink l x).falling = s.falling := by cases l <;> rfl
@[simp] theorem State.setLink_routes (l : Link) (x : LinkState) : (s.setLink l x).routes = s.routes := by cases l <;> rfl
@[simp] theorem State.setLink_tallies (l : Link) (x : LinkState) : (s.setLink l x).tallies = s.tallies := by cases l <;> rfl
@[simp] theorem State.setLink_claims (l : Link) (x : LinkState) : (s.setLink l x).claims = s.claims := by cases l <;> rfl
@[simp] theorem State.setLink_regions (l : Link) (x : LinkState) : (s.setLink l x).regions = s.regions := by cases l <;> rfl
@[simp] theorem State.setLink_feeds (l : Link) (x : LinkState) : (s.setLink l x).feeds = s.feeds := by cases l <;> rfl
@[simp] theorem State.setLink_carousels (l : Link) (x : LinkState) : (s.setLink l x).carousels = s.carousels := by cases l <;> rfl
@[simp] theorem State.setLink_capture (l : Link) (x : LinkState) : (s.setLink l x).capture = s.capture := by cases l <;> rfl
@[simp] theorem State.setLink_detected (l : Link) (x : LinkState) : (s.setLink l x).detected = s.detected := by cases l <;> rfl
@[simp] theorem State.setLink_resetting (l : Link) (x : LinkState) : (s.setLink l x).resetting = s.resetting := by cases l <;> rfl
@[simp] theorem State.setLink_races (l : Link) (x : LinkState) : (s.setLink l x).races = s.races := by cases l <;> rfl
@[simp] theorem State.setLink_pending (l : Link) (x : LinkState) : (s.setLink l x).pending = s.pending := by cases l <;> rfl
@[simp] theorem State.setLink_port_of (l : Link) (x : LinkState) (q : PortId) : (s.setLink l x).port q = s.port q := by cases l <;> rfl
@[simp] theorem State.setLink_component_of (l : Link) (x : LinkState) (q : ComponentId) : (s.setLink l x).component q = s.component q := by cases l <;> rfl
@[simp] theorem State.setLink_meter_of (l : Link) (x : LinkState) (q : MeterId) : (s.setLink l x).meter q = s.meter q := by cases l <;> rfl
@[simp] theorem State.setLink_slot_of (l : Link) (x : LinkState) (q : SlotId) : (s.setLink l x).slot q = s.slot q := by cases l <;> rfl
@[simp] theorem State.setLink_variant_of (l : Link) (x : LinkState) (q : VariantId) : (s.setLink l x).variant q = s.variant q := by cases l <;> rfl
@[simp] theorem State.setLink_route_of (l : Link) (x : LinkState) (q : RegionId) (r : SlotId) : (s.setLink l x).route q r = s.route q r := by cases l <;> rfl
@[simp] theorem State.setLink_region_of (l : Link) (x : LinkState) (q : RegionId) : (s.setLink l x).region q = s.region q := by cases l <;> rfl
@[simp] theorem State.setLink_feed_of (l : Link) (x : LinkState) (q : FeedId) : (s.setLink l x).feed q = s.feed q := by cases l <;> rfl
@[simp] theorem State.setLink_carousel_of (l : Link) (x : LinkState) (q : CarouselId) : (s.setLink l x).carousel q = s.carousel q := by cases l <;> rfl
@[simp] theorem State.setLink_claimant_of (l : Link) (x : LinkState) (q : RegionId) : (s.setLink l x).claimant q = s.claimant q := by cases l <;> rfl
@[simp] theorem State.setLink_mgmt_management (x : LinkState) : (s.setLink .management x).mgmt = x := rfl
@[simp] theorem State.setLink_mgmt_cue (x : LinkState) : (s.setLink .cue x).mgmt = s.mgmt := rfl
@[simp] theorem State.setLink_cueLink_management (x : LinkState) : (s.setLink .management x).cueLink = s.cueLink := rfl
@[simp] theorem State.setLink_cueLink_cue (x : LinkState) : (s.setLink .cue x).cueLink = x := rfl
@[simp] theorem State.setLink_link (l : Link) (x : LinkState) (q : Link) :
    (s.setLink l x).link q = if l = q then x else s.link q := by cases l <;> cases q <;> rfl
@[simp] theorem State.setLink_setLink (l : Link) (x y : LinkState) : (s.setLink l x).setLink l y = s.setLink l y := by
  cases l <;> rfl
@[simp] theorem State.setLink_self (l : Link) : s.setLink l (s.link l) = s := by cases l <;> rfl

end Sys2Proof.Machine
end

