-- ==== Sys2Proof/Laws/Links.lean ====
section
/-!
SUPPORT. The control links: what taking, answering and refusing a request, placing a notice and raising an event do.
-/
namespace Sys2Proof.Machine

variable (s : State)

/-! ## Requests -/

theorem received_resetting (l : Link) (f : Frame) : (received l f s).resetting = s.resetting := by simp [received]

/-- The link takes the frame at the head of its queue. -/
theorem takeRequest_received (l : Link) (f : Frame) (h : canTake l s) : takeRequest l (received l f s) = some (f, s) := by
  have hr : ¬ Config.replyCap ≤ (s.link l).replies.length := by have := h.2; omega
  simp only [takeRequest, received, State.setLink_resetting, h.1, State.setLink_link, hr, decide_false, Bool.or_self,
    Bool.false_eq_true, if_true, if_false, State.setLink_setLink]
  exact congrArg (fun x => some (f, x)) (State.setLink_self s l)

/-- While a RESET waits to take effect, or the reply queue is full, no request is taken. -/
theorem takeRequest_none (l : Link) (h : s.resetting = true ∨ Config.replyCap ≤ (s.link l).replies.length) :
    takeRequest l s = none := by
  rcases h with h | h <;> simp [takeRequest, h]

/-- A request command on a request of its own kind answers it. -/
theorem serve_received {α : Type} (l : Link) (f : Frame) (m : List Byte → Bool) (p : List Byte → Option α)
    (r : α → State → Answer) (h : canTake l s) :
    serve l f.kind m p r (received l f s) = answerRequest l m p r f s := by
  simp [serve, takeRequest_received s l f h]

/-- What `answerRequest` can do, said once. -/
theorem answerRequest_cases {α : Type} (l : Link) (m : List Byte → Bool) (p : List Byte → Option α)
    (run : α → State → Answer) (f : Frame) :
    (∃ r refs, answerRequest l m p run f s = refuse l f r refs s) ∨
      ∃ a body s', p f.body = some a ∧ run a s = .ok body s' ∧
        answerRequest l m p run f s = replied l f body s' := by
  unfold answerRequest
  split
  · exact .inl ⟨_, _, rfl⟩
  · split
    · exact .inl ⟨_, _, rfl⟩
    · next a ha =>
      split
      · exact .inl ⟨_, _, rfl⟩
      · next body s' hr => exact .inr ⟨a, body, s', ha, hr, rfl⟩

/-- A request that the link may carry, whose body is well formed and which its block takes. -/
theorem answerRequest_ok {α : Type} (l : Link) (m : List Byte → Bool) (p : List Byte → Option α)
    (run : α → State → Answer) (f : Frame) (a : α) (body : List Byte) (s' : State)
    (hm : l = .management ∨ m f.body = false) (hp : p f.body = some a) (hr : run a s = .ok body s') :
    answerRequest l m p run f s = replied l f body s' := by
  rcases hm with rfl | hm <;> simp [answerRequest, replied, *]

/-- A request that the cue link may not carry. -/
theorem answerRequest_notPermitted {α : Type} (m : List Byte → Bool) (p : List Byte → Option α)
    (run : α → State → Answer) (f : Frame) (hm : m f.body = true) :
    answerRequest .cue m p run f s = refuse .cue f .notPermitted [] s := by simp [answerRequest, hm]

@[simp] theorem replied_pending (l : Link) (f : Frame) (b : List Byte) : (replied l f b s).pending = s.pending := by
  simp [replied, addReply]

/-! ## Notices -/

/-- Two notices have the same key in the model exactly where the table of R191 gives them one kind and key. -/
theorem Notice.sameKey_iff (m n : Notice) : m.sameKey n = true ↔ m.sameKindAndKey n := by
  cases m <;> cases n <;> simp [Notice.sameKey, Notice.sameKindAndKey]
  all_goals grind

/-- A notice that replaces a waiting one leaves the queue's length. -/
theorem replaceWaiting_length (n : Notice) (q q' : List Notice) (h : replaceWaiting n q = some q') :
    q'.length = q.length := by
  induction q generalizing q' with
  | nil => simp [replaceWaiting] at h
  | cons a q ih =>
    simp only [replaceWaiting] at h
    split at h
    · cases h; simp
    · simp only [Option.map_eq_some_iff] at h
      obtain ⟨x, hx, rfl⟩ := h
      simp [ih x hx]

/-- The waiting notice of the same key is replaced where it stands. -/
theorem replaceWaiting_append (new old : Notice) (pre post : List Notice) (hpre : ∀ x ∈ pre, new.sameKey x = false)
    (h : new.sameKey old = true) :
    replaceWaiting new (pre ++ old :: post) = some (pre ++ new.over old :: post) := by
  induction pre with
  | nil => simp [replaceWaiting, h]
  | cons a pre ih =>
    have ha := hpre a (by simp)
    simp [replaceWaiting, ha, ih fun x hx => hpre x (by simp [hx])]

/-- Nothing is replaced where no notice of the key waits. -/
theorem replaceWaiting_none (new : Notice) (q : List Notice) (h : ∀ x ∈ q, new.sameKey x = false) :
    replaceWaiting new q = none := by
  induction q with
  | nil => rfl
  | cons a q ih => simp [replaceWaiting, h a (by simp), ih fun x hx => h x (by simp [hx])]

/-- A bounded notice queue stays bounded. -/
theorem LinkState.place_length (k : LinkState) (n : Notice) (h : k.notices.length ≤ 32) :
    (k.place n).notices.length ≤ 32 := by
  unfold LinkState.place
  split
  · next q hq => simpa [replaceWaiting_length _ _ _ hq] using h
  · split
    · next hlt => simp [Config.noticeCap] at hlt; simpa using hlt
    · exact h

/-- Placing a notice changes the notice queue and the lost flag alone. -/
theorem LinkState.place_same (k : LinkState) (n : Notice) : k.sameButNotices (k.place n) := by
  refine ⟨?_, k.place_length n⟩
  unfold LinkState.place
  split
  · rfl
  · split <;> rfl

theorem LinkState.sameButNotices.refl (k : LinkState) : k.sameButNotices k := ⟨rfl, id⟩

theorem LinkState.sameButNotices.trans {a b c : LinkState} (h : a.sameButNotices b) (h' : b.sameButNotices c) :
    a.sameButNotices c := by
  obtain ⟨h1, h2⟩ := h
  obtain ⟨g1, g2⟩ := h'
  exact ⟨by rw [g1, h1], g2 ∘ h2⟩

theorem LinkState.sameButNotices.bounded {a b : LinkState} (h : a.sameButNotices b) (ha : a.bounded) : b.bounded := by
  have hr : b.requests = a.requests := by rw [h.1]
  have hp : b.replies = a.replies := by rw [h.1]
  exact ⟨hr ▸ ha.1, hp ▸ ha.2.1, h.2 ha.2.2⟩

theorem LinkState.placeEvent_same (k : LinkState) (c : Cause) (o : ObjRef) (t : Clock) :
    k.sameButNotices (k.placeEvent c o t) := by
  unfold LinkState.placeEvent
  split
  · exact place_same _ _
  · exact .refl k

/-! ## Frames of what only reports, switches, or moves health -/

theorem OnlyReports.refl : OnlyReports s s := ⟨rfl, .refl _, .refl _⟩

theorem OnlyReports.trans {a b c : State} (h : OnlyReports a b) (h' : OnlyReports b c) : OnlyReports a c := by
  obtain ⟨h1, h2, h3⟩ := h
  obtain ⟨g1, g2, g3⟩ := h'
  refine ⟨?_, h2.trans g2, h3.trans g3⟩
  rw [g1, h1]

theorem OnlySwitching.refl : OnlySwitching s s := ⟨rfl, .refl _, .refl _⟩

theorem OnlySwitching.trans {a b c : State} (h : OnlySwitching a b) (h' : OnlySwitching b c) : OnlySwitching a c := by
  obtain ⟨h1, h2, h3⟩ := h
  obtain ⟨g1, g2, g3⟩ := h'
  refine ⟨?_, h2.trans g2, h3.trans g3⟩
  rw [g1, h1]

theorem OnlyHealth.refl : OnlyHealth s s := ⟨rfl, .refl _, .refl _⟩

theorem OnlyHealth.trans {a b c : State} (h : OnlyHealth a b) (h' : OnlyHealth b c) : OnlyHealth a c := by
  obtain ⟨h1, h2, h3⟩ := h
  obtain ⟨g1, g2, g3⟩ := h'
  refine ⟨?_, h2.trans g2, h3.trans g3⟩
  rw [g1, h1]

theorem OnlyReports.switching {a b : State} (h : OnlyReports a b) : OnlySwitching a b := by
  obtain ⟨h1, h2, h3⟩ := h
  refine ⟨?_, h2, h3⟩
  rw [h1]

theorem OnlySwitching.health {a b : State} (h : OnlySwitching a b) : OnlyHealth a b := by
  obtain ⟨h1, h2, h3⟩ := h
  refine ⟨?_, h2, h3⟩
  rw [h1]

theorem OnlyReports.health {a b : State} (h : OnlyReports a b) : OnlyHealth a b := h.switching.health

/-- Raising an event makes reports alone. -/
theorem raiseEvent_only (c : Cause) (o : ObjRef) : OnlyReports s (raiseEvent c o s) :=
  ⟨rfl, LinkState.placeEvent_same _ _ _ _, LinkState.placeEvent_same _ _ _ _⟩

theorem notifyMgmt_only (n : Notice) : OnlyReports s (notifyMgmt n s) :=
  ⟨rfl, LinkState.place_same _ _, .refl _⟩

theorem notifyBoth_only (n : Notice) : OnlyReports s (notifyBoth n s) :=
  ⟨rfl, LinkState.place_same _ _, LinkState.place_same _ _⟩

/-- Raising an event sets its class's detected flag and no other. -/
theorem raiseEvent_has (c : Cause) (o : ObjRef) (e : EventClass) :
    (raiseEvent c o s).detected.has e = (s.detected.has e || decide (e = c.cls)) := by
  simp only [raiseEvent]
  generalize c.cls = k
  cases e <;> cases k <;> simp [ClassSet.with, ClassSet.has]

/-! ## Fields that reports leave alone -/

@[simp] theorem raiseEvent_clock (c : Cause) (o : ObjRef) : (raiseEvent c o s).clock = s.clock := rfl
@[simp] theorem raiseEvent_offset (c : Cause) (o : ObjRef) : (raiseEvent c o s).offset = s.offset := rfl
@[simp] theorem raiseEvent_ports (c : Cause) (o : ObjRef) : (raiseEvent c o s).ports = s.ports := rfl
@[simp] theorem raiseEvent_lastServed (c : Cause) (o : ObjRef) : (raiseEvent c o s).lastServed = s.lastServed := rfl
@[simp] theorem raiseEvent_components (c : Cause) (o : ObjRef) : (raiseEvent c o s).components = s.components := rfl
@[simp] theorem raiseEvent_pool (c : Cause) (o : ObjRef) : (raiseEvent c o s).pool = s.pool := rfl
@[simp] theorem raiseEvent_meters (c : Cause) (o : ObjRef) : (raiseEvent c o s).meters = s.meters := rfl
@[simp] theorem raiseEvent_slots (c : Cause) (o : ObjRef) : (raiseEvent c o s).slots = s.slots := rfl
@[simp] theorem raiseEvent_variants (c : Cause) (o : ObjRef) : (raiseEvent c o s).variants = s.variants := rfl
@[simp] theorem raiseEvent_cues (c : Cause) (o : ObjRef) : (raiseEvent c o s).cues = s.cues := rfl
@[simp] theorem raiseEvent_insertion (c : Cause) (o : ObjRef) : (raiseEvent c o s).insertion = s.insertion := rfl
@[simp] theorem raiseEvent_changes (c : Cause) (o : ObjRef) : (raiseEvent c o s).changes = s.changes := rfl
@[simp] theorem raiseEvent_falling (c : Cause) (o : ObjRef) : (raiseEvent c o s).falling = s.falling := rfl
@[simp] theorem raiseEvent_routes (c : Cause) (o : ObjRef) : (raiseEvent c o s).routes = s.routes := rfl
@[simp] theorem raiseEvent_tallies (c : Cause) (o : ObjRef) : (raiseEvent c o s).tallies = s.tallies := rfl
@[simp] theorem raiseEvent_claims (c : Cause) (o : ObjRef) : (raiseEvent c o s).claims = s.claims := rfl
@[simp] theorem raiseEvent_regions (c : Cause) (o : ObjRef) : (raiseEvent c o s).regions = s.regions := rfl
@[simp] theorem raiseEvent_feeds (c : Cause) (o : ObjRef) : (raiseEvent c o s).feeds = s.feeds := rfl
@[simp] theorem raiseEvent_carousels (c : Cause) (o : ObjRef) : (raiseEvent c o s).carousels = s.carousels := rfl
@[simp] theorem raiseEvent_capture (c : Cause) (o : ObjRef) : (raiseEvent c o s).capture = s.capture := rfl
@[simp] theorem raiseEvent_resetting (c : Cause) (o : ObjRef) : (raiseEvent c o s).resetting = s.resetting := rfl
@[simp] theorem raiseEvent_races (c : Cause) (o : ObjRef) : (raiseEvent c o s).races = s.races := rfl
@[simp] theorem raiseEvent_pending (c : Cause) (o : ObjRef) : (raiseEvent c o s).pending = s.pending := rfl
@[simp] theorem raiseEvent_port_of (c : Cause) (o : ObjRef) (q : PortId) : (raiseEvent c o s).port q = s.port q := rfl
@[simp] theorem raiseEvent_component_of (c : Cause) (o : ObjRef) (q : ComponentId) : (raiseEvent c o s).component q = s.component q := rfl
@[simp] theorem raiseEvent_meter_of (c : Cause) (o : ObjRef) (q : MeterId) : (raiseEvent c o s).meter q = s.meter q := rfl
@[simp] theorem raiseEvent_slot_of (c : Cause) (o : ObjRef) (q : SlotId) : (raiseEvent c o s).slot q = s.slot q := rfl
@[simp] theorem raiseEvent_variant_of (c : Cause) (o : ObjRef) (q : VariantId) : (raiseEvent c o s).variant q = s.variant q := rfl
@[simp] theorem raiseEvent_route_of (c : Cause) (o : ObjRef) (q : RegionId) (r : SlotId) : (raiseEvent c o s).route q r = s.route q r := rfl
@[simp] theorem raiseEvent_region_of (c : Cause) (o : ObjRef) (q : RegionId) : (raiseEvent c o s).region q = s.region q := rfl
@[simp] theorem raiseEvent_feed_of (c : Cause) (o : ObjRef) (q : FeedId) : (raiseEvent c o s).feed q = s.feed q := rfl
@[simp] theorem raiseEvent_carousel_of (c : Cause) (o : ObjRef) (q : CarouselId) : (raiseEvent c o s).carousel q = s.carousel q := rfl
@[simp] theorem raiseEvent_claimant_of (c : Cause) (o : ObjRef) (q : RegionId) : (raiseEvent c o s).claimant q = s.claimant q := rfl
@[simp] theorem notifyMgmt_clock (n : Notice) : (notifyMgmt n s).clock = s.clock := rfl
@[simp] theorem notifyMgmt_offset (n : Notice) : (notifyMgmt n s).offset = s.offset := rfl
@[simp] theorem notifyMgmt_ports (n : Notice) : (notifyMgmt n s).ports = s.ports := rfl
@[simp] theorem notifyMgmt_lastServed (n : Notice) : (notifyMgmt n s).lastServed = s.lastServed := rfl
@[simp] theorem notifyMgmt_components (n : Notice) : (notifyMgmt n s).components = s.components := rfl
@[simp] theorem notifyMgmt_pool (n : Notice) : (notifyMgmt n s).pool = s.pool := rfl
@[simp] theorem notifyMgmt_meters (n : Notice) : (notifyMgmt n s).meters = s.meters := rfl
@[simp] theorem notifyMgmt_slots (n : Notice) : (notifyMgmt n s).slots = s.slots := rfl
@[simp] theorem notifyMgmt_variants (n : Notice) : (notifyMgmt n s).variants = s.variants := rfl
@[simp] theorem notifyMgmt_cues (n : Notice) : (notifyMgmt n s).cues = s.cues := rfl
@[simp] theorem notifyMgmt_insertion (n : Notice) : (notifyMgmt n s).insertion = s.insertion := rfl
@[simp] theorem notifyMgmt_changes (n : Notice) : (notifyMgmt n s).changes = s.changes := rfl
@[simp] theorem notifyMgmt_falling (n : Notice) : (notifyMgmt n s).falling = s.falling := rfl
@[simp] theorem notifyMgmt_routes (n : Notice) : (notifyMgmt n s).routes = s.routes := rfl
@[simp] theorem notifyMgmt_tallies (n : Notice) : (notifyMgmt n s).tallies = s.tallies := rfl
@[simp] theorem notifyMgmt_claims (n : Notice) : (notifyMgmt n s).claims = s.claims := rfl
@[simp] theorem notifyMgmt_regions (n : Notice) : (notifyMgmt n s).regions = s.regions := rfl
@[simp] theorem notifyMgmt_feeds (n : Notice) : (notifyMgmt n s).feeds = s.feeds := rfl
@[simp] theorem notifyMgmt_carousels (n : Notice) : (notifyMgmt n s).carousels = s.carousels := rfl
@[simp] theorem notifyMgmt_capture (n : Notice) : (notifyMgmt n s).capture = s.capture := rfl
@[simp] theorem notifyMgmt_cueLink (n : Notice) : (notifyMgmt n s).cueLink = s.cueLink := rfl
@[simp] theorem notifyMgmt_detected (n : Notice) : (notifyMgmt n s).detected = s.detected := rfl
@[simp] theorem notifyMgmt_resetting (n : Notice) : (notifyMgmt n s).resetting = s.resetting := rfl
@[simp] theorem notifyMgmt_races (n : Notice) : (notifyMgmt n s).races = s.races := rfl
@[simp] theorem notifyMgmt_pending (n : Notice) : (notifyMgmt n s).pending = s.pending := rfl
@[simp] theorem notifyMgmt_port_of (n : Notice) (q : PortId) : (notifyMgmt n s).port q = s.port q := rfl
@[simp] theorem notifyMgmt_component_of (n : Notice) (q : ComponentId) : (notifyMgmt n s).component q = s.component q := rfl
@[simp] theorem notifyMgmt_meter_of (n : Notice) (q : MeterId) : (notifyMgmt n s).meter q = s.meter q := rfl
@[simp] theorem notifyMgmt_slot_of (n : Notice) (q : SlotId) : (notifyMgmt n s).slot q = s.slot q := rfl
@[simp] theorem notifyMgmt_variant_of (n : Notice) (q : VariantId) : (notifyMgmt n s).variant q = s.variant q := rfl
@[simp] theorem notifyMgmt_route_of (n : Notice) (q : RegionId) (r : SlotId) : (notifyMgmt n s).route q r = s.route q r := rfl
@[simp] theorem notifyMgmt_region_of (n : Notice) (q : RegionId) : (notifyMgmt n s).region q = s.region q := rfl
@[simp] theorem notifyMgmt_feed_of (n : Notice) (q : FeedId) : (notifyMgmt n s).feed q = s.feed q := rfl
@[simp] theorem notifyMgmt_carousel_of (n : Notice) (q : CarouselId) : (notifyMgmt n s).carousel q = s.carousel q := rfl
@[simp] theorem notifyMgmt_claimant_of (n : Notice) (q : RegionId) : (notifyMgmt n s).claimant q = s.claimant q := rfl
@[simp] theorem notifyBoth_clock (n : Notice) : (notifyBoth n s).clock = s.clock := rfl
@[simp] theorem notifyBoth_offset (n : Notice) : (notifyBoth n s).offset = s.offset := rfl
@[simp] theorem notifyBoth_ports (n : Notice) : (notifyBoth n s).ports = s.ports := rfl
@[simp] theorem notifyBoth_lastServed (n : Notice) : (notifyBoth n s).lastServed = s.lastServed := rfl
@[simp] theorem notifyBoth_components (n : Notice) : (notifyBoth n s).components = s.components := rfl
@[simp] theorem notifyBoth_pool (n : Notice) : (notifyBoth n s).pool = s.pool := rfl
@[simp] theorem notifyBoth_meters (n : Notice) : (notifyBoth n s).meters = s.meters := rfl
@[simp] theorem notifyBoth_slots (n : Notice) : (notifyBoth n s).slots = s.slots := rfl
@[simp] theorem notifyBoth_variants (n : Notice) : (notifyBoth n s).variants = s.variants := rfl
@[simp] theorem notifyBoth_cues (n : Notice) : (notifyBoth n s).cues = s.cues := rfl
@[simp] theorem notifyBoth_insertion (n : Notice) : (notifyBoth n s).insertion = s.insertion := rfl
@[simp] theorem notifyBoth_changes (n : Notice) : (notifyBoth n s).changes = s.changes := rfl
@[simp] theorem notifyBoth_falling (n : Notice) : (notifyBoth n s).falling = s.falling := rfl
@[simp] theorem notifyBoth_routes (n : Notice) : (notifyBoth n s).routes = s.routes := rfl
@[simp] theorem notifyBoth_tallies (n : Notice) : (notifyBoth n s).tallies = s.tallies := rfl
@[simp] theorem notifyBoth_claims (n : Notice) : (notifyBoth n s).claims = s.claims := rfl
@[simp] theorem notifyBoth_regions (n : Notice) : (notifyBoth n s).regions = s.regions := rfl
@[simp] theorem notifyBoth_feeds (n : Notice) : (notifyBoth n s).feeds = s.feeds := rfl
@[simp] theorem notifyBoth_carousels (n : Notice) : (notifyBoth n s).carousels = s.carousels := rfl
@[simp] theorem notifyBoth_capture (n : Notice) : (notifyBoth n s).capture = s.capture := rfl
@[simp] theorem notifyBoth_detected (n : Notice) : (notifyBoth n s).detected = s.detected := rfl
@[simp] theorem notifyBoth_resetting (n : Notice) : (notifyBoth n s).resetting = s.resetting := rfl
@[simp] theorem notifyBoth_races (n : Notice) : (notifyBoth n s).races = s.races := rfl
@[simp] theorem notifyBoth_pending (n : Notice) : (notifyBoth n s).pending = s.pending := rfl
@[simp] theorem notifyBoth_port_of (n : Notice) (q : PortId) : (notifyBoth n s).port q = s.port q := rfl
@[simp] theorem notifyBoth_component_of (n : Notice) (q : ComponentId) : (notifyBoth n s).component q = s.component q := rfl
@[simp] theorem notifyBoth_meter_of (n : Notice) (q : MeterId) : (notifyBoth n s).meter q = s.meter q := rfl
@[simp] theorem notifyBoth_slot_of (n : Notice) (q : SlotId) : (notifyBoth n s).slot q = s.slot q := rfl
@[simp] theorem notifyBoth_variant_of (n : Notice) (q : VariantId) : (notifyBoth n s).variant q = s.variant q := rfl
@[simp] theorem notifyBoth_route_of (n : Notice) (q : RegionId) (r : SlotId) : (notifyBoth n s).route q r = s.route q r := rfl
@[simp] theorem notifyBoth_region_of (n : Notice) (q : RegionId) : (notifyBoth n s).region q = s.region q := rfl
@[simp] theorem notifyBoth_feed_of (n : Notice) (q : FeedId) : (notifyBoth n s).feed q = s.feed q := rfl
@[simp] theorem notifyBoth_carousel_of (n : Notice) (q : CarouselId) : (notifyBoth n s).carousel q = s.carousel q := rfl
@[simp] theorem notifyBoth_claimant_of (n : Notice) (q : RegionId) : (notifyBoth n s).claimant q = s.claimant q := rfl

end Sys2Proof.Machine
end

