-- ==== Sys2Proof/Laws/Switching.lean ====
section
/-!
SUPPORT. The routes and the schedule: an event of theirs moves routes, the schedule and reports alone, and a route event
moves the one route it is about.
-/
namespace Sys2Proof.Machine

variable (s : State)

theorem foldl_switching {α : Type} (f : State → α → State) (h : ∀ t x, OnlySwitching t (f t x)) (l : List α) :
    OnlySwitching s (l.foldl f s) := by
  induction l generalizing s with
  | nil => exact .refl s
  | cons a l ih => exact (h s a).trans (ih _)

theorem foldl_health {α : Type} (f : State → α → State) (h : ∀ t x, OnlyHealth t (f t x)) (l : List α) :
    OnlyHealth s (l.foldl f s) := by
  induction l generalizing s with
  | nil => exact .refl s
  | cons a l ih => exact (h s a).trans (ih _)

theorem countChange_only : OnlySwitching s (countChange s) := ⟨rfl, .refl _, .refl _⟩

theorem setRoute_only (g : RegionId) (sl : SlotId) (r : Route) : OnlySwitching s (s.setRoute g sl r) := ⟨rfl, .refl _, .refl _⟩

theorem removeCue_only (id : Nat) : OnlySwitching s (removeCue id s) := ⟨rfl, .refl _, .refl _⟩

theorem enterCue_only (c : Cue) : OnlySwitching s (enterCue c s) := by
  unfold enterCue renumberFull
  split <;> exact ⟨rfl, .refl _, .refl _⟩

theorem completeCue_only (c : Cue) : OnlySwitching s (completeCue c s) := by
  unfold completeCue
  split
  · exact (notifyBoth_only _ _).switching.trans (removeCue_only _ _)
  · dsimp only
    split
    · exact ((notifyBoth_only s _).switching.trans (enterCue_only _ _)).trans ⟨rfl, .refl _, .refl _⟩
    · exact (notifyBoth_only s _).switching.trans (enterCue_only _ _)

theorem recordOutcome_only (id : Nat) (g : RegionId) (o : CueOutcome) : OnlySwitching s (recordOutcome id g o s) := by
  unfold recordOutcome
  split
  · exact .refl s
  · split
    · exact .refl s
    · dsimp only
      split
      · exact OnlySwitching.trans (b := { s with cues := _ }) ⟨rfl, .refl _, .refl _⟩ (completeCue_only _ _)
      · exact ⟨rfl, .refl _, .refl _⟩

theorem giveOutcome_only (g : RegionId) (x : Option Given) : OnlySwitching s (giveOutcome g x s) := by
  unfold giveOutcome
  split
  · exact recordOutcome_only _ _ _ _
  · exact .refl s
  · exact .refl s

theorem notifyRoute_only (g : RegionId) (sl : SlotId) (old new : Route) (c : RouteCause) (x y : Option Given) :
    OnlySwitching s (notifyRoute g sl old new c x y s) := by
  unfold notifyRoute
  split
  · exact (notifyBoth_only _ _).switching
  · exact .refl s

/-- A route event moves routes, the schedule and reports alone. -/
theorem commitRoute_only (g : RegionId) (sl : SlotId) (new : Route) (c : RouteCause) (x y : Option Given) :
    OnlySwitching s (commitRoute g sl new c x y s) :=
  (((setRoute_only s g sl new).trans (giveOutcome_only _ _ _)).trans (notifyRoute_only _ _ _ _ _ _ _ _)).trans
    (giveOutcome_only _ _ _)

theorem reach_only (g : RegionId) (sl : SlotId) (a : Ask) : OnlySwitching s (reach g sl a s) := commitRoute_only _ _ _ _ _ _ _

theorem handOver_only (c : Cue) : OnlySwitching s (handOver c s) := by
  unfold handOver
  exact OnlySwitching.trans (b := countChange { s with cues := _ }) ⟨rfl, .refl _, .refl _⟩
    (foldl_switching _ _ (fun t g => reach_only t g _ _) _)

theorem expireCue_only (c : Cue) (n : Nat) : OnlySwitching s (expireCue c n s) := by
  unfold expireCue
  dsimp only
  split
  · exact (notifyBoth_only _ _).switching.trans (removeCue_only _ _)
  · exact (notifyBoth_only _ _).switching.trans (enterCue_only _ _)

theorem measureCue_only (c : Cue) : OnlySwitching s (measureCue c s) := by
  unfold measureCue
  split
  · dsimp only
    split
    · exact .refl s
    · split
      · exact handOver_only _ _
      · exact expireCue_only _ _ _
  · exact .refl s

theorem settleCues_only (n : Nat) : OnlySwitching s (settleCues n s) := by
  induction n generalizing s with
  | zero => exact ⟨rfl, .refl _, .refl _⟩
  | succ n ih =>
    unfold settleCues
    split
    · exact ⟨rfl, .refl _, .refl _⟩
    · next c _ =>
      exact OnlySwitching.trans (b := { s with falling := s.falling.filter fun i => i != c.id }) ⟨rfl, .refl _, .refl _⟩
        ((measureCue_only _ c).trans (ih _))

/-- The end of an event moves routes, the schedule and reports alone. -/
theorem settle_only : OnlySwitching s (settle s) := settleCues_only _ _

theorem markRoute_only (sl : SlotId) (x : Target) (g : RegionId) : OnlySwitching s (markRoute sl x s g) := by
  unfold markRoute
  dsimp only
  split
  · split
    · exact commitRoute_only _ _ _ _ _ _ _
    · exact .refl s
  · split
    · exact commitRoute_only _ _ _ _ _ _ _
    · exact .refl s
  all_goals exact .refl s

theorem takeMark_only (sl : SlotId) (x : Target) : OnlySwitching s (takeMark sl x s) :=
  foldl_switching _ _ (fun t g => markRoute_only t sl x g) _

theorem expireRoute_only (g : RegionId) (sl : SlotId) : OnlySwitching s (expireRoute g sl s) := by
  unfold expireRoute
  dsimp only
  split
  · exact (commitRoute_only _ _ _ _ _ _ _).trans (raiseEvent_only _ _ _).switching
  · exact commitRoute_only _ _ _ _ _ _ _
  · exact (commitRoute_only _ _ _ _ _ _ _).trans (raiseEvent_only _ _ _).switching
  all_goals exact .refl s

theorem confirmRoute_only (id : Nat) (sl : SlotId) (g : RegionId) : OnlySwitching s (confirmRoute id sl s g) := by
  unfold confirmRoute
  dsimp only
  split
  · split
    · split <;> exact commitRoute_only _ _ _ _ _ _ _
    · exact .refl s
  all_goals exact .refl s

theorem cancelRoute_only (id : Nat) (sl : SlotId) (g : RegionId) : OnlySwitching s (cancelRoute id sl s g) := by
  unfold cancelRoute
  dsimp only
  split
  · exact commitRoute_only _ _ _ _ _ _ _
  · exact .refl s

theorem holdRoute_only (sl : SlotId) (g : RegionId) : OnlySwitching s (holdRoute sl s g) := by
  unfold holdRoute
  dsimp only
  split <;> exact commitRoute_only _ _ _ _ _ _ _

theorem freeRoute_only (sl : SlotId) (g : RegionId) : OnlySwitching s (freeRoute sl s g) := commitRoute_only _ _ _ _ _ _ _

theorem starveRoute_only (v : VariantId) (x : RegionId × SlotId) : OnlySwitching s (starveRoute v s x) := by
  unfold starveRoute
  dsimp only
  repeat' split
  all_goals first | exact commitRoute_only _ _ _ _ _ _ _ | exact .refl s

theorem healthyRoute_only (v : VariantId) (x : RegionId × SlotId) : OnlySwitching s (healthyRoute v s x) := by
  unfold healthyRoute
  dsimp only
  repeat' split
  all_goals first | exact commitRoute_only _ _ _ _ _ _ _ | exact .refl s

/-! ## The one route that an event is about -/

theorem enterCue_routes (c : Cue) : (enterCue c s).routes = s.routes := by
  unfold enterCue renumberFull
  split <;> rfl

theorem completeCue_routes (c : Cue) : (completeCue c s).routes = s.routes := by
  unfold completeCue
  split
  · rfl
  · dsimp only
    split <;> simp [enterCue_routes]

theorem recordOutcome_routes (id : Nat) (g : RegionId) (o : CueOutcome) :
    (recordOutcome id g o s).routes = s.routes := by
  unfold recordOutcome
  split
  · rfl
  · split
    · rfl
    · dsimp only
      split
      · simp [completeCue_routes]
      · rfl

theorem giveOutcome_routes (g : RegionId) (x : Option Given) : (giveOutcome g x s).routes = s.routes := by
  unfold giveOutcome
  split
  · exact recordOutcome_routes _ _ _ _
  · rfl
  · rfl

theorem notifyRoute_routes (g : RegionId) (sl : SlotId) (old new : Route) (c : RouteCause) (x y : Option Given) :
    (notifyRoute g sl old new c x y s).routes = s.routes := by
  unfold notifyRoute
  split <;> rfl

/-- A route event gives its route the record it names and leaves every other route as it was. -/
theorem commitRoute_routes (g : RegionId) (sl : SlotId) (new : Route) (c : RouteCause) (x y : Option Given) :
    (commitRoute g sl new c x y s).routes = (s.setRoute g sl new).routes := by
  simp [commitRoute, giveOutcome_routes, notifyRoute_routes]

theorem commitRoute_route (g : RegionId) (sl : SlotId) (new : Route) (c : RouteCause) (x y : Option Given)
    (h : RegionId) (tl : SlotId) :
    (commitRoute g sl new c x y s).route h tl = if g = h ∧ sl = tl then new else s.route h tl := by
  rw [← State.setRoute_route]
  simp only [State.route, commitRoute_routes]

/-! ## Settling with nothing to settle -/

/-- Where no cue has fallen due, the end of an event changes nothing. -/
theorem settle_nil (h : s.falling = []) : settle s = s := by
  have hf : s.nextToFall = none := by simp [State.nextToFall, h]
  unfold settle settleCues
  rw [hf, ← h]

/-- What the event in progress deals with next, said once: a cue of the schedule that has fallen due in the event or is due
at this tick, with none of either kind before it, and only while one of the first kind stands in the schedule (R98). -/
theorem nextToFall_some (c : Cue) (h : s.nextToFall = some c) :
    (∃ x ∈ s.cues, x.id ∈ s.falling) ∧ (c.id ∈ s.falling ∨ s.isDue c = true) ∧
      ∃ pre post, s.cues = pre ++ c :: post ∧ ∀ y ∈ pre, y.id ∉ s.falling ∧ s.isDue y = false := by
  unfold State.nextToFall at h
  split at h
  · next ha =>
    obtain ⟨hc, pre, post, hp, hn⟩ := List.find?_eq_some_iff_append.1 h
    exact ⟨by simpa using ha, by simpa using hc, pre, post, hp, fun y hy => by simpa using hn y hy⟩
  · exact absurd h (by simp)

/-! ## An outcome given, said once -/

theorem mem_insertCue (c : Cue) (l : List Cue) : c ∈ insertCue c l := by
  induction l with
  | nil => simp [insertCue]
  | cons x rest ih =>
    unfold insertCue
    split
    · simp
    · exact List.mem_cons_of_mem _ ih

/-- A cue entered in the schedule leaves the cues of other ids as they stood. -/
theorem withoutCue_insertCue (c : Cue) (l : List Cue) : withoutCue c.id (insertCue c l) = withoutCue c.id l := by
  induction l with
  | nil => simp [insertCue, withoutCue]
  | cons x rest ih =>
    unfold insertCue
    split
    · simp [withoutCue]
    · simp only [withoutCue, List.filter_cons] at ih ⊢
      rw [ih]

theorem withoutCue_idem (id : Nat) (l : List Cue) : withoutCue id (withoutCue id l) = withoutCue id l := by
  simp [withoutCue, List.filter_filter]

/-- What entering a cue does, said once, while the insertion counter is below its maximum (R93). -/
theorem enterCue_enters (c : Cue) (h : s.insertion < 4294967295) :
    enterCue c s = { s with
      cues := insertCue { c with insertion := s.insertion } (withoutCue c.id s.cues), insertion := s.insertion + 1
      changes := s.changes + 1 } := by
  have : renumberFull s = s := if_neg fun e => absurd (e ▸ h) (Nat.lt_irrefl _)
  unfold enterCue
  rw [this]
  rfl

theorem lateness_nextDay (c : Cue) (now : Nat) : lateness now c.nextDay = c.nextLate now := by
  unfold lateness Cue.nextLate Cue.nextDay
  simp only [Config.stationSpan, Nat.mod_mod]
  rw [Nat.add_sub_assoc (Nat.mod_lt _ (by decide)).le]

/-- The next occurrence is the one that R103 gives. -/
theorem nextOccurrence_reenters (c : Cue) : s.reentersAt c (nextOccurrence s.station c.due).1 := by
  unfold State.reentersAt nextOccurrence
  cases s.station with
  | none => rfl
  | some now =>
    have hd : (c.due + Config.dayTicks) % Config.stationSpan = c.nextDay := rfl
    simp only [hd, lateness_nextDay, Config.halfSpan, Config.lateLimit]
    generalize c.nextLate now = late
    by_cases h1 : 76441190400000000 ≤ late
    · rw [if_pos h1, if_neg fun h => absurd h1 (Nat.not_le.2 h.2)]
    · by_cases h2 : late ≤ 270000000
      · rw [if_neg h1, if_pos h2, if_neg fun h => absurd h2 (Nat.not_le.2 h.1)]
      · rw [if_neg h1, if_neg h2, if_pos ⟨Nat.not_le.1 h2, Nat.not_le.1 h1⟩]
        exact ⟨late / 2332800000000 + 1, by omega, by omega, by omega, by
          simp only [advanceDue, Config.dayTicks, Config.stationSpan]⟩

/-- A DAILY cue whose next day does not fall due at once waits. -/
theorem nextOccurrence_waits (c : Cue) (hr : c.rpt = .daily) (hw : s.nextWaits c) :
    (nextOccurrence s.station c.due).2 = false := by
  unfold nextOccurrence
  cases hs : s.station with
  | none => rfl
  | some now =>
    have h := hw hr now hs
    have hd : (c.due + Config.dayTicks) % Config.stationSpan = c.nextDay := rfl
    simp only [hd, lateness_nextDay, Config.halfSpan, Config.lateLimit]
    split
    · rfl
    · rw [if_neg (by omega)]

/-- What a completion does, said once, where the cue does not fall due again at once: it is removed, or re-entered for its
next occurrence (R102, R103). -/
theorem completeCue_completed (c : Cue) (hi : c.rpt = .daily → s.insertion < 4294967295) (hw : s.nextWaits c) :
    Completed c s (completeCue c s) ∧ (completeCue c s).changes = s.changes + 1 ∧ (completeCue c s).falling = s.falling := by
  unfold Completed completeCue
  cases hr : c.rpt with
  | once => exact ⟨⟨rfl, rfl⟩, rfl, rfl⟩
  | daily =>
    dsimp only
    rw [nextOccurrence_waits s c hr hw, if_neg (by decide), enterCue_enters (notifyBoth (.cueDone c (some (nextOccurrence s.station c.due).1)) s) _ (hi hr)]
    exact ⟨⟨⟨_, nextOccurrence_reenters s c, mem_insertCue _ _⟩,
      (withoutCue_insertCue { c.waiting _ with insertion := s.insertion } (withoutCue c.id s.cues)).trans
        (withoutCue_idem c.id s.cues), rfl⟩, rfl, rfl⟩

/-- A completion reads of the schedule only the cues of other ids. -/
theorem Completed.of_others {c : Cue} {s s' t : State} (h : Completed c s' t) (hs : s'.station = s.station)
    (hi : s'.insertion = s.insertion)
    (hc : s'.cues.filter (fun x => x.id != c.id) = s.cues.filter fun x => x.id != c.id) : Completed c s t := by
  unfold Completed State.reentersAt at *
  rwa [hs, hi, hc] at h

/-- What an outcome does, said once, where it goes to an ACTIVE cue that does not fall due again at once (R100, R102,
R103). -/
theorem recordOutcome_given (b : Cue) (g : RegionId) (o : CueOutcome) (hb : b ∈ s.cues) (hn : (s.cues.map Cue.id).Nodup)
    (ha : b.state = .active) (hi : b.rpt = .daily → s.insertion < 4294967295) (hw : s.nextWaits b) :
    OutcomeGiven o b g s (recordOutcome b.id g o s) := by
  refine ⟨recordOutcome_only s _ _ _, recordOutcome_routes s _ _ _, ?_⟩
  have hf : s.cue b.id = some b := by
    cases hx : s.cue b.id with
    | none => exact absurd (List.find?_eq_none.1 hx b hb) (by simp)
    | some x =>
      have h2 : x.id = b.id := by simpa using List.find?_some hx
      exact congrArg some (List.inj_on_of_nodup_map hn (List.mem_of_find?_eq_some hx) hb h2)
  have hm : ∀ c' : Cue, c'.id = b.id →
      (mapCue b.id (fun _ => c') s.cues).filter (fun x => x.id != b.id) = s.cues.filter fun x => x.id != b.id := by
    intro c' hc
    unfold mapCue
    induction s.cues with
    | nil => rfl
    | cons x l ih =>
      by_cases hx : x.id = b.id <;> simp [hx, hc, ih]
  have hg : (b.record g o).allGiven = true ↔ ∀ x ∈ (b.record g o).outcomes, x.2 ≠ .none := by
    simp only [Cue.allGiven, List.all_eq_true, decide_eq_true_eq]
  have hr : recordOutcome b.id g o s =
      if (b.record g o).allGiven then completeCue (b.record g o) { s with cues := mapCue b.id (fun _ => b.record g o) s.cues }
      else { s with cues := mapCue b.id (fun _ => b.record g o) s.cues } := by
    unfold recordOutcome
    rw [hf]
    simp only [ha]
  rw [hr]
  by_cases hall : (b.record g o).allGiven = true
  · rw [if_pos hall]
    have hc := completeCue_completed { s with cues := mapCue b.id (fun _ => b.record g o) s.cues } (b.record g o) hi hw
    refine ⟨hc.2.2, ?_⟩
    rintro b' rfl
    exact (if_pos (hg.1 hall)).mpr ⟨hc.1.of_others rfl rfl (hm _ rfl), hc.2.1⟩
  · rw [if_neg hall]
    refine ⟨rfl, ?_⟩
    rintro b' rfl
    exact (if_neg (mt hg.2 hall)).mpr ⟨rfl, rfl, rfl⟩

/-! ## A change of source -/

/-- A route that takes another source marks the change (R117). -/
theorem Route.carry_mark (r : Route) (src : Source) (h : r.current ≠ src) : (r.carry src).markPending = true := by
  simp [Route.carry, h]

@[simp] theorem Route.carry_current (r : Route) (src : Source) : (r.carry src).current = src := rfl
@[simp] theorem Route.carry_intended (r : Route) (src : Source) : (r.carry src).intended = r.intended := rfl
@[simp] theorem Route.carry_state (r : Route) (src : Source) : (r.carry src).state = r.state := rfl
@[simp] theorem Route.carry_hold (r : Route) (src : Source) : (r.carry src).hold = r.hold := rfl
@[simp] theorem Route.switchTo_current (r : Route) (t : Target) : (r.switchTo t).current = t.source := rfl
@[simp] theorem Route.switchTo_intended (r : Route) (t : Target) : (r.switchTo t).intended = t := rfl
@[simp] theorem Route.switchTo_state (r : Route) (t : Target) : (r.switchTo t).state = .steady := rfl
@[simp] theorem Route.switchTo_hold (r : Route) (t : Target) : (r.switchTo t).hold = r.hold := rfl
@[simp] theorem Route.fallBack_current (r : Route) (v : VariantId) (x : Source) : (r.fallBack v x).current = x := rfl
@[simp] theorem Route.fallBack_intended (r : Route) (v : VariantId) (x : Source) :
    (r.fallBack v x).intended = .variant v := rfl
@[simp] theorem Route.fallBack_state (r : Route) (v : VariantId) (x : Source) : (r.fallBack v x).state = .fallback := rfl
@[simp] theorem Route.fallBack_hold (r : Route) (v : VariantId) (x : Source) : (r.fallBack v x).hold = r.hold := rfl

end Sys2Proof.Machine
end

