-- ==== Sys2Proof/Laws/Health.lean ====
section
/-!
SUPPORT. The health machine: its events move health, routes, the schedule and reports alone.
-/
namespace Sys2Proof.Machine

variable (s : State)

theorem setVariant_only (v : VariantId) (x : Option VariantDef) : OnlyHealth s (s.setVariant v x) := ⟨rfl, .refl _, .refl _⟩

/-- A variant that becomes STARVED moves health, routes, the schedule and reports alone. -/
theorem starve_only (v : VariantId) (c : HealthCause) : OnlyHealth s (starve v c s) := by
  unfold starve
  split
  · exact .refl s
  · split
    · exact .refl s
    · dsimp only
      refine OnlyHealth.trans ?_ (foldl_switching _ _ (fun t x => starveRoute_only t v x) _).health
      refine OnlyHealth.trans ?_ (notifyMgmt_only _ _).health
      split
      · exact (setVariant_only s v _).trans (raiseEvent_only _ _ _).health
      · exact setVariant_only s v _

/-- So does one that becomes HEALTHY. -/
theorem becomeHealthy_only (v : VariantId) (d : VariantDef) (t : Option Deadline) (c : HealthCause) :
    OnlyHealth s (becomeHealthy v d t c s) :=
  ((setVariant_only s v _).trans (notifyMgmt_only _ _).health).trans
    (foldl_switching _ _ (fun t x => healthyRoute_only t v x) _).health

theorem anchorArrival_only (v : VariantId) (e : Bool) : OnlyHealth s (anchorArrival v e s) := by
  unfold anchorArrival
  split
  · exact .refl s
  · dsimp only
    split
    · split
      · exact .refl s
      · split
        · exact becomeHealthy_only _ _ _ _ _
        · exact (setVariant_only s v _).trans (notifyMgmt_only _ _).health
    · exact setVariant_only s v _
    · exact setVariant_only s v _

theorem anchorGap_only (v : VariantId) : OnlyHealth s (anchorGap v s) := by
  unfold anchorGap
  split
  · exact .refl s
  · split
    · exact setVariant_only s v _
    · exact .refl s

theorem portLost_only (p : PortId) (c : HealthCause) : OnlyHealth s (portLost p c s) := by
  refine foldl_health _ _ (fun t v => ?_) _
  split
  · exact starve_only _ _ _
  · exact .refl t

theorem starvationExpires_only (v : VariantId) : OnlyHealth s (starvationExpires v s) := by
  unfold starvationExpires
  split
  · exact (starve_only _ _ _).trans (settle_only _).health
  · exact .refl s

theorem recoveryExpires_only (v : VariantId) : OnlyHealth s (recoveryExpires v s) := by
  unfold recoveryExpires
  split
  · exact .refl s
  · split
    · exact (becomeHealthy_only _ _ _ _ _).trans (settle_only _).health
    · exact .refl s

end Sys2Proof.Machine
end

