-- ==== Sys2Proof/Laws/Meters.lean ====
section
/-!
SUPPORT. What the operations of a meter can do (R65, R68, R70, R71).
-/
namespace Sys2Proof.Machine

variable (d : MeterDef) (p : Packet) (t : Clock)

/-- The refill changes the credit and the time of last update alone. -/
theorem MeterDef.refill_settings :
    (d.refill t).rate = d.rate ∧ (d.refill t).burst = d.burst ∧ (d.refill t).mode = d.mode := by
  unfold MeterDef.refill
  split <;> exact ⟨rfl, .refl _, .refl _⟩

/-- The refill keeps the credit within the cap. -/
theorem MeterDef.refilled_le (h : d.credit ≤ d.cap) : d.refilled t ≤ d.cap := by
  unfold MeterDef.refilled
  split
  · exact Nat.min_le_right _ _
  · exact h

theorem MeterDef.refill_credit (h : d.credit ≤ d.cap) : (d.refill t).credit ≤ d.cap := by
  unfold MeterDef.refill
  split
  · exact d.refilled_le t h
  · exact h

/-- What a decision leaves: the refilled meter, less the cost where the packet conforms. -/
theorem MeterDef.judge_fst :
    (d.judge p t).1 = d.refill t ∨
      d.cost p ≤ (d.refill t).credit ∧ (d.judge p t).1 = { d.refill t with credit := (d.refill t).credit - d.cost p } := by
  rw [MeterDef.judge]
  by_cases h : d.cost p ≤ (d.refill t).credit
  · rw [if_pos h]
    exact .inr ⟨h, rfl⟩
  · rw [if_neg h]
    exact .inl rfl

/-- A decision changes the credit and the time of last update alone. -/
theorem MeterDef.judge_settings :
    (d.judge p t).1.rate = d.rate ∧ (d.judge p t).1.burst = d.burst ∧ (d.judge p t).1.mode = d.mode := by
  rcases d.judge_fst p t with h | ⟨-, h⟩ <;> rw [h] <;> exact d.refill_settings t

/-- A decision takes no credit that is not there. -/
theorem MeterDef.judge_credit (h : d.credit ≤ d.cap) : (d.judge p t).1.credit ≤ d.cap := by
  rcases d.judge_fst p t with x | ⟨-, x⟩ <;> rw [x]
  · exact d.refill_credit t h
  · exact Nat.le_trans (Nat.sub_le _ _) (d.refill_credit t h)

end Sys2Proof.Machine
end

