-- ==== Sys2Proof/Laws/Packets.lean ====
section
/-!
SUPPORT. What the rewrites of a packet keep and what they write (R1, R152 to R154, R156).
-/
namespace Sys2Proof.Machine

@[simp] theorem setIdent_length (i : Ident) (p : Packet) : (setIdent i p).length = p.length := by simp [setIdent]
@[simp] theorem setContinuity_length (c : Continuity) (p : Packet) : (setContinuity c p).length = p.length := by
  simp [setContinuity]
@[simp] theorem setDiscFlag_length (p : Packet) : (setDiscFlag p).length = p.length := by simp [setDiscFlag]
@[simp] theorem fieldBytes_length (x : Nat) : (fieldBytes x).length = 6 := rfl

theorem restamp_length (d : Nat) (p : Packet) (h : p.length = 188) : (restamp d p).length = 188 := by
  simp [restamp, h]

/-- Byte `i` after byte `j` is replaced. -/
theorem byteAt_set (p : Packet) (i j : Nat) (b : Byte) :
    byteAt (p.set j b) i = if j = i ∧ i < p.length then b else byteAt p i := by
  unfold byteAt
  by_cases hj : j = i
  · subst hj
    by_cases hl : j < p.length
    · simp [hl, List.getD_eq_getElem?_getD]
    · simp [hl, List.getD_eq_getElem?_getD]
  · simp [hj, List.getD_eq_getElem?_getD]

theorem byteAt_setIdent (i : Ident) (p : Packet) (n : Nat) (h1 : n ≠ 1) (h2 : n ≠ 2) :
    byteAt (setIdent i p) n = byteAt p n := by
  simp [setIdent, byteAt_set, h1.symm, h2.symm]

theorem byteAt_setContinuity (c : Continuity) (p : Packet) (n : Nat) (h : n ≠ 3) :
    byteAt (setContinuity c p) n = byteAt p n := by
  simp [setContinuity, byteAt_set, h.symm]

theorem byteAt_setDiscFlag (p : Packet) (n : Nat) (h : n ≠ 5) : byteAt (setDiscFlag p) n = byteAt p n := by
  simp [setDiscFlag, byteAt_set, h.symm]

theorem byteAt_restamp (d : Nat) (p : Packet) (n : Nat) (h : n < 6) (hl : p.length = 188) :
    byteAt (restamp d p) n = byteAt p n := by
  unfold byteAt restamp
  simp only [List.getD_eq_getElem?_getD, List.append_assoc]
  rw [List.getElem?_append_left (by simp; omega)]
  simp [h]

theorem extract_append_low3 (a : BitVec 3) (x : BitVec 5) : (a ++ x : BitVec 8).extractLsb' 0 5 = x := by
  revert a x
  decide +kernel

theorem extract_append_low4 (a c : BitVec 4) : (a ++ c : BitVec 8).extractLsb' 0 4 = c := by
  revert a c
  decide +kernel

theorem ident_halves (i : Ident) : i.extractLsb' 8 5 ++ i.extractLsb' 0 8 = i := by
  ext k hk
  rw [BitVec.getElem_append]
  split
  · simp only [BitVec.getElem_extractLsb', Nat.zero_add]
    exact BitVec.getLsbD_eq_getElem hk
  · simp only [BitVec.getElem_extractLsb']
    rw [show 8 + (k - 8) = k by omega, BitVec.getLsbD_eq_getElem hk]

/-- The identifier written is the identifier read (R152). -/
theorem ident_setIdent (i : Ident) (p : Packet) (h : p.length = 188) : ident (setIdent i p) = i := by
  have h1 : byteAt (setIdent i p) 1 = (byteAt p 1).extractLsb' 5 3 ++ i.extractLsb' 8 5 := by
    simp [setIdent, byteAt_set, h]
  have h2 : byteAt (setIdent i p) 2 = i.extractLsb' 0 8 := by simp [setIdent, byteAt_set, h]
  rw [ident, h1, h2, extract_append_low3, ident_halves]

/-- The continuity count written is the count read (R154). -/
theorem continuity_setContinuity (c : Continuity) (p : Packet) (h : p.length = 188) : continuity (setContinuity c p) = c := by
  have h3 : byteAt (setContinuity c p) 3 = (byteAt p 3).extractLsb' 4 4 ++ c := by simp [setContinuity, byteAt_set, h]
  rw [continuity, h3, extract_append_low4]

end Sys2Proof.Machine
end

