-- ==== Sys2Proof/Laws/Pool.lean ====
section
/-!
SUPPORT. What the operations of the packet pool can do (R60, R63).
-/
namespace Sys2Proof.Machine

/-- A buffer that is taken was free. -/
theorem freshBuffer_fresh (pool : List Buffer) : ∀ b ∈ pool, b.id ≠ freshBuffer pool := by
  unfold freshBuffer
  cases h : (List.range (pool.length + 1)).find? fun n => pool.all fun b => b.id != n with
  | some n =>
    have := List.find?_some h
    intro b hb
    simpa using List.all_eq_true.1 this b hb
  | none =>
    exfalso
    have hall : ∀ n ∈ List.range (pool.length + 1), n ∈ pool.map Buffer.id := by
      intro n hn
      have := List.find?_eq_none.1 h n hn
      simpa [List.all_eq_true] using this
    have := (List.subperm_of_subset List.nodup_range hall).length_le
    simp at this

/-- A reference dropped leaves every other buffer as it was. -/
theorem mem_dropRef (id : Nat) (pool : List Buffer) (b : Buffer) (h : b.id ≠ id) : b ∈ dropRef id pool ↔ b ∈ pool := by
  unfold dropRef
  rw [List.mem_filterMap]
  constructor
  · rintro ⟨a, ha, e⟩
    split at e
    · rename_i hid
      split at e
      · exact absurd e (by simp)
      · rw [Option.some.injEq] at e
        subst e
        exact absurd (by simpa using hid) h
    · rw [Option.some.injEq] at e
      exact e ▸ ha
  · intro hb
    exact ⟨b, hb, by simp [h]⟩

/-- A reference dropped from a buffer that has more leaves it one fewer; one that drops the last makes it free. -/
theorem mem_dropRef_self (id : Nat) (pool : List Buffer) (b : Buffer) (h : b.id = id) :
    b ∈ dropRef id pool ↔ 0 < b.refs ∧ { b with refs := b.refs + 1 } ∈ pool := by
  unfold dropRef
  rw [List.mem_filterMap]
  constructor
  · rintro ⟨a, ha, e⟩
    split at e
    · split at e
      · exact absurd e (by simp)
      · rw [Option.some.injEq] at e
        subst e
        refine ⟨by dsimp only; omega, ?_⟩
        have : a.refs - 1 + 1 = a.refs := by omega
        simpa [this] using ha
    · rename_i hid
      rw [Option.some.injEq] at e
      subst e
      exact absurd h (by simpa using hid)
  · rintro ⟨hpos, hb⟩
    refine ⟨_, hb, ?_⟩
    rw [if_pos (by simp [h]), if_neg (by dsimp only; omega)]
    simp

/-- No number is added to the pool by a drop. -/
theorem dropRef_ids (id : Nat) (pool : List Buffer) : List.Sublist ((dropRef id pool).map Buffer.id) (pool.map Buffer.id) := by
  induction pool with
  | nil => exact .slnil
  | cons a l ih =>
    unfold dropRef at ih ⊢
    rw [List.filterMap_cons]
    split
    · exact ih.cons _
    · rename_i b hb
      have : b.id = a.id := by
        split at hb
        · split at hb
          · exact absurd hb (by simp)
          · rw [Option.some.injEq] at hb
            exact hb ▸ rfl
        · rw [Option.some.injEq] at hb
          exact hb ▸ rfl
      rw [List.map_cons, List.map_cons, this]
      exact ih.cons_cons _

end Sys2Proof.Machine
end

