-- ==== Sys2Proof/Laws/Regions.lean ====
section
/-!
SUPPORT. What the operations of the region multiplexers and their feeds can do (R145, R160).
-/
namespace Sys2Proof.Machine

variable (s : State)

/-- What the opening of a STOPPED region does, said once: its slot clock stands at the base, and each of its carousels
begins a cycle when RUNNING and has no cycle start otherwise (R145, R170). -/
theorem openRegion_meets (g : RegionId) :
    openRegion g s =
      { s.setRegion g { s.region g with
          clk := some { base := s.clock, next := s.clock, acc := 0, index := 0 }, nulls := [] }
        with carousels := (openRegion g s).carousels } ∧
    ∀ k, (openRegion g s).carousel k =
      if (s.carousel k).region = some g then
        if (s.carousel k).state = .running then (s.carousel k).cycling s.clock
        else { s.carousel k with cycleStart := none }
      else s.carousel k := by
  refine ⟨rfl, fun k => ?_⟩
  have h : (openRegion g s).carousel k = (s.carousel k).regionStarted g s.clock := by
    simp [openRegion, State.carousel]
  rw [h]
  generalize s.carousel k = c
  unfold Carousel.regionStarted
  split
  · cases c with
    | mk _ _ _ st => cases st <;> rfl
  · rfl

/-- A feed carries what its region begins exactly where it is bound to it (R160). -/
theorem Feed.carry_eq (fd : Feed) (g : RegionId) (out : FeedOut) :
    fd.carry g out = if fd.bound = some g then { bound := some g, out := some out } else fd := by
  unfold Feed.carry
  split
  · next h => rw [h]
  · rfl

end Sys2Proof.Machine
end

