-- ==== Sys2Proof/Laws/Registry.lean ====
section
/-!
SUPPORT. What the operations of the identifier registry can do (R157, R158).
-/
namespace Sys2Proof.Machine

variable (r : Region) (e : RegEntry) (l : List RegEntry)

theorem mem_insertReg (x : RegEntry) : x ∈ insertReg e l ↔ x = e ∨ x ∈ l := by
  induction l with
  | nil => simp [insertReg]
  | cons a l ih =>
    rw [insertReg]
    split
    · simp
    · rw [List.mem_cons, ih, List.mem_cons]
      tauto

theorem insertReg_length : (insertReg e l).length = l.length + 1 := by
  induction l with
  | nil => rfl
  | cons a l ih =>
    rw [insertReg]
    split
    · rfl
    · simp [ih]

/-- An insertion of an identifier that is not there keeps the strictly ascending order. -/
theorem insertReg_sorted (h : (l.map fun x => x.ident.toNat).Pairwise (· < ·)) (hn : ∀ x ∈ l, x.ident ≠ e.ident) :
    ((insertReg e l).map fun x => x.ident.toNat).Pairwise (· < ·) := by
  induction l with
  | nil => simp [insertReg]
  | cons a l ih =>
    rw [List.map_cons, List.pairwise_cons] at h
    rw [insertReg]
    split
    · rename_i hlt
      rw [List.map_cons, List.map_cons, List.pairwise_cons, List.pairwise_cons]
      refine ⟨?_, h⟩
      intro b hb
      rcases List.mem_cons.1 hb with rfl | hb
      · exact hlt
      · exact Nat.lt_trans hlt (h.1 b hb)
    · rename_i hge
      have hne : a.ident.toNat ≠ e.ident.toNat := fun x => hn a (by simp) (BitVec.eq_of_toNat_eq x)
      rw [List.map_cons, List.pairwise_cons]
      refine ⟨?_, ih h.2 fun x hx => hn x (by simp [hx])⟩
      intro b hb
      obtain ⟨x, hx, rfl⟩ := List.mem_map.1 hb
      rcases (mem_insertReg e l x).1 hx with rfl | hx
      · omega
      · exact h.1 _ (List.mem_map_of_mem hx)

/-- A lookup finds nothing exactly where no entry has the identifier. -/
theorem Region.lookup_none (i : Ident) : r.lookup i = none ↔ ∀ e ∈ r.registry, e.ident ≠ i := by
  simp [Region.lookup]

theorem Region.lookup_some (i : Ident) (h : r.lookup i = some e) : e ∈ r.registry ∧ e.ident = i :=
  ⟨List.mem_of_find?_eq_some h, by simpa using List.find?_some h⟩

/-- A registration changes the registry and the drain records alone. -/
theorem Region.register_only (x : Registration) :
    r.register x = { r with registry := (r.register x).registry, drains := (r.register x).drains } := by
  unfold Region.register
  split <;> rfl

/-- A registration keeps every entry, and adds one with last count 15 and nothing owed where the identifier is new. -/
theorem Region.mem_register (x : Registration) :
    e ∈ (r.register x).registry ↔
      e ∈ r.registry ∨ ((∀ y ∈ r.registry, y.ident ≠ x.1) ∧ e = { ident := x.1, definer := x.2, last := 15, owed := false }) := by
  unfold Region.register
  cases h : r.lookup x.1 with
  | some y =>
    have := r.lookup_some y _ h
    constructor
    · exact .inl
    · rintro (h' | ⟨h', -⟩)
      · exact h'
      · exact absurd this.2 (h' y this.1)
  | none =>
    have := (r.lookup_none x.1).1 h
    dsimp only
    rw [mem_insertReg]
    tauto

/-- Registrations given up leave the others, and the region is as `Region.without` says. -/
theorem Region.giveUp_eq (which : RegEntry → Bool) : r.giveUp which = r.without which := by
  simp only [Region.giveUp, Region.without, Region.queued, Bool.beq_eq_decide_eq]

end Sys2Proof.Machine
end

