-- ==== Sys2Proof/Tests/Slice0.lean ====
section
/-!
SUPPORT. The author's own tests. The first part checks the model against the manual's worked examples, with each expected
figure taken from the section that its comment names. The second part shows, for each statement of `Obligations.lean` that
has hypotheses, concrete states and operands that meet them.
-/
namespace Sys2Proof.Tests

/- The proofs of this file are checked one after another, so that their kernel evaluations do not stand in memory together. -/
set_option Elab.async false

open Sys2Proof.Machine

/-! ## Well-formedness -/

/-- R185: a body of 1,600 bytes is the longest. -/
theorem test_frame_wf : Frame.wf { kind := 1, tag := 0, body := List.replicate 1600 0 } = true := by decide +kernel
theorem test_frame_too_long_refused : Frame.wf { kind := 1, tag := 0, body := List.replicate 1601 0 } = false := by
  decide +kernel
/-- R1, R2: a packet has 188 bytes and begins with the sync byte. -/
theorem test_packet_wf : Packet.wf nullPacket = true := by decide +kernel
theorem test_packet_length_refused : Packet.wf (nullPacket ++ [0]) = false := by decide +kernel
theorem test_packet_sync_refused : Packet.wf (0x48 :: nullPacket.tail) = false := by decide +kernel

/-! ## Figures and worked examples of the manual -/

/-- R185: the check of the nine ASCII bytes "123456789". -/
theorem test_check_value : crc16 [0x31, 0x32, 0x33, 0x34, 0x35, 0x36, 0x37, 0x38, 0x39] = 0x29B1 := by decide +kernel

/-- No row of the opcode table has bits. -/
theorem test_no_word : decodeTableWord 8 1 = none := rfl

/-- 188 bytes that begin with these. -/
def pkt (head : List Byte) : Packet := head ++ List.replicate (188 - head.length) 0x55

/-- 8.7.1, case 1: base 1,000,000 and extension 150, with a residence of 5,493 ticks. -/
def case1 : Packet := pkt ([0x47, 0x01, 0x00, 0x30, 7, 0x10] ++ e6 (1000000 * 32768 + 63 * 512 + 150))

theorem test_restamp_case1 :
    sampleBase (restamp 5493 case1) = 1000018 ∧ sampleExt (restamp 5493 case1) = 243 ∧
      sampleField (restamp 5493 case1) / 512 % 64 = 63 := by decide +kernel

/-- 8.7.1, case 2: the last value a sample can hold, and 1,692 ticks. v' is 1,691, base 5 and extension 191. -/
def case2 : Packet := pkt ([0x47, 0x01, 0x00, 0x30, 7, 0x10] ++ e6 (8589934591 * 32768 + 299))

theorem test_restamp_case2 :
    sampleBase (restamp 1692 case2) = 5 ∧ sampleExt (restamp 1692 case2) = 191 := by decide +kernel

/-- The outcome's state, or the state given. -/
def next (i : Instr) (s : State) : State :=
  match exec i s with
  | .next t => t
  | .fault _ => s
  | .refused _ => s

/-- A link takes a request of a kind with a body. -/
def ask (l : Link) (kind : Byte) (body : List Byte) (s : State) : State :=
  next (commandOf l kind) (received l { kind := kind, tag := 9, body := body } s)

/-- The body of the last reply on a link. -/
def lastReply (l : Link) (s : State) : List Byte := (((s.link l).replies.getLast?).map Reply.body).getD []

/-- 1.6: TIME_SET for day 19,850 at 18:30:00, taken at local clock 5,400,000,000, is answered with the time as set and an
absent previous station time. -/
theorem test_time_set :
    let s := ask .management 0x06 (e2 19850 ++ e6 1798200000000) { State.reset with clock := 5400000000 }
    lastReply .management s = [0] ++ e2 19850 ++ e6 1798200000000 ++ [0] ∧
      ({ s with clock := 540000000000 } : State).station = some (19851 * 2332800000000) := by decide +kernel

/-- R14: the tick at the wrap of the local clock moves station time by one tick. -/
theorem test_clock_wrap :
    let s := { State.reset with clock := BitVec.allOnes 48, offset := some 7 }
    (next .localClockWrap s).clock = 0 ∧ (next .localClockWrap s).station = s.station.map (· + 1) := by decide +kernel

/-- A port that has just been started. -/
def hunting : State := State.reset.setPort 3 { State.reset.port 3 with run := .search }

/-- 2.7: the fifth good sync byte locks the port; here after four, one packet apart. -/
theorem test_port_locks :
    let s := hunting.setPort 3 { hunting.port 3 with run := .verify 4 0 }
    (next (.portLineByte 3 0x47) s).port 3 = { hunting.port 3 with run := .locked 0 187 (some [0x47]) } := by decide +kernel

/-- 2.7: a false candidate sends the port back to SEARCH. -/
theorem test_port_false_candidate :
    ((next (.portLineByte 3 0x9C) (hunting.setPort 3 { hunting.port 3 with run := .verify 1 0 })).port 3).run = .search := by
  decide +kernel

/-- 3.8: the entries C30, C31, C32 of port IN5. -/
def plain (p : PortId) (i m : Ident) (b : Binding) : Component :=
  { port := p, ident := i, mask := m, cls := .essential, clockBearing := false, meter := none, capture := false
    lastSeen := none, binding := b }

def matching38 : State :=
  ((State.reset.setComponent 30 (some (plain 5 0x100 0x1FFF (.variant 9 0)))).setComponent 31
    (some { plain 5 0x100 0x1F00 .unbound with capture := true })).setComponent 32 (some (plain 5 0 0 .unbound))

theorem test_matching :
    (matching38.matching 5 0x100).map Prod.fst = some 30 ∧ (matching38.matching 5 0x1A0).map Prod.fst = some 31 ∧
      (matching38.matching 5 0x0A0).map Prod.fst = some 32 ∧ matching38.matching 4 0x100 = none := by decide +kernel

/-- 3.8: a fourth entry on IN5 for 0x1A0 under 0x1F00 is refused BAD_FIELD. -/
theorem test_component_same_match :
    lastReply .management
      (ask .management 0x0D (componentRequest 33 (plain 5 0x1A0 0x1F00 .unbound)) matching38) = [3, 0] := by decide +kernel

/-- 4.6: a meter written with rate 2,000,000 and burst 1,880 holds 406,080,000,000 units. -/
theorem test_meter_write :
    lastReply .management (ask .management 0x10 (e1 6 ++ e4 2000000 ++ e4 1880 ++ e1 0) State.reset) =
      [0] ++ e4 2000000 ++ e4 1880 ++ [0] ++ e6 406080000000 := by decide +kernel

/-- The meter of 4.6. -/
def meter46 : MeterDef := { rate := 2000000, burst := 1880, mode := .full, credit := 0, updated := 0 }

/-- 4.6: 13,500 ticks refill 27,000,000,000 units, less than the 40,608,000,000 of a packet. -/
theorem test_meter_refill : (meter46.refill 13500).credit = 27000000000 := by decide +kernel

/-- 7.10: RG3 claimed by owner 20; owner 31's CLAIM of RG3 and RG4 is refused CLAIMED with RG3 and owner 20. -/
theorem test_claim_refused :
    let s := ask .cue 0x25 ([0x0B] ++ e1 20) State.reset
    lastReply .cue (ask .cue 0x25 ([0x18] ++ e1 31) s) = [8, 2, 8, 3, 0, 0, 14, 20, 0, 0] ∧ s.claimant 4 = none := by
  decide +kernel

/-- A region that runs at 19,000,000 bit/s from base 1,000 (8.11). -/
def region811 (s : State) : State :=
  s.setRegion 2 { s.region 2 with
    rate := 19000000, clk := some { base := 1000, next := 1000 + 6411, acc := 15000000, index := 3 } }

/-- 8.11: slot 4 lies 8,549 ticks after the base, with 1,000,000 in the accumulator. -/
theorem test_slot_clock :
    ((next (.slotInstant 2) (region811 { State.reset with clock := 7411 })).region 2).clk =
      some { base := 1000, next := 1000 + 8549, acc := 1000000, index := 4 } := by decide +kernel

/-- 8.11 at U + 8,549: C has waited 5,508,549 ticks and is discarded, and X takes the instant. -/
def entry (arrival : Clock) (buf : Nat) : QEntry :=
  { buf := buf, arrival := arrival, out := 0x200, clockBearing := false, setDisc := false }

def late811 : State :=
  let s := region811 { State.reset with clock := 7411 }
  { s.setRegion 2 { s.region 2 with mainQ := [entry (7411 - 5508549) 0], expQ := [entry (7411 - 108549) 1] } with
    pool := [{ id := 0, packet := nullPacket, refs := 1 }, { id := 1, packet := nullPacket, refs := 1 }] }

theorem test_late_discard :
    let t := next (.slotInstant 2) late811
    (t.region 2).lastBegun = .expendable ∧ (t.region 2).mainQ = [] ∧ t.pool = [] ∧ t.detected.degraded = true := by
  decide +kernel

/-- 11.6: the fifth request of a burst is answered BUSY, and the REFUSED flag is set. -/
def routeRead (tag : Byte) : Frame := { kind := 0x23, tag := tag, body := [5, 1, 7] }

def burst : State :=
  State.reset.setLink .cue { State.reset.cueLink with
    requests := [routeRead 0x41, routeRead 0x42, routeRead 0x43, routeRead 0x44] }

theorem test_busy :
    let t := acceptFrame .cue (routeRead 0x45) burst
    t.cueLink.replies = [{ kind := 0x23, tag := 0x45, body := [16, 0] }] ∧ t.cueLink.requests.length = 4 ∧
      t.detected.refused = true ∧ t.cueLink.notices = State.reset.cueLink.notices := by decide +kernel

/-- 9.8: the carousel K3 of RG2 before the swap takes effect, with P2 due, and Q1 and Q2 waiting. -/
def section98 (i : Nat) : Packet := pkt [0x47, 0x00, BitVec.ofNat 8 i, 0x10]

def swap98 : State :=
  let s := region811 { State.reset with clock := 7411 }
  let s := s.setRegion 2 { s.region 2 with
    registry := [⟨0x20, .carousel 3, 7, false⟩, ⟨0x21, .carousel 3, 6, false⟩, ⟨0x30, .carousel 3, 15, false⟩] }
  s.setCarousel 3 {
    region := some 2, intervalMs := 100, mode := .continuous, state := .running, live := [section98 0x20, section98 0x21]
    building := [section98 0x20, section98 0x30], swapPending := true, cursor := some 1, cycleStart := some 7000
    interval := some ({ set := 7000, len := 2700000 }, false) }

theorem test_carousel_swap :
    let t := next (.slotInstant 2) swap98
    (t.carousel 3).live = [section98 0x20, section98 0x30] ∧ (t.carousel 3).building = [] ∧
      (t.carousel 3).swapPending = false ∧ t.carouselFree = 1022 ∧
      (t.region 2).registry = [⟨0x20, .carousel 3, 7, false⟩, ⟨0x30, .carousel 3, 15, false⟩] ∧
      (t.region 2).drains = [] := by decide +kernel

/-- R145: REGION_START begins slot 0 at the base; a feed bound to the region carries a null packet from then on. -/
theorem test_region_start :
    let s := { State.reset with clock := 7411 }
    let t := ask .management 0x2A (e1 2) (s.setFeed 4 { bound := some 2, out := none })
    ((t.region 2).clk.map SlotClock.index) = some 1 ∧
      t.feed 4 = { bound := some 2, out := some { packet := nullPacket, begun := 7411, ends := 7411 + 2030 } } := by
  decide +kernel

/-- R200 with 7.1: the pending policy is coded by its own list, AT_MARK 0 and ON_CONFIRM 1. -/
theorem test_pending_policy_codes :
    RouteState.policyCode (.pendingSplice .national none { set := 0, len := 1 }) = some 0 ∧
      RouteState.policyCode (.awaitConfirm .national none { set := 0, len := 1 }) = some 1 ∧
      RouteState.policyCode .steady = none := by decide

/-! ## Witnesses: the hypotheses of each statement can be met

A theorem `test_witness_X` shows states and operands that meet the hypotheses of `Obligations.X`, clause by clause; what it
leaves out are hypotheses that merely name a value. -/

theorem forall_some {n : Nat} {β : Type} (f : Fin n → Option β) (p : Fin n → β → Bool)
    (h : ∀ i, (f i).all (p i) = true) : ∀ i b, f i = some b → p i b = true := by
  intro i b hb
  have := h i
  rw [hb] at this
  exact this

theorem reset_takes (l : Link) : canTake l State.reset := by cases l <;> (unfold canTake; decide +kernel)

/-- Reset state with a link replaced. -/
def onLink (l : Link) (f : LinkState → LinkState) : State := State.reset.setLink l (f (State.reset.link l))

theorem test_witness_IdleStepsPassTime :
    State.reset.pending = [] ∧ dueEvents State.reset = [] ∧ late811.pending = [] ∧ dueEvents late811 ≠ [] ∧
      dueEvents { State.reset with clock := BitVec.allOnes 48 } = [] ∧ State.reset.clock ≠ BitVec.allOnes 48 := by
  decide +kernel

/-- A RESET reply that is being sent, and one that waits. -/
def sendingReset : State :=
  { onLink .management fun k => { k with tx := some { bytes := [1], resetReply := true } } with resetting := true }
def replyingReset : State :=
  { onLink .management fun k => { k with replies := [{ kind := 0x05, tag := 7, body := [0] }] } with resetting := true }

theorem test_witness_ResetsReturnEveryBlockToReset :
    sendingReset.mgmt.tx = some { bytes := [1], resetReply := true } ∧ State.reset.sendsResetReply = false ∧
      canTake .management State.reset ∧ sendingReset.resetting = true ∧ replyingReset.resetting = true ∧
      replyingReset.mgmt.tx = none ∧ replyingReset.mgmt.replies = [{ kind := 0x05, tag := 7, body := [0] }] := by
  unfold canTake
  decide +kernel

def longFrame : Frame := { kind := 0x2F, tag := 0xA5, body := List.replicate 1600 0xA5 }
def threeWait : State := onLink .cue fun k => { k with requests := [routeRead 1, routeRead 2, routeRead 3] }

theorem test_witness_FrameArrivesByteByByte :
    longFrame.wf = true ∧ (threeWait.link .cue).rx = none ∧ (threeWait.link .cue).requests.length < 4 := by decide +kernel

/-- A frame without body whose check is still to come. -/
def short : Frame := { kind := 1, tag := 2, body := [] }
def midFrame (bytes : List Byte) (l : Link) : State :=
  { onLink l fun k => { k with rx := some bytes, rxLast := 5, requests := List.replicate 4 short } with clock := 1350005 }

theorem test_witness_ReceiverDiscardsWhatIsNoFrame :
    ((State.reset.link .cue).rx = none ∧ (0x47 : Byte) ≠ 0xA5) ∧
    ((midFrame [0x06] .cue).cueLink.rx = some [0x06] ∧
      elapsed (midFrame [0x06] .cue).clock (midFrame [0x06] .cue).cueLink.rxLast ≤ 1350000 ∧
      1600 < (0x06 : Byte).toNat * 256 + (0x41 : Byte).toNat) ∧
    (short.wf = true ∧ checkBytes (coveredBytes short) ≠ [0, 0] ∧ ∀ b ∈ coveredBytes short ++ [0, 0], b ≠ 0xA5) ∧
    (∃ c d, checkBytes (coveredBytes short) = [c, d] ∧
      (midFrame (coveredBytes short ++ [c]) .management).mgmt.rx = some (coveredBytes short ++ [c]) ∧
      4 ≤ (midFrame (coveredBytes short ++ [c]) .management).mgmt.requests.length) := by
  refine ⟨by decide +kernel, by decide +kernel, by decide +kernel,
    (checkBytes (coveredBytes short)).getD 0 0, (checkBytes (coveredBytes short)).getD 1 0, by decide +kernel⟩

/-- A notice queue with an event, and a full one without. -/
def oneEvent : State := onLink .cue fun k => { k with notices := [.ready .powerOn, .event .poolEmpty (.port 0) 3 255] }
def fullQueue : State :=
  onLink .cue fun k => { k with notices := (List.range 32).map fun i => .captureReady 1 (BitVec.ofNat 48 i) }

theorem test_witness_EventsAreReportedAndCoalesced :
    (State.reset.link .cue).enables.has (Cause.cls .continuityGap) = false ∧
    (oneEvent.link .cue).enables.has (Cause.cls .poolEmpty) = true ∧
    (oneEvent.link .cue).notices = [Notice.ready .powerOn] ++ .event .poolEmpty (.port 0) 3 255 :: [] ∧
    (∀ t r, Notice.event .poolEmpty (.port 0) t r ∉ [Notice.ready .powerOn]) ∧
    (∀ t r, Notice.event .poolEmpty (.port 0) t r ∉ (State.reset.link .cue).notices) ∧
    (∀ t r, Notice.event .poolEmpty (.port 0) t r ∉ (fullQueue.link .cue).notices) ∧
    (State.reset.link .cue).notices.length < 32 ∧ ¬(fullQueue.link .cue).notices.length < 32 ∧
    -- placing: a CAPTURE_READY that finds one waiting behind READY, and a VARIANT_HEALTH that finds none
    ((∀ x ∈ [Notice.ready .powerOn], ¬Notice.sameKindAndKey (.captureReady 2 5) x) ∧
      Notice.sameKindAndKey (.captureReady 2 5) (.captureReady 1 3) ∧
      ∀ c o t r, Notice.captureReady 2 5 ≠ .event c o t r) ∧
    ∀ x ∈ [Notice.ready .powerOn, .captureReady 1 3],
      ¬Notice.sameKindAndKey (.variantHealth 0 .healthy .starved .written 0) x := by
  refine ⟨by decide, by decide, by decide, by simp, ?_, ?_, by decide, by decide, ?_, ?_⟩
  · intro t r h
    exact absurd h (by simp [State.link, State.reset, State.resetBy, LinkState.reset])
  · intro t r h
    simp [fullQueue, onLink, State.link, State.setLink] at h
  · simp [Notice.sameKindAndKey]
  · simp [Notice.sameKindAndKey]

def sendingReply : State := onLink .management fun k => { k with tx := some { bytes := [1], resetReply := false } }
def replyWaits : State := onLink .management fun k => { k with replies := [{ kind := 1, tag := 2, body := [] }] }
def allSent : State := onLink .cue fun k => { k with notices := [] }

theorem test_witness_TransmitterSendsRepliesFirst :
    (sendingReply.link .management).tx = some { bytes := [1], resetReply := false } ∧
    ((replyWaits.link .management).tx = none ∧ replyWaits.resetting = false ∧
      (replyWaits.link .management).replies = [{ kind := 1, tag := 2, body := [] }]) ∧
    ((State.reset.link .cue).tx = none ∧ (State.reset.link .cue).replies = [] ∧
      (State.reset.link .cue).notices = [.ready .powerOn]) ∧
    ((allSent.link .cue).tx = none ∧ (allSent.link .cue).replies = [] ∧ (allSent.link .cue).notices = []) := by
  decide +kernel

/-- A CUE_ADD body for RG2 with a slot and a target byte. -/
def cueBody (slot target : Byte) : List Byte :=
  e2 7 ++ eStation 1000 ++ [0x04, slot, target, 0] ++ e4 0 ++ [0, 20]
/-- Bodies of the right form but for one field each: a slot outside S0..S23, a BLANK target, a NATIONAL binding, a body too
short, one too long, an unknown enumeration value, and a list of nine packets. -/
def malformedBodies : List (Link × Byte × List Byte) :=
  [(.cue, 0x1B, cueBody 24 255), (.cue, 0x1B, cueBody 0 254), (.cue, 0x1B, (cueBody 0 255).dropLast),
    (.cue, 0x20, [0x04, 0, 254, 0] ++ e4 0 ++ [20]),
    (.management, 0x0D, componentRequest 5 (plain 1 0x110 0x1FFF (.national 0 0))), (.management, 0x10, e1 6 ++ e4 1 ++ e4 1),
    (.management, 0x0A, [0, 0, 0, 1, 2]), (.cue, 0x11, [6]), (.management, 0x34, [3, 0]),
    (.management, 0x2F, [3, 0, 9] ++ (List.replicate 9 (nullPacket.set 1 0)).flatten)]

theorem test_witness_LinksRefuseWhatTheyMayNotCarry :
    (∀ l, canTake l State.reset) ∧
    (∀ x ∈ malformedBodies,
      (1 ≤ x.2.1.toNat ∧ x.2.1.toNat ≤ 0x17 ∨ 0x1B ≤ x.2.1.toNat ∧ x.2.1.toNat ≤ 0x1E ∨
        0x20 ≤ x.2.1.toNat ∧ x.2.1.toNat ≤ 0x36) ∧
      (x.1 = .management ∨ x.2.1 ∉ managementKinds ∧ ¬(x.2.1 = 0x11 ∧ x.2.2[1]? = some 1)) ∧
      Form.seq (requestForm x.2.1) x.2.2 ≠ some []) ∧
    (∀ kind ∈ [(0 : Byte), 0x18, 0x1A, 0x1F, 0x37, 0xFF],
      ¬(1 ≤ kind.toNat ∧ kind.toNat ≤ 0x17) ∧ ¬(0x1B ≤ kind.toNat ∧ kind.toNat ≤ 0x1E) ∧
        ¬(0x20 ≤ kind.toNat ∧ kind.toNat ≤ 0x36)) ∧
    (0x03 : Byte) ∈ managementKinds ∧ ([7, 1] : List Byte)[1]? = some 1 ∧
    (((0x08 : Byte), 12) ∈ oneIndexKinds ∧ 12 ≤ (12 : Byte).toNat) := by
  refine ⟨reset_takes, by decide +kernel, by decide, by decide, by decide, by decide⟩

/-- R95, R97: a CUE_ADD body that has its form, and two that do not: the first alone is not refused BAD_FIELD. -/
theorem test_cue_add_form :
    Form.seq (requestForm 0x1B) (cueBody 23 255) = some [] ∧
      lastReply .cue (ask .cue 0x1B (cueBody 24 255) State.reset) = [3, 0] ∧
      lastReply .cue (ask .cue 0x1B (cueBody 0 254) State.reset) = [3, 0] := by decide +kernel

theorem test_witness_EveryRequestIsAnsweredOnce :
    (∀ l, canTake l State.reset) ∧
    ({ State.reset with pending := [.classifierTake] } : State).linksOk ∧
      ∃ t, step { State.reset with pending := [.classifierTake] } = .next t := by
  refine ⟨reset_takes, fun l => ?_, _, rfl⟩
  cases l <;> (unfold LinkState.bounded; decide)

theorem test_witness_GeneralRequestsReadAndSetReporting :
    (∀ l, canTake l State.reset) ∧ (15 : Byte).toNat < 16 ∧ 16 ≤ (16 : Byte).toNat := ⟨reset_takes, by decide, by decide⟩

/-! ### Ports and the classifier -/

/-- Port IN0 with a run state and FIFO, admitted, at local clock 1,000 and station time 1,000. -/
def base : State := { State.reset with clock := 1000, offset := some 0 }
def portState (run : PortRun) (fifo : List Arrived) : State :=
  base.setPort 0 { base.port 0 with run := run, admission := .admitted, fifo := fifo }

theorem test_witness_PortAlignmentBeforeLock :
    (base.port 0).run = .stopped ∧ (hunting.port 3).run = .search ∧
    ((portState (.verify 1 187) []).port 0).run = .verify 1 (186 + 1) ∧
    (((portState (.verify 3 0) []).port 0).run = .verify 3 0 ∧ 3 < 4) ∧
    ((portState (.verify 4 0) []).port 0).run = .verify 4 0 ∧ (0x46 : Byte) ≠ 0x47 := by decide +kernel

def fullFifo : List Arrived := List.replicate 64 { packet := nullPacket, arrival := 7 }

theorem test_witness_PortReceivesPacketsInLock :
    ((portState (.locked 2 0 none) []).port 0).run = .locked 2 0 none ∧
    (((portState (.locked 1 0 none) []).port 0).run = .locked 1 0 none ∧ 1 < 2) ∧
    ((portState (.locked 0 187 (some [0x47])) []).port 0).run = .locked 0 (185 + 2) (some [0x47]) ∧
    ((portState (.locked 1 1 none) []).port 0).run = .locked 1 1 none ∧
    (((portState (.locked 0 1 (some case1.dropLast)) []).port 0).run = .locked 0 1 (some case1.dropLast) ∧
      ((portState (.locked 0 1 (some case1.dropLast)) []).port 0).fifo.length < 64) ∧
    (((portState (.locked 0 1 (some case1.dropLast)) fullFifo).port 0).run = .locked 0 1 (some case1.dropLast) ∧
      64 ≤ ((portState (.locked 0 1 (some case1.dropLast)) fullFifo).port 0).fifo.length) ∧
    (Packet.wf case1 = true ∧ ((portState (.locked 2 0 none) []).port 0).fifo.length < 64) := by decide +kernel

/-- IN0 at its third bad sync position, without and with a national component on it. -/
def losing : State := portState (.locked 2 0 none) []
def losingNational : State := losing.setComponent 0 (some (plain 0 0x100 0x1FFF (.national 3 2)))

theorem losing_component (c : ComponentId) : losing.component c = none := by
  revert c
  decide +kernel

theorem test_witness_PortLosesAlignment :
    (losing.port 0).run = .locked 2 0 none ∧ (0 : Byte) ≠ 0x47 ∧
    (∀ c k sl r, losing.component c = some k → k.port = 0 → k.binding ≠ .national sl r) ∧
    (losingNational.port 0).run = .locked 2 0 none ∧
    (∃ c k sl r, losingNational.component c = some k ∧ k.port = 0 ∧ k.binding = .national sl r) := by
  refine ⟨by decide +kernel, by decide, ?_, by decide +kernel, 0, plain 0 0x100 0x1FFF (.national 3 2), 3, 2, by decide +kernel, rfl, rfl⟩
  intro c k sl r h
  rw [losing_component] at h
  exact absurd h (by simp)

theorem test_witness_PortRequestsStartClearAndRead :
    (∀ l, canTake l State.reset) ∧ (State.reset.port 0).run = .stopped ∧ (hunting.port 3).run ≠ .stopped ∧
    canTake .management hunting ∧ (15 : Byte).toNat < 16 ∧
    (false = true ↔ ∃ c k sl r, losing.component c = some k ∧ k.port = 0 ∧ k.binding = .national sl r) := by
  refine ⟨reset_takes, by decide +kernel, by decide +kernel, by unfold canTake; decide +kernel, by decide, by simp, ?_⟩
  rintro ⟨c, k, sl, r, h, -⟩
  rw [losing_component] at h
  exact absurd h (by simp)

theorem test_witness_PortStopAndConfig :
    canTake .management losing ∧ (losing.port 0).isLocked = true ∧ (hunting.port 3).isLocked = false ∧
    (losing.port 0).admission = .admitted := by
  unfold canTake
  decide +kernel

/-- A packet of identifier 0x100 that carries payload and the count 4. -/
def packet100 : Packet := pkt [0x47, 0x01, 0x00, 0x14]
/-- A port with one packet in its FIFO. -/
def feeding (q : Packet) : State := portState (.locked 0 0 none) [{ packet := q, arrival := 900 }]

theorem test_witness_ClassifierServesPortsInTurn :
    (∀ p, (State.reset.port p).fifo = []) ∧ (feeding packet100).serves 0 { packet := packet100, arrival := 900 } [] := by
  unfold State.serves
  decide +kernel

theorem feeding_component (q : Packet) (c : ComponentId) : (feeding q).component c = none := by
  have h : ∀ c : ComponentId, base.component c = none := by decide +kernel
  exact h c

theorem feeding_unmatched (q : Packet) (i : Ident) : unmatchedOn 0 i (feeding q) := by
  intro c k h
  rw [feeding_component] at h
  exact absurd h (by simp)

/-- Port IN0 not admitted, or with an unmatched policy. -/
def withPolicy (adm : Admission) (un um : Policy) : State :=
  (feeding packet100).setPort 0 { (feeding packet100).port 0 with admission := adm, unadmitted := un, unmatched := um }
def poolFull : List Buffer := List.replicate 4096 { id := 0, packet := [], refs := 1 }
def ringFull : List CapEntry := List.replicate 128 { buf := 0, reason := .component, port := 0, arrival := 0 }

theorem test_witness_PoliciesDiscardOrCapture :
    ((feeding nullPacket).falling = [] ∧ (feeding nullPacket).serves 0 { packet := nullPacket, arrival := 900 } [] ∧
      ident nullPacket = 8191) ∧
    ((withPolicy .notAdmitted .discard .discard).serves 0 { packet := packet100, arrival := 900 } [] ∧
      ((withPolicy .notAdmitted .discard .discard).port 0).admission = .notAdmitted) ∧
    ((feeding packet100).serves 0 { packet := packet100, arrival := 900 } [] ∧
      ((feeding packet100).port 0).admission = .admitted ∧ ((feeding packet100).port 0).unmatched = .discard ∧
      unmatchedOn 0 (ident packet100) (feeding packet100)) ∧
    ((withPolicy .notAdmitted .capture .discard).serves 0 { packet := packet100, arrival := 900 } [] ∧
      ((withPolicy .notAdmitted .capture .discard).port 0).unadmitted = .capture ∧ ident packet100 ≠ 8191) ∧
    ((withPolicy .admitted .discard .capture).serves 0 { packet := packet100, arrival := 900 } [] ∧
      ((withPolicy .admitted .discard .capture).port 0).unmatched = .capture ∧
      unmatchedOn 0 (ident packet100) (withPolicy .admitted .discard .capture)) ∧
    (4096 ≤ ({ feeding packet100 with pool := poolFull } : State).pool.length ∧
      128 ≤ ({ feeding packet100 with capture := ringFull } : State).capture.length ∧
      (feeding packet100).pool.length < 4096 ∧ (feeding packet100).capture.length < 128) := by
  unfold State.serves
  refine ⟨by decide +kernel, by decide +kernel, ⟨by decide +kernel, by decide +kernel, by decide +kernel, ?_⟩,
    by decide +kernel, ⟨by decide +kernel, by decide +kernel, ?_⟩, by decide +kernel⟩
  · exact feeding_unmatched _ _
  · intro c k h
    have : (feeding packet100).component c = some k := h
    rw [feeding_component] at this
    exact absurd this (by simp)

/-- A packet of component C0, which stands on IN0 with the identifier 0x100. -/
def comp100 (seen : Option Continuity) (b : Binding) : Component := { plain 0 0x100 0x1FFF b with lastSeen := seen }
def taking (q : Packet) (k : Component) : State := (feeding q).setComponent 0 (some k)
def arrived (q : Packet) : Arrived := { packet := q, arrival := 900 }
theorem foldl_better_none (s : State) (p : PortId) (i : Ident) (b : Option (ComponentId × Component)) (l : List ComponentId)
    (h : ∀ c ∈ l, s.component c = none) : l.foldl (s.better p i) b = b := by
  induction l with
  | nil => rfl
  | cons c l ih =>
    rw [List.foldl_cons, State.better, h c (by simp)]
    exact ih fun d hd => h d (by simp [hd])

/-- The one component that matches the packet waiting on IN0 takes it. -/
theorem taking_takes (q : Packet) (k : Component) (hi : ident q ≠ 8191) (hk : k.candidate 0 (ident q) = true) :
    State.takesFor (taking q k) 0 (arrived q) [] 0 k := by
  have hf : ∀ p, (base.port p).fifo = [] := by decide +kernel
  have h0 : (feeding q).port 0 = { base.port 0 with
      run := .locked 0 0 none, admission := .admitted, fifo := [arrived q] } := State.setPort_port_self _ _ _
  refine ⟨⟨?_, ?_⟩, hi, ?_, ?_⟩
  · show ((feeding q).port 0).fifo = _
    rw [h0]
  · intro r hr
    have : (0 : PortId) ≠ r := by
      rintro rfl
      exact absurd hr (Nat.lt_irrefl _)
    show ((feeding q).port r).fifo = []
    rw [show (feeding q).port r = base.port r from State.setPort_port_ne _ _ _ _ this]
    exact hf r
  · show ((feeding q).port 0).admission = _
    rw [h0]
  · show (List.finRange 256).foldl ((taking q k).better 0 (ident q)) none = _
    rw [List.finRange_succ, List.foldl_cons,
      show (taking q k).better 0 (ident q) none 0 = some (0, k) by
        rw [State.better, show (taking q k).component 0 = some k from State.setComponent_component_self _ _ _]
        simp [hk]]
    refine foldl_better_none _ _ _ _ _ ?_
    intro c hc
    obtain ⟨d, -, rfl⟩ := List.mem_map.1 hc
    rw [show (taking q k).component d.succ = (feeding q).component d.succ from
      State.setComponent_component_ne _ _ _ _ (Fin.succ_ne_zero d).symm]
    exact feeding_component _ _

/-- The same packet without payload, and with the discontinuity flag. -/
def noPayload : Packet := pkt [0x47, 0x01, 0x00, 0x24, 183, 0x00]
def discPacket : Packet := pkt [0x47, 0x01, 0x00, 0x34, 1, 0x80]

def seen (n : Continuity) : Component := comp100 (some n) .unbound

theorem test_witness_MatchingPicksTheMostSpecificEntry :
    State.takesFor (taking packet100 (comp100 none .unbound)) 0 (arrived packet100) [] 0 (comp100 none .unbound) :=
  taking_takes packet100 (comp100 none .unbound) (by decide +kernel) (by decide +kernel)

theorem test_witness_ContinuityGapIsReported :
    ((taking packet100 (seen 2)).falling = [] ∧ State.takesFor (taking packet100 (seen 2)) 0 (arrived packet100) [] 0 (seen 2) ∧
      discFlag packet100 = false ∧ continuity packet100 ≠ 2 ∧ continuity packet100 ≠ 2 + 1) ∧
    (State.takesFor (taking noPayload (seen 3)) 0 (arrived noPayload) [] 0 (seen 3) ∧ discFlag noPayload = false ∧
      continuity noPayload ≠ 3 ∧ carriesPayload noPayload = false) ∧
    State.takesFor (taking packet100 (comp100 none .unbound)) 0 (arrived packet100) [] 0 (comp100 none .unbound) ∧
    (State.takesFor (taking discPacket (seen 2)) 0 (arrived discPacket) [] 0 (seen 2) ∧ discFlag discPacket = true) ∧
    (State.takesFor (taking packet100 (seen 4)) 0 (arrived packet100) [] 0 (seen 4) ∧ (seen 4).lastSeen = some (continuity packet100)) ∧
    (State.takesFor (taking packet100 (seen 3)) 0 (arrived packet100) [] 0 (seen 3) ∧ carriesPayload packet100 = true ∧
      continuity packet100 = 3 + 1) := by
  refine ⟨⟨rfl, ?_, ?_⟩, ⟨?_, ?_⟩, ?_, ⟨?_, ?_⟩, ⟨?_, ?_⟩, ?_, ?_⟩ <;>
    first
    | exact taking_takes _ _ (by decide +kernel) (by decide +kernel)
    | decide +kernel

/-- The meter of 4.6 with a credit, last updated at a time. -/
def metered (cls : CompClass) (credit : Nat) (updated : Clock) : State :=
  (taking packet100 { comp100 none .unbound with cls := cls, meter := some 6 }).setMeter 6
    { defn := some { meter46 with credit := credit, updated := updated }, excess := false }

theorem test_witness_MeterJudgesEachPacket :
    (∀ cls, ∀ x ∈ [(0, (900 : Clock)), (40608000000, 900), (40608000000, 900 - 2 ^ 47)],
      (metered cls x.1 x.2).falling = [] ∧
      State.takesFor (metered cls x.1 x.2) 0 (arrived packet100) [] 0
        { comp100 none .unbound with cls := cls, meter := some 6 } ∧
      ((metered cls x.1 x.2).meter 6).defn = some { meter46 with credit := x.1, updated := x.2 }) ∧
    isGap none packet100 = false ∧ (0 : Nat) < 188 * 216000000 ∧ 188 * 216000000 ≤ 40608000000 ∧
    ¬((900 : Clock) - (900 - 2 ^ 47)).toNat < 2 ^ 47 := by
  refine ⟨?_, by decide +kernel, by decide, by decide, by decide⟩
  intro cls x _
  exact ⟨rfl, taking_takes packet100 { comp100 none .unbound with cls := cls, meter := some 6 } (by decide +kernel)
    (by cases cls <;> decide +kernel),
    congrArg Meter.defn (State.setMeter_meter_self _ _ _)⟩

/-- RG2 RUNNING at local clock 1,000, beside a packet of a component. -/
def running (s : State) : State :=
  s.setRegion 2 { s.region 2 with clk := some { base := 1000, next := 1000, acc := 0, index := 0 } }
def common100 : Component := comp100 none (.common 0x04 0x300)

/-! ### Health, slots and variants -/

/-- Slot S0 with its anchor role 0 on identifier 0x200, and variant V0 of it with component C0 as role 0. -/
def slot0 : SlotDef := { roles := [{ role := 0, out := 0x200, national := none }], anchor := 0, clockRole := some 0 }
def variant0 (h : Health) (starve recover : Option Deadline) : VariantDef :=
  { slot := 0, comps := [(0, 0)], fallback := .national, starveMs := 20, recoverMs := 100, returnMs := 0, health := h
    starveTimer := starve, recoverTimer := recover }
def anchored (q : Packet) (d : VariantDef) : State :=
  ((taking q (comp100 none (.variant 0 0))).setSlot 0 (some slot0)).setVariant 0 (some d)

/-- The anchor component with an empty meter, EXPENDABLE. -/
def dropping : Component := { comp100 none (.variant 0 0) with cls := .expendable, meter := some 6 }
def starving (h : Health) : State :=
  (((taking packet100 dropping).setMeter 6 { defn := some { meter46 with credit := 0, updated := 900 }, excess := false }).setSlot
    0 (some slot0)).setVariant 0 (some (variant0 h none none))

theorem test_witness_AnchorArrivalMovesHealth :
    (∀ h, State.takesFor (anchored packet100 (variant0 h none none)) 0 (arrived packet100) [] 0
        (comp100 none (.variant 0 0)) ∧
      (anchored packet100 (variant0 h none none)).variant 0 = some (variant0 h none none) ∧
      (anchored packet100 (variant0 h none none)).slot 0 = some slot0 ∧
      (anchored packet100 (variant0 h none none)).passesMeter (comp100 none (.variant 0 0)) (arrived packet100)) ∧
    ∀ h, State.takesFor (starving h) 0 (arrived packet100) [] 0 dropping ∧
      (starving h).variant 0 = some (variant0 h none none) ∧ (starving h).slot 0 = some slot0 ∧
      ¬(starving h).passesMeter dropping (arrived packet100) := by
  refine ⟨fun h => ⟨taking_takes packet100 (comp100 none (.variant 0 0)) (by decide +kernel) (by decide +kernel),
    State.setVariant_variant_self _ _ _, State.setSlot_slot_self _ _ _, .inl rfl⟩,
    fun h => ⟨taking_takes packet100 dropping (by decide +kernel) (by decide +kernel),
    State.setVariant_variant_self _ _ _, State.setSlot_slot_self _ _ _, ?_⟩⟩
  have hm : ((starving h).meter 6).defn = some { meter46 with credit := 0, updated := 900 } := by cases h <;> decide +kernel
  rintro (x | x)
  · exact absurd x (by decide)
  · exact absurd (x 6 _ rfl hm) (by decide +kernel)

/-- A mark of V0's anchor component. -/
def mark100 : Packet := pkt [0x47, 0x01, 0x00, 0x34, 1, 0x40]
/-- A component on 0x100 with the capture flag, and one that is UNBOUND without it. -/
def captured (b : Binding) : Component := { comp100 none b with capture := true }
def unbound100 : Component := comp100 none .unbound
/-- RG2 RUNNING with a full main queue. -/
def fullQueueOf (s : State) : State := s.setRegion 2 { (running s).region 2 with mainQ := List.replicate 512 (entry 900 0) }
/-- A mark of V0's anchor component that waits, while RG2's route of S0 waits for V0. -/
def marking : State :=
  (running (anchored mark100 (variant0 .starved none none))).setRoute 2 0
    { Route.reset with state := .pendingSplice (.variant 0) none ⟨0, 2000⟩ }
def marked : Component := comp100 none (.variant 0 0)

theorem test_witness_PacketsAreQueuedForTheirRegions :
    -- packets that report nothing: with a region copy, a capture copy, both, and none
    (∀ k ∈ [common100, captured (.common 0x04 0x300), captured .unbound, unbound100],
      (running (taking packet100 k)).falling = [] ∧
      State.takesFor (running (taking packet100 k)) 0 (arrived packet100) [] 0 k ∧
      (running (taking packet100 k)).anchorSource k.binding = none ∧
      (running (taking packet100 k)).passesMeter k (arrived packet100) ∧
      (running (taking packet100 k)).pool.length < 4096 ∧ (running (taking packet100 k)).capture = []) ∧
    (∀ k ∈ [common100, captured (.common 0x04 0x300)],
      (noted 0 (arrived packet100) [] 0 k (running (taking packet100 k))).entryFor k (arrived packet100) 0 2 =
        some { buf := 0, arrival := 900, out := 0x300, clockBearing := false, setDisc := false }) ∧
    (unbound100.capture = false ∧
      ∀ g, (noted 0 (arrived packet100) [] 0 unbound100 (running (taking packet100 unbound100))).entryFor unbound100
        (arrived packet100) 0 g = none) ∧
    -- no buffer free, a full ring, a full queue, and whatever joins
    (4096 ≤ ({ running (taking packet100 common100) with pool := poolFull } : State).pool.length ∧
      128 ≤ ({ running (taking packet100 common100) with capture := ringFull } : State).capture.length ∧
      ((fullQueueOf (taking packet100 common100)).region 2).mainQ.length = 512) ∧
    (∃ joins : RegionId → Option QEntry, ∀ g e, joins g = some e ↔
      (running (taking packet100 common100)).entryFor common100 (arrived packet100) 0 g = some e ∧
        ((running (taking packet100 common100)).region g).room common100.cls) ∧
    -- a mark of a waiting route, which then carries the packet
    (marking.falling = [] ∧ State.takesFor marking 0 (arrived mark100) [] 0 marked ∧ marking.dailiesWait ∧
      marking.passesMeter marked (arrived mark100) ∧ marking.anchorSource marked.binding = some (0, .variant 0) ∧
      (marking.reportedRoute marked (arrived mark100) 2 0).current = .variant 0) ∧
    -- a packet that its meter discards
    (∀ h, (starving h).falling = [] ∧ State.takesFor (starving h) 0 (arrived packet100) [] 0 dropping ∧
      (starving h).dailiesWait ∧ ¬(starving h).passesMeter dropping (arrived packet100)) := by
  refine ⟨?_, ?_, by decide +kernel, by decide +kernel,
    ⟨fun g => (running (taking packet100 common100)).entryFor common100 (arrived packet100) 0 g, ?_⟩,
    ⟨rfl, taking_takes mark100 marked (by decide +kernel) (by decide +kernel), fun c h => absurd h List.not_mem_nil, .inl rfl,
      by decide +kernel, by decide +kernel⟩,
    fun h => ⟨rfl, (test_witness_AnchorArrivalMovesHealth.2 h).1, fun c x => absurd x List.not_mem_nil,
      (test_witness_AnchorArrivalMovesHealth.2 h).2.2.2⟩⟩
  · intro k hk
    have ht : ∀ k ∈ [common100, captured (.common 0x04 0x300), captured .unbound, unbound100],
        k.candidate 0 (ident packet100) = true ∧ (running (taking packet100 k)).anchorSource k.binding = none ∧
          k.cls = .essential ∧ (running (taking packet100 k)).pool.length < 4096 ∧
          (running (taking packet100 k)).capture = [] := by decide +kernel
    obtain ⟨h1, h2, h3, h4, h5⟩ := ht k hk
    exact ⟨rfl, taking_takes packet100 k (by decide +kernel) h1, h2, .inl h3, h4, h5⟩
  · decide +kernel
  · intro g e
    have h : ∀ g, ((running (taking packet100 common100)).region g).mainQ.length < 512 := by decide +kernel
    exact ⟨fun x => ⟨x, h g⟩, fun x => x.1⟩

/-- R42, R56, R58: the packet that bears the mark is itself delivered: RG2's route switches to V0, and the packet joins the
main queue of RG2 with one reference. -/
theorem test_mark_is_delivered :
    let t := next .classifierTake marking
    (t.route 2 0).current = .variant 0 ∧ (t.route 2 0).state = .steady ∧ (t.region 2).mainQ.map QEntry.out = [0x200] ∧
      t.pool.map Buffer.refs = [1] := by decide +kernel

/-- R60, R62, R179: a packet of a COMMON component with the capture flag is held once, with two references. -/
theorem test_capture_beside_region :
    let t := next .classifierTake (running (taking packet100 (captured (.common 0x04 0x300))))
    (t.region 2).mainQ.length = 1 ∧ t.capture.map CapEntry.reason = [.component] ∧ t.pool.map Buffer.refs = [2] := by
  decide +kernel

/-- A timer that is reached at local clock 1,000, and one that is reached a tick later. -/
def reachedNow : Deadline := { set := 0, len := 1000 }
def reachedNext : Deadline := { set := 0, len := 1001 }

theorem test_witness_HealthTimersExpire :
    ((anchored packet100 (variant0 .healthy (some reachedNow) none)).variant 0 =
        some (variant0 .healthy (some reachedNow) none) ∧
      (anchored packet100 (variant0 .recovering none (some reachedNow))).variant 0 =
        some (variant0 .recovering none (some reachedNow)) ∧
      (anchored packet100 (variant0 .recovering (some reachedNext) (some reachedNext))).variant 0 =
        some (variant0 .recovering (some reachedNext) (some reachedNext))) ∧
    reachedNow.len ≤ (base.clock - reachedNow.set).toNat ∧ (base.clock - reachedNext.set).toNat < reachedNext.len := by
  decide +kernel

/-! ### Components, meters -/

theorem base_component (c : ComponentId) : base.component c = none := by
  revert c
  decide +kernel

/-- The base state with one component. -/
def oneComp (k : Component) : State := base.setComponent 5 (some k)

theorem oneComp_component (k e : Component) (c : ComponentId) (h : (oneComp k).component c = some e) : c = 5 ∧ e = k := by
  by_cases hc : (5 : ComponentId) = c
  · subst hc
    simp only [oneComp, State.setComponent_component_self, Option.some.injEq] at h
    exact ⟨rfl, h.symm⟩
  · rw [oneComp, State.setComponent_component_ne _ _ _ _ hc, base_component] at h
    exact absurd h (by simp)

def fullRegistry : List RegEntry :=
  (List.range 192).map fun i => { ident := BitVec.ofNat 13 (1000 + i), definer := .carousel 0, last := 0, owed := false }
/-- The base state with a registry in RG2. -/
def registered (l : List RegEntry) : State := base.setRegion 2 { base.region 2 with registry := l }

theorem base_takes (l : Link) : canTake l base := by cases l <;> (unfold canTake; decide +kernel)
theorem oneComp_takes (k : Component) (l : Link) : canTake l (oneComp k) := base_takes l
theorem registered_takes (r : List RegEntry) (l : Link) : canTake l (registered r) := base_takes l

/-- A COMMON entry for RG2 on 0x300. -/
def commonEntry : Component := plain 1 0x110 0x1FFF (.common 0x04 0x300)

theorem test_witness_ComponentWriteDefinesAnEntry :
    -- written over an entry of the same number, whose registration is asked for anew
    (canTake .management (oneComp commonEntry) ∧ commonEntry.released = true ∧
      (∀ d e, d ≠ 5 → (oneComp commonEntry).component d = some e →
        ¬(e.port = commonEntry.port ∧ e.mask = commonEntry.mask ∧ e.ident = commonEntry.ident)) ∧
      (∀ e, (oneComp commonEntry).component 5 = some e → e.released = true) ∧
      (∃ want : RegionId → List (Ident × Definer),
        (∀ g x, x ∈ want g ↔ x.2 = .component 5 ∧
          ∃ mask, commonEntry.binding = .common mask x.1 ∧ mask.getLsbD g = true) ∧
        ∀ g, ((oneComp commonEntry).region g).registry.length + (want g).length ≤ 192) ∧
      ∀ g, ((oneComp commonEntry).region g).registry = []) ∧
    -- the refusals
    ((base.meter 3).defn = none ∧ ((0x1FFF : Ident) = 0x1FFF ∧ (8191 : Ident) = 8191)) ∧
    ((4 : ComponentId) ≠ 5 ∧ (oneComp commonEntry).component 5 = some commonEntry) ∧
    (commonEntry.binding = .common 0x04 0x300 ∧ (0x04 : RegionMask).getLsbD (2 : RegionId) = true) ∧
    ((oneComp (plain 1 0x110 0x1FFF (.national 0 0))).component 5 = some (plain 1 0x110 0x1FFF (.national 0 0)) ∧
      (plain 1 0x110 0x1FFF (.national 0 0)).released = false) ∧
    (((registered [⟨0x300, .slotRole 1 1, 3, false⟩]).region 2).registry.find? (fun x => x.ident == 0x300) =
        some ⟨0x300, .slotRole 1 1, 3, false⟩ ∧
      ∀ h < (2 : RegionId), ((registered [⟨0x300, .slotRole 1 1, 3, false⟩]).region h).registry = []) ∧
    (((registered fullRegistry).region 2).registry.length = 192 ∧
      (∀ e ∈ ((registered fullRegistry).region 2).registry, e.ident ≠ 0x300 ∧ e.definer ≠ .component 5) ∧
      canTake .management (registered fullRegistry)) := by
  refine ⟨⟨base_takes .management, rfl, ?_, ?_, ⟨fun g => if (0x04 : RegionMask).getLsbD g = true then [(0x300, .component 5)] else [],
    ?_, ?_⟩, ?_⟩, by decide +kernel, by decide +kernel, by decide, by decide +kernel, by decide +kernel, by decide +kernel,
    by decide +kernel, base_takes .management⟩
  · intro d e hd h
    exact absurd (oneComp_component _ _ _ h).1 hd
  · intro e h
    rw [(oneComp_component _ _ _ h).2]
    rfl
  · intro g x
    obtain ⟨i, d⟩ := x
    by_cases hg : (0x04 : RegionMask).getLsbD g = true
    · simp only [hg, if_true, List.mem_singleton, Prod.mk.injEq, commonEntry, plain, Binding.common.injEq]
      constructor
      · rintro ⟨rfl, rfl⟩
        exact ⟨rfl, _, ⟨rfl, rfl⟩, hg⟩
      · rintro ⟨rfl, m, ⟨-, rfl⟩, -⟩
        exact ⟨rfl, rfl⟩
    · simp only [hg, commonEntry, plain, Binding.common.injEq, Bool.false_eq_true, if_false, List.not_mem_nil, false_iff]
      rintro ⟨-, m, ⟨rfl, -⟩, h⟩
      exact hg h
  · intro g
    have h : ∀ g, (base.region g).registry = [] := by decide +kernel
    show (base.region g).registry.length + _ ≤ 192
    rw [h g]
    dsimp only
    split <;> decide
  · have h : ∀ g, (base.region g).registry = [] := by decide +kernel
    exact h

theorem test_witness_ComponentClearAndRead :
    (∀ e, (oneComp commonEntry).component 5 = some e → e.released = true) ∧
    (∃ e, (oneComp (plain 1 0x110 0x1FFF (.variant 0 0))).component 5 = some e ∧ e.released = false) ∧
    ∀ l, canTake l (oneComp commonEntry) := by
  refine ⟨?_, ⟨plain 1 0x110 0x1FFF (.variant 0 0), by decide +kernel, rfl⟩, oneComp_takes _⟩
  intro e h
  rw [(oneComp_component _ _ _ h).2]
  rfl

theorem test_witness_MeterRequestsAndRefresh :
    (∀ l, canTake l base) ∧ (base.meter 0).defn = none ∧ (4294967295 : Nat) < 2 ^ 32 ∧
    ∃ d, ((base.setMeter 0 { defn := some meter46, excess := true }).meter 0).defn = some d := by
  exact ⟨base_takes, by decide +kernel, by decide, meter46, by decide +kernel⟩

/-! ### Slots and variants -/

/-- A slot whose role 0 names component C5, on identifier 0x200. -/
def slotA : SlotDef := { roles := [{ role := 0, out := 0x200, national := some 5 }], anchor := 0, clockRole := some 0 }
def unboundEntry : Component := plain 1 0x110 0x1FFF .unbound

theorem base_route (g : RegionId) (sl : SlotId) : base.route g sl = Route.reset := by
  have h : ∀ g sl, base.route g sl = Route.reset := by decide +kernel
  exact h g sl
theorem base_variant (v : VariantId) : base.variant v = none := by
  have h : ∀ v, base.variant v = none := by decide +kernel
  exact h v
theorem base_slot (sl : SlotId) : base.slot sl = none := by
  have h : ∀ sl, base.slot sl = none := by decide +kernel
  exact h sl
theorem base_region (g : RegionId) : base.region g = Region.reset := by
  have h : ∀ g, base.region g = Region.reset := by decide +kernel
  exact h g

theorem slotA_legal (s : State) (h : s.component 5 = some unboundEntry ∨ s.component 5 = some commonEntry) :
    s.slotLegal slotA := by
  refine ⟨by decide, by decide, by decide, by decide, by decide, by decide, by decide, ?_⟩
  intro c hc
  have : c = 5 := by simpa [slotA] using hc
  subst this
  rcases h with h | h
  · exact ⟨_, h, rfl⟩
  · exact ⟨_, h, rfl⟩

theorem slotA_free (s : State) (h : s.component 5 = some unboundEntry) :
    ∀ c ∈ slotA.roles.filterMap SlotRole.national, ¬s.keptFrom 0 c := by
  rintro c hc ⟨k, hk, hb, -⟩
  have : c = 5 := by simpa [slotA] using hc
  subst this
  rw [h, Option.some.injEq] at hk
  subst hk
  exact hb rfl

theorem oneComp_self (k : Component) : (oneComp k).component 5 = some k := State.setComponent_component_self _ _ _

theorem test_witness_SlotWriteBindsItsRoles :
    canTake .management (oneComp unboundEntry) ∧ (oneComp unboundEntry).slotLegal slotA ∧
    (∀ c ∈ slotA.roles.filterMap SlotRole.national, ¬(oneComp unboundEntry).keptFrom 0 c) ∧
    (∀ g, ((oneComp unboundEntry).route g 0).onNational) ∧ (∀ x ∈ (oneComp unboundEntry).cues, x.slot ≠ 0) ∧
    (∀ v e, (oneComp unboundEntry).variant v = some e → e.slot = 0 →
      (∀ x ∈ e.comps, x.1 ∈ slotA.roles.map SlotRole.role) ∧ slotA.anchor ∈ e.comps.map Prod.fst) ∧
    (∀ g, ((oneComp unboundEntry).region g).registry.length + slotA.roles.length ≤ 192) ∧
    ∀ g, ∀ x ∈ slotWants 0 slotA, ∀ e ∈ ((oneComp unboundEntry).region g).registry, e.ident = x.1 → e.definer = x.2 := by
  refine ⟨oneComp_takes _ _, slotA_legal _ (.inl (oneComp_self _)), slotA_free _ (oneComp_self _), ?_, ?_, ?_, ?_, ?_⟩
  · intro g
    show (base.route g 0).onNational
    rw [base_route]
    exact ⟨rfl, rfl⟩
  · intro x h
    exact absurd h (by simp [oneComp, base, State.reset, State.resetBy])
  · intro v e h
    rw [show (oneComp unboundEntry).variant v = base.variant v from rfl, base_variant] at h
    exact absurd h (by simp)
  · intro g
    show (base.region g).registry.length + _ ≤ 192
    rw [base_region]
    decide
  · intro g x _ e he
    rw [show (oneComp unboundEntry).region g = base.region g from rfl, base_region] at he
    exact absurd he (by simp [Region.reset])

/-- A variant of S0 that uses role 1, with or without role 0. -/
def variantRoles (l : List (RoleId × ComponentId)) : VariantDef :=
  { slot := 0, comps := l, fallback := .national, starveMs := 20, recoverMs := 0, returnMs := 0, health := .starved
    starveTimer := none, recoverTimer := none }
def cue7 : Cue :=
  { id := 7, due := 1000, mask := 0x04, slot := 0, target := .national, policy := .immediate, waitMs := none, rpt := .once
    owner := 0, state := .pending, outcomes := [(2, .none)], insertion := 0 }

theorem test_witness_SlotWriteRefusals :
    -- BAD_FIELD
    (¬(oneComp unboundEntry).slotLegal { slotA with roles := [] } ∧ canTake .management (oneComp unboundEntry)) ∧
    -- IN_USE with its five reasons
    ((oneComp commonEntry).slotLegal slotA ∧ slotA.roles.filterMap SlotRole.national = [] ++ 5 :: [] ∧
      (oneComp commonEntry).keptFrom 0 5) ∧
    (¬(((oneComp unboundEntry).setRoute 2 0 { Route.reset with current := .blank }).route 2 0).onNational ∧
      ∀ h < (2 : RegionId), (((oneComp unboundEntry).setRoute 2 0 { Route.reset with current := .blank }).route h 0).onNational) ∧
    (({ oneComp unboundEntry with cues := [cue7] } : State).cues = [] ++ cue7 :: [] ∧ cue7.slot = 0) ∧
    (((oneComp unboundEntry).setVariant 1 (some (variantRoles [(0, 1), (1, 2)]))).isVariantOf 0 1 fun e =>
      ∃ x ∈ e.comps, x.1 ∉ slotA.roles.map SlotRole.role) ∧
    ((((oneComp unboundEntry).setVariant 0 (some (variantRoles []))).isVariantOf 0 0 fun e =>
        slotA.anchor ∉ e.comps.map Prod.fst) ∧
      ∀ v, ¬((oneComp unboundEntry).setVariant 0 (some (variantRoles []))).isVariantOf 0 v fun e =>
        ∃ x ∈ e.comps, x.1 ∉ slotA.roles.map SlotRole.role) ∧
    -- CONFLICT and FULL
    (slotWants 0 slotA = [] ++ (0x200, .slotRole 0 0) :: [] ∧
      ((registered [⟨0x200, .component 1, 3, false⟩]).region 2).registry.find? (fun z => z.ident == 0x200) =
        some ⟨0x200, .component 1, 3, false⟩) ∧
    ((∀ x ∈ slotWants 0 slotA, ∀ e ∈ ((registered fullRegistry).region 2).registry, e.ident ≠ x.1) ∧
      192 < (((registered fullRegistry).region 2).registry.filter fun e => !ownSlot 0 e).length + slotA.roles.length) := by
  refine ⟨⟨fun h => h.1 rfl, oneComp_takes _ _⟩, ⟨slotA_legal _ (.inr (oneComp_self _)), by decide,
    _, oneComp_self _, by decide, by intro r; simp [commonEntry, plain]⟩, ⟨?_, ?_⟩, ⟨rfl, rfl⟩, ?_, ⟨?_, ?_⟩,
    by decide +kernel, by decide +kernel, by decide +kernel⟩
  · unfold Route.onNational
    decide +kernel
  · unfold Route.onNational
    decide +kernel
  · exact ⟨_, State.setVariant_variant_self _ _ _, rfl, (1, 2), by decide, by decide⟩
  · exact ⟨_, State.setVariant_variant_self _ _ _, rfl, by decide⟩
  · rintro v ⟨e, he, -, x, hx, -⟩
    by_cases hv : (0 : VariantId) = v
    · subst hv
      rw [State.setVariant_variant_self, Option.some.injEq] at he
      subst he
      exact absurd hx (by simp [variantRoles])
    · rw [State.setVariant_variant_ne _ _ _ _ hv, show (oneComp unboundEntry).variant v = base.variant v from rfl,
        base_variant] at he
      exact absurd he (by simp)

theorem test_witness_SlotClearAndRead :
    (∀ l, canTake l base) ∧ (∀ g, (base.route g 0).onNational) ∧ (∀ x ∈ base.cues, x.slot ≠ 0) ∧
    (∀ v, ¬base.isVariantOf 0 v fun _ => True) ∧
    ((base.setVariant 0 (some (variantRoles []))).isVariantOf 0 0 fun _ => True) ∧
    (∃ vs : List VariantId, vs.Pairwise (· < ·) ∧ ∀ v, v ∈ vs ↔ base.isVariantOf 0 v fun _ => True) := by
  have none : ∀ v, ¬base.isVariantOf 0 v fun _ => True := by
    rintro v ⟨e, he, -⟩
    rw [base_variant] at he
    exact absurd he (by simp)
  refine ⟨base_takes, ?_, by simp [base, State.reset, State.resetBy], none,
    ⟨_, State.setVariant_variant_self _ _ _, rfl, trivial⟩, [], .nil, fun v => ⟨fun h => absurd h (by simp), fun h => absurd h (none v)⟩⟩
  intro g
  rw [base_route]
  exact ⟨rfl, rfl⟩

/-- The base state with a component C5 and the slot S0. -/
def withSlot (k : Component) : State := (oneComp k).setSlot 0 (some slot0)

theorem variant_legal (k : Component) (h : k.mask = 0x1FFF) : (withSlot k).variantLegal (variantRoles [(0, 5)]) := by
  refine ⟨slot0, State.setSlot_slot_self _ _ _, by decide +kernel, by decide +kernel, by decide +kernel, ?_, by decide +kernel⟩
  intro x hx
  have : x = (0, 5) := by simpa [variantRoles] using hx
  subst this
  exact ⟨k, oneComp_self k, h⟩

theorem test_witness_VariantWriteBindsItsRoles :
    canTake .management (withSlot unboundEntry) ∧ (withSlot unboundEntry).variantLegal (variantRoles [(0, 5)]) ∧
    (∀ x ∈ (variantRoles [(0, 5)]).comps, ∀ k, (withSlot unboundEntry).component x.2 = some k →
      k.binding = .unbound ∨ ∃ r, k.binding = .variant 0 r) ∧
    ¬(withSlot unboundEntry).variantUsed 0 ∧
    variantRoles [(0, 5)] = { variantRoles [(0, 5)] with
      starveMs := min 5000 (max 20 0), recoverMs := min 60000 0, returnMs := min 10000 0
      health := .starved, starveTimer := none, recoverTimer := none } := by
  refine ⟨base_takes .management, variant_legal _ rfl, ?_, ?_, rfl⟩
  · intro x _ k h
    rw [(oneComp_component _ _ _ h).2]
    exact .inl rfl
  · rintro (⟨g, sl, h⟩ | ⟨c, hc, -⟩)
    · rw [show (withSlot unboundEntry).route g sl = base.route g sl from rfl, base_route] at h
      simp [Route.reset, RouteState.target] at h
    · exact absurd hc (by simp [withSlot, oneComp, base, State.reset, State.resetBy])

theorem test_witness_VariantRefusalsClearAndRead :
    (¬base.variantLegal (variantRoles [(0, 5)]) ∧ canTake .management base) ∧
    ((withSlot commonEntry).variantLegal (variantRoles [(0, 5)]) ∧
      ∃ x ∈ (variantRoles [(0, 5)]).comps, ∃ k, (withSlot commonEntry).component x.2 = some k ∧ k.binding ≠ .unbound ∧
        ∀ r, k.binding ≠ .variant 0 r) ∧
    ((base.setRoute 1 1 { Route.reset with intended := .variant 3 }).variantUsed 3) ∧
    ¬base.variantUsed 3 ∧ base.variant 3 = none ∧
    (base.setVariant 3 (some (variantRoles []))).variant 3 = some (variantRoles []) := by
  refine ⟨⟨?_, base_takes _⟩, ⟨variant_legal _ rfl, (0, 5), by decide, commonEntry, oneComp_self _, by decide, ?_⟩, ?_, ?_,
    base_variant _, State.setVariant_variant_self _ _ _⟩
  · rintro ⟨sd, h, -⟩
    rw [base_slot] at h
    exact absurd h (by simp)
  · intro r
    simp [commonEntry, plain]
  · exact .inl ⟨1, 1, .inr (.inl (by decide +kernel))⟩
  · rintro (⟨g, sl, h⟩ | ⟨c, hc, -⟩)
    · rw [base_route] at h
      simp [Route.reset, RouteState.target] at h
    · exact absurd hc (by simp [base, State.reset, State.resetBy])

/-! ### The schedule and the routes -/

/-- The base state, at station time 1,000, with the slot S0 and a schedule. -/
def cueState (l : List Cue) : State := { base.setSlot 0 (some slot0) with cues := l }
def add7 (due : Nat) (rpt : Repeat) : CueAdd :=
  { id := 7, due := due, mask := 0x04, slot := 0, target := .national, policy := .onConfirm, wait := 0, rpt := rpt
    owner := 127 }
/-- RG2 claimed by an owner. -/
def claimedBy (o : Nat) (s : State) : State := { s with claims := s.claims.set 2 (some o) }
def manyCues : List Cue := List.replicate 128 cue7

theorem national_legal (l : List Cue) : (cueState l).targetLegal 0 .national := by
  refine ⟨?_, by simp⟩
  rw [show (cueState l).slot 0 = some slot0 from State.setSlot_slot_self _ _ _]
  simp

theorem cue_takes (k : List Cue) : ∀ l, canTake l (cueState k)
  | .management => base_takes .management
  | .cue => base_takes .cue

theorem cue_route (l : List Cue) (g : RegionId) (sl : SlotId) : (cueState l).route g sl = Route.reset := base_route g sl

theorem nobody_waits (l : List Cue) (g : RegionId) (sl : SlotId) (id : Nat) :
    ((cueState l).route g sl).waiter ≠ some (.cue id) := by
  rw [cue_route]
  simp [Route.reset, Route.waiter]

theorem all_may_touch (l : List Cue) (m : RegionMask) (o : Nat) : (cueState l).mayTouch m o := by
  have h : ∀ g, base.claimant g = none := by decide +kernel
  exact fun g _ => .inl (h g)

/-- The cue that `add7` enters. -/
def entered7 (due : Nat) (r : Repeat) : Cue :=
  { cue7 with due := due, rpt := r, policy := .onConfirm, waitMs := some 1000, owner := 127 }

theorem add7_enters (l : List Cue) (due : Nat) (r : Repeat) (h : due < 152882380800000000) (hl : l.length < 128)
    (hi : ∀ y ∈ l, y.id ≠ 7) : (add7 due r).enters 1000 (some 1000) (entered7 due r) (cueState l) :=
  ⟨⟨by simp [add7], by simp [add7], h, by simp [add7], by simp [add7], by simp [add7]⟩,
    (by decide +kernel : base.station = some 1000), hl, hi,
    national_legal _, all_may_touch _ _ _, rfl,
    by
      simp only [add7, entered7, cue7, Cue.mk.injEq, true_and]
      exact ⟨by decide, (by decide +kernel : 0 = base.insertion)⟩⟩

theorem test_witness_CueAddPlacesOrRefusesACue :
    (∀ due r, due < 152882380800000000 → (add7 due r).enters 1000 (some 1000) (entered7 due r) (cueState [])) ∧
    ((∀ l, canTake l (cueState [])) ∧ (cueState []).station = some 1000 ∧ (cueState []).cues = [] ∧
      (cueState []).targetLegal 0 .national ∧ (cueState []).mayTouch 0x04 127 ∧ (cueState []).insertion < 4294967294 ∧
      (cueState []).falling = [] ∧ ∀ g sl id, ((cueState []).route g sl).waiter ≠ some (.cue id)) ∧
    -- a future due time, the earliest that waits; one late by exactly 10 s; and one tick more, DAILY and ONCE
    ((add7 (1000 + 76441190400000000) .once).wellFormed ∧
      76441190400000000 ≤ (1000 + 152882380800000000 - (add7 (1000 + 76441190400000000) .once).due) % 152882380800000000) ∧
    ((add7 (1000 + 152882380800000000 - 270000000) .once).wellFormed ∧
      (1000 + 152882380800000000 - (add7 (1000 + 152882380800000000 - 270000000) .once).due) % 152882380800000000 ≤
        270000000) ∧
    (∀ r, (add7 (1000 + 152882380800000000 - 270000001) r).wellFormed ∧
      270000000 < (1000 + 152882380800000000 - (add7 (1000 + 152882380800000000 - 270000001) r).due) % 152882380800000000 ∧
      (1000 + 152882380800000000 - (add7 (1000 + 152882380800000000 - 270000001) r).due) % 152882380800000000 <
        76441190400000000) ∧
    -- the refusals
    (({ cueState [] with offset := none } : State).station = none ∧ 128 ≤ (cueState manyCues).cues.length ∧
      (∃ y ∈ (cueState [cue7]).cues, y.id = (add7 1000 .once).id) ∧ ¬(cueState []).targetLegal 1 .national ∧
      (claimedBy 20 (cueState [])).firstClaimed 0x04 127 2 20) := by
  refine ⟨fun due r h => add7_enters [] due r h (by decide) (by simp),
    ⟨cue_takes [], by decide +kernel, rfl, national_legal _, all_may_touch _ _ _, by decide +kernel, rfl,
    nobody_waits _⟩, ?_, ?_, ?_, by decide +kernel, by decide +kernel, ⟨cue7, by decide +kernel, by decide +kernel⟩, ?_, ?_⟩
  · unfold CueAdd.wellFormed
    decide +kernel
  · unfold CueAdd.wellFormed
    decide +kernel
  · unfold CueAdd.wellFormed
    intro r
    cases r <;> decide +kernel
  · rintro ⟨h, -⟩
    exact h (by decide +kernel)
  · unfold State.firstClaimed
    decide +kernel

/-- Cue 7 with a due time stands ready and meets no wait, whatever the offset of station time. -/
theorem due_ready (d : Nat) (off : Option Nat) :
    ({ cueState [{ cue7 with due := d }] with offset := off, falling := [] } : State).readyToFall { cue7 with due := d } :=
  ⟨⟨by simp [cueState], by simp [cueState], rfl, by simp [cue7],
    (by decide : cue7.outcomes = (regionsOf cue7.mask).map fun g => (g, CueOutcome.none)),
    (by decide +kernel : base.insertion < 4294967295), rfl, fun g _ => nobody_waits [] g 0 7⟩,
    fun g id _ => nobody_waits [] g 0 id⟩

/-- Cue 7, ONCE or DAILY, due at a time, alone in the schedule. -/
def lateCue (d : Nat) (r : Repeat) : Cue := { cue7 with due := d, rpt := r }

theorem test_witness_TimeSetMovesStationTime :
    (canTake .management State.reset ∧ 152882380799999999 < 152882380800000000 ∧
      ∀ c ∈ State.reset.cues, c.state ≠ .pending) ∧
    (65535 < 65536 ∧ 2332800000000 ≤ 2332800000000 ∧ 2332800000000 < 281474976710656) ∧
    (∀ l, canTake .management (cueState l)) ∧
    (∀ d r, ((cueState [lateCue d r]).cues.map Cue.id).Nodup ∧ lateCue d r ∈ (cueState [lateCue d r]).cues ∧
      (lateCue d r).state = .pending ∧ (cueState [lateCue d r]).insertion < 4294967295) ∧
    -- at station time 1,000: the half span, which is the future; one tick less; 10 s and one tick; and 10 s
    ((lateCue (1000 + 76441190400000000) .once).late 1000 = 76441190400000000 ∧
      (lateCue (1000 + 76441190400000001) .once).late 1000 = 76441190399999999 ∧
      (lateCue (1000 + 152882380800000000 - 270000001) .daily).late 1000 = 270000001 ∧
      (lateCue (1000 + 152882380800000000 - 270000000) .once).late 1000 = 270000000) ∧
    ∀ d off, ({ cueState [lateCue d .once] with offset := off, falling := [] } : State).readyToFall (lateCue d .once) := by
  refine ⟨⟨reset_takes _, by decide, by decide⟩, by decide, fun l => cue_takes l _, fun d r => ?_, by decide, due_ready⟩
  exact ⟨by simp [cueState], by simp [cueState], rfl, (by decide +kernel : base.insertion < 4294967295)⟩

/-- 6.10: at 06:00:25 of day 19,850 cue 140, ONCE and due at 06:00:00, is expired and removed; and cue 141, DAILY and due
at 06:00:20, is handed over and, with its outcome at once, re-entered a day later. -/
theorem test_time_set_pass :
    let day := 19850 * 2332800000000
    let c140 : Cue := { cue7 with id := 140, due := day + 583200000000 }
    let c141 : Cue := { cue7 with id := 141, due := day + 583740000000, rpt := .daily }
    let t := ask .management 0x06 (eStation (day + 583875000000)) (cueState [c140, c141])
    t.cues = [{ c141 with due := day + 2332800000000 + 583740000000, insertion := 0 }] ∧
      t.mgmt.notices.contains (.cueDone { c140 with outcomes := [(2, .expired)] } none) = true := by decide +kernel

/-- Cue 5 in an occurrence, on which RG2's route waits, before cue 7 falls due. -/
def cue5 : Cue := { cue7 with id := 5, due := 0, state := .active }
def superseding : State :=
  (cueState [cue5, cue7]).setRoute 2 0 { Route.reset with state := .pendingSplice (.variant 9) (some 5) ⟨0, 1000⟩ }

theorem superseding_ahead : superseding.dailiesWait := by
  intro c h hd
  have : c = cue5 ∨ c = cue7 := by simpa [superseding, cueState] using h
  rcases this with rfl | rfl <;> exact absurd hd (by decide)

/-- An older cue of cue 7's due time. -/
def cue6 : Cue := { cue7 with id := 6 }

theorem cue6_ready : (cueState [cue6]).standsReady cue6 :=
  ⟨by simp [cueState], by simp [cueState], rfl, by simp [cue6, cue7],
    (by decide : cue6.outcomes = (regionsOf cue6.mask).map fun g => (g, CueOutcome.none)),
    (by decide +kernel : base.insertion < 4294967295), rfl, fun g _ => nobody_waits _ g 0 6⟩

theorem test_witness_CueFallsDueAtItsTime :
    -- CUE_ADD of cue 7 at its due time, with cue 6 due at the same tick
    ((∀ l, canTake l (cueState [cue6])) ∧
      (add7 1000 .once).enters 1000 (some 1000) (entered7 1000 .once) (cueState [cue6]) ∧
      (1000 + 152882380800000000 - (add7 1000 .once).due) % 152882380800000000 ≤ 270000000 ∧
      ((cueState [cue6]).cues.map Cue.id).Nodup ∧ (cueState [cue6]).falling = [] ∧
      (cueState [cue6]).insertion < 4294960000 ∧ (cueState [cue6]).dailiesWait ∧
      (∀ g, ((cueState [cue6]).route g (add7 1000 .once).slot).waiter ≠ some (.cue (add7 1000 .once).id)) ∧
      cue6.state = .pending ∧ cue6.due % 152882380800000000 = 1000 ∧
      ∀ y ∈ (cueState [cue6]).cues, (cueState [cue6]).standsReady y) ∧
    (∀ now, (cueState []).station = some now → ∀ y ∈ (cueState []).cues, y.state = .pending →
      y.due % 152882380800000000 ≠ now) ∧
    ((cueState [cue7]).readyToFall cue7 ∧ (cueState [cue7]).station = some cue7.due ∧
      (cueState [cue7]).cues = [] ++ cue7 :: []) ∧
    -- RG2's route waits on an earlier cue, which has no other outcome to come
    (superseding.standsReady cue7 ∧ superseding.station = some cue7.due ∧ superseding.cues = [cue5] ++ cue7 :: [] ∧
      cue5.state = .active ∧ superseding.insertion < 4294967280 ∧ superseding.dailiesWait ∧
      (superseding.route 2 0).waiter = some (.cue cue5.id) ∧ (superseding.route 2 0).hold = false) := by
  refine ⟨⟨cue_takes _, add7_enters _ 1000 .once (by decide) (by decide) (by simp [cue6]), by decide, by simp [cueState], rfl,
      (by decide +kernel : base.insertion < 4294960000), fun c h hd => ?_, fun g => nobody_waits _ g 0 7, rfl, by decide,
      fun y h => ?_⟩,
    fun _ _ y h => absurd h (by simp [cueState]), ⟨due_ready 1000 (some 0), by decide +kernel, rfl⟩,
    ⟨by decide +kernel, by decide +kernel, rfl, by decide, by decide +kernel, by decide +kernel, rfl, by decide +kernel⟩,
    by decide +kernel, rfl, rfl, by decide +kernel, superseding_ahead, by decide +kernel, by decide +kernel⟩
  · have : c = cue6 := by simpa [cueState] using h
    exact absurd hd (this ▸ by decide)
  · have : y = cue6 := by simpa [cueState] using h
    exact this ▸ cue6_ready

/-- R101, R102: the route that waited on cue 5 takes cue 7; cue 5 is SUPERSEDED and, ONCE, removed. -/
theorem test_cue_superseded :
    let t := next .cueFallsDue superseding
    t.cues = [] ∧ t.mgmt.notices.contains
      (.cueDone { cue5 with outcomes := [(2, .superseded)] } none) = true := by decide +kernel

def active7 (p : SwitchPolicy) : Cue := { cue7 with policy := p, state := .active }
def deadline9 : Deadline := { set := 0, len := 1000 }
def withRoute (r : Route) (s : State) : State := s.setRoute 2 0 r
/-- Cue 7 in an occurrence, ON_CONFIRM, and RG2's route that waits on it. -/
def confirm7 (r : Repeat) : Cue := { active7 .onConfirm with rpt := r }
def awaiting (r : Repeat) : State :=
  withRoute { Route.reset with state := .awaitConfirm .national (some 7) deadline9 } (cueState [confirm7 r])

theorem awaiting_route (r : Repeat) (g : RegionId) (sl : SlotId) (t : Target) (id : Option Nat) (d : Deadline)
    (h : ((awaiting r).route g sl).state = .awaitConfirm t id d) : (g = 2 ∧ sl = 0) ∧ t = .national := by
  by_cases hg : g = 2 ∧ sl = 0
  · obtain ⟨rfl, rfl⟩ := hg
    have : ((awaiting r).route 2 0).state = .awaitConfirm .national (some 7) deadline9 := by cases r <;> decide +kernel
    rw [this] at h
    injection h with h1
    exact ⟨⟨rfl, rfl⟩, h1.symm⟩
  · have : ∀ g sl, ¬(g = 2 ∧ sl = 0) → ((awaiting r).route g sl).state = .steady := by cases r <;> decide +kernel
    rw [this g sl hg] at h
    exact absurd h (by simp)

theorem awaiting_ahead (r : Repeat) : (awaiting r).nextWaits (confirm7 r) := by
  intro _ now h
  have : (awaiting r).station = some 1000 := by cases r <;> decide +kernel
  rw [this] at h
  obtain rfl : 1000 = now := by simpa using h
  cases r <;> decide

theorem awaiting_wait (r : Repeat) : (awaiting r).dailiesWait := by
  intro c h
  have : c = confirm7 r := by simpa [awaiting, withRoute, State.setRoute, cueState] using h
  exact this ▸ awaiting_ahead r

theorem test_witness_CueCancelAndConfirm :
    (∀ l, canTake l (cueState [])) ∧ (0 < 65535 ∧ 65535 < 65536 ∧ 127 ≤ 127) ∧ (∀ y ∈ (cueState []).cues, y.id ≠ 7) ∧
    (cue7 ∈ (cueState [cue7]).cues ∧ ((cueState [cue7]).cues.map Cue.id).Nodup ∧
      (claimedBy 20 (cueState [cue7])).firstClaimed cue7.mask 0 2 20 ∧ (cueState [cue7]).mayTouch cue7.mask 0 ∧
      cue7.state = .pending) ∧
    ((active7 .atMark).state = .active ∧ (active7 .atMark).policy ≠ .onConfirm) ∧
    -- a cue that a route awaits, ONCE or DAILY
    (∀ r, confirm7 r ∈ (awaiting r).cues ∧ ((awaiting r).cues.map Cue.id).Nodup ∧ (awaiting r).insertion < 4294967295 ∧
      (awaiting r).nextWaits (confirm7 r) ∧
      (awaiting r).falling = [] ∧ (confirm7 r).outcomes.map Prod.fst = regionsOf (confirm7 r).mask ∧
      (∃ x ∈ (confirm7 r).outcomes, x.2 = .none) ∧
      (∀ g : RegionId, (g, CueOutcome.none) ∈ (confirm7 r).outcomes ↔
        (confirm7 r).mask.getLsbD g = true ∧
          ∃ d, ((awaiting r).route g 0).state = .awaitConfirm (confirm7 r).target (some 7) d) ∧
      ∀ g target d, ((awaiting r).route g 0).state = .awaitConfirm target (some 7) d → target = (confirm7 r).target) := by
  refine ⟨cue_takes [], by decide, by simp [cueState], ⟨by decide +kernel, by decide +kernel, ?_, all_may_touch _ _ _, rfl⟩,
    by decide, fun r => ⟨by cases r <;> decide +kernel, by cases r <;> decide +kernel, by cases r <;> decide +kernel,
      awaiting_ahead r, rfl, by cases r <;> decide +kernel, by cases r <;> decide +kernel, ?_,
      fun g t d h => (awaiting_route r g 0 t _ d h).2⟩⟩
  · unfold State.firstClaimed
    decide +kernel
  · intro g
    constructor
    · intro h
      have : g = 2 := by simpa [confirm7, active7, cue7] using h
      subst this
      exact ⟨by cases r <;> decide, deadline9, by cases r <;> decide +kernel⟩
    · rintro ⟨-, d, h⟩
      rw [(awaiting_route r g 0 _ _ d h).1.1]
      cases r <;> decide

theorem test_witness_CueListReadsTheSchedule :
    (∀ l, canTake l (cueState [cue7])) ∧ (cueState [cue7]).cues = [] ++ cue7 :: [] ∧ 0 < cue7.id ∧ cue7.id < 65536 ∧
    (∀ y ∈ (cueState []).cues, y.id ≠ 7) ∧ 127 ≤ 127 ∧ 127 < 128 ∧ 128 < 256 :=
  ⟨cue_takes _, rfl, by decide, by decide, by simp [cueState], by decide, by decide, by decide⟩

theorem test_witness_RouteTakeMeetsEachRoute :
    (∀ l, canTake l (cueState [])) ∧ (4294967295 : Nat) < 2 ^ 32 ∧ (¬(cueState []).targetLegal 1 .national) ∧
    (cueState []).targetLegal 0 .national ∧ (claimedBy 20 (cueState [])).firstClaimed 0x04 127 2 20 ∧
    (cueState []).mayTouch 0xFF 127 ∧ (cueState []).falling = [] ∧
    ((cueState []).dailiesWait ∧ ∀ g sl id, ((cueState []).route g sl).waiter ≠ some (.cue id)) ∧
    (superseding.falling = [] ∧ superseding.dailiesWait ∧ (superseding.cues.map Cue.id).Nodup ∧
      superseding.insertion < 4294967280) := by
  refine ⟨cue_takes [], by decide, ?_, national_legal _, ?_, all_may_touch _ _ _, rfl,
    ⟨fun c h => absurd h (by simp [cueState]), nobody_waits _⟩, rfl, superseding_ahead, by decide +kernel,
    by decide +kernel⟩
  · rintro ⟨h, -⟩
    exact h (by decide +kernel)
  · unfold State.firstClaimed
    decide +kernel

/-- RG2's route waits for a take, with a current and intended source; V0 has a health and return wait. -/
def waiting (cur : Source) (int : Target) (h : Health) (ret : Nat) : State :=
  (withRoute { Route.reset with current := cur, intended := int, state := .pendingSplice (.variant 9) none deadline9 }
    (cueState [])).setVariant 0 (some { variantRoles [] with health := h, returnMs := ret })

theorem test_witness_RouteHoldAndFree :
    (∀ l, canTake l (cueState [])) ∧ (claimedBy 20 (cueState [])).firstClaimed 0x04 127 2 20 ∧
    (cueState []).mayTouch 0xFF 127 ∧ (cueState []).falling = [] ∧ (cueState []).dailiesWait ∧
    ((cueState []).route 2 0).waiter = none ∧
    -- a cue, ONCE or DAILY, for which RG2's route waits
    (∀ r, (awaiting r).mayTouch 0xFF 127 ∧ (awaiting r).falling = [] ∧ (awaiting r).dailiesWait ∧
      ((awaiting r).cues.map Cue.id).Nodup ∧ (awaiting r).insertion < 4294960000 ∧
      ((awaiting r).route 2 0).tells 2 .held = some (2, 7, .held)) ∧
    (∀ c i h n, ((waiting c i h n).route 2 0).waiter = some .take ∧ ((waiting c i h n).route 2 0).current = c ∧
      ((waiting c i h n).route 2 0).intended = i) ∧
    (waiting .blank (.variant 0) .starved 5).healthy 0 = false ∧
    ((waiting .blank (.variant 0) .healthy 5).healthy 0 = true ∧
      (waiting .blank (.variant 0) .healthy 5).returnTicks 0 ≠ 0) ∧
    ((waiting .blank (.variant 0) .healthy 0).healthy 0 = true ∧
      (waiting .blank (.variant 0) .healthy 0).returnTicks 0 = 0) := by
  refine ⟨cue_takes [], ?_, all_may_touch _ _ _, rfl, fun c h => absurd h (by simp [cueState]), by decide +kernel,
    fun r => ⟨all_may_touch [confirm7 r] _ _, rfl, awaiting_wait r, by cases r <;> decide +kernel, by cases r <;> decide +kernel,
      by cases r <;> decide +kernel⟩, ?_, by decide +kernel, by decide +kernel, by decide +kernel⟩
  · unfold State.firstClaimed
    decide +kernel
  · intro c i h n
    exact ⟨rfl, rfl, rfl⟩

def routed (st : RouteState) (l : List Cue) : State := withRoute { Route.reset with state := st } (cueState l)
def deadlineNext : Deadline := { set := 0, len := 1001 }

/-- The cue awaits its confirm at a station time by which the day after its due time is late by this much. -/
def overtaken (late : Nat) : State := { awaiting .daily with offset := some (2332800000000 + late) }
def expired7 : Cue := { confirm7 .daily with outcomes := [(2, .expired)] }

/-- R98, R103: at its deadline the DAILY cue completes EXPIRED; its next occurrence is the present, falls due at once, finds
NATIONAL on air and completes NO_CHANGE; so it waits for the day after that. R193: of its two waiting CUE_DONE the later one
stands. -/
theorem test_reentered_falls_due :
    let t := next (.routeDeadline 2 0) (overtaken 0)
    t.cues = [{ confirm7 .daily with state := .pending, due := 1000 + 2 * 2332800000000, insertion := 1 }] ∧
      t.mgmt.notices.filterMap (fun n => match n with | .cueDone c _ => some c.outcomes | _ => none) =
        [[(2, .noChange)]] := by decide +kernel

/-- R103: later than 10 s, the next occurrence is advanced to the first day in the future. -/
theorem test_reentered_is_advanced :
    (next (.routeDeadline 2 0) (overtaken 270000001)).cues =
      [{ confirm7 .daily with state := .pending, due := 1000 + 2 * 2332800000000, insertion := 0 }] := by decide +kernel

theorem test_witness_RouteDeadlineEndsTheWait :
    -- the next occurrence is the present, or late by just 10 s; a tick later it waits for another day
    (∀ late ∈ [0, 270000000], (overtaken late).station = some (2332800001000 + late) ∧
      (confirm7 .daily).nextLate (2332800001000 + late) = late ∧ (overtaken late).falling = [] ∧
      ((overtaken late).route 2 0).state = .awaitConfirm .national (some 7) deadline9 ∧
      (overtaken late).cues = [confirm7 .daily] ∧ (confirm7 .daily).state = .active ∧
      (overtaken late).insertion < 4294960000 ∧ (confirm7 .daily).outcomes.map Prod.fst = regionsOf (confirm7 .daily).mask ∧
      (∀ h, (((overtaken late).setRoute 2 0 ((overtaken late).abandon ((overtaken late).route 2 0))).route h 0).waiter ≠
        some (.cue 7)) ∧
      ∀ x ∈ expired7.outcomes, x.2 ≠ .none) ∧
    ((overtaken 270000001).nextWaits (confirm7 .daily) ∧
      (overtaken 270000001).reentersAt (confirm7 .daily) (1000 + 2 * 2332800000000)) ∧
    ((base.route 2 0).state.deadline = none ∧
      ((routed (.returning 0 deadlineNext) []).route 2 0).state.deadline = some deadlineNext ∧
      (base.clock - deadlineNext.set).toNat < deadlineNext.len ∧ deadline9.len ≤ (base.clock - deadline9.set).toNat) ∧
    (((routed (.pendingSplice .national none deadline9) []).route 2 0).state = .pendingSplice .national none deadline9 ∧
      ((routed (.pendingSplice .national none deadline9) []).route 2 0).waiter = some .take) ∧
    (((routed (.returning 0 deadline9) []).route 2 0).state = .returning 0 deadline9 ∧
      ((routed (.returning 0 deadline9) []).route 2 0).waiter = none) ∧
    (∀ r, ((awaiting r).route 2 0).state = .awaitConfirm .national (some 7) deadline9 ∧
      ((awaiting r).route 2 0).waiter = some (.cue (confirm7 r).id) ∧ confirm7 r ∈ (awaiting r).cues ∧
      ((awaiting r).cues.map Cue.id).Nodup ∧ (confirm7 r).state = .active ∧ (awaiting r).insertion < 4294967295 ∧
      (awaiting r).nextWaits (confirm7 r) ∧ (awaiting r).falling = []) := by
  have hs : (overtaken 270000001).station = some (2332800001000 + 270000001) := by decide +kernel
  refine ⟨by decide +kernel, ⟨fun _ now h => ?_, ?_⟩, by decide +kernel, by decide +kernel, by decide +kernel,
    fun r => ⟨?_, ?_, ?_, ?_, rfl, ?_, awaiting_ahead r, rfl⟩⟩
  · obtain rfl : _ = now := Option.some.inj (hs.symm.trans h)
    decide
  · unfold State.reentersAt
    rw [hs]
    dsimp only
    rw [if_pos (by decide)]
    exact ⟨1, by decide, by decide, by decide, by decide⟩
  all_goals cases r <;> decide +kernel

/-- A packet of V0's anchor component waits, V0 has a record, and RG2's route of S0 carries a source and waits for a target on
behalf of cue 7. -/
def spliceCue (t : Target) (r : Repeat) : Cue := { active7 .atMark with target := t, rpt := r }
def splicing (q : Packet) (d : VariantDef) (cur : Source) (t : Target) (r : Repeat) : State :=
  { withRoute { Route.reset with current := cur, state := .pendingSplice t (some 7) ⟨0, 2000⟩ } (anchored q d) with
    cues := [spliceCue t r] }
def spliced (r : Repeat) : State := splicing mark100 (variant0 .healthy none none) .national (.variant 0) r

theorem splicing_wait (q : Packet) (d : VariantDef) (cur : Source) (t : Target) (r : Repeat) :
    (splicing q d cur t r).dailiesWait := by
  intro c h _ now hn
  obtain rfl : c = spliceCue t r := by simpa [splicing] using h
  obtain rfl : 1000 = now := Option.some.inj hn
  change 270000000 < (1000 + 152882380800000000 - (1000 + 2332800000000) % 152882380800000000) % 152882380800000000
  decide

/-- R100, R102, R123: at the mark the cue gets SWITCHED and completes. -/
theorem test_mark_completes_cue :
    let t := next .classifierTake (spliced .once)
    t.cues = [] ∧ t.mgmt.notices.contains
      (.cueDone { spliceCue (.variant 0) .once with outcomes := [(2, .switched)] } none) = true := by decide +kernel

theorem test_witness_MarksSwitchWaitingRoutes :
    let s := anchored mark100 (variant0 .healthy none none)
    (s.falling = [] ∧ State.takesFor s 0 (arrived mark100) [] 0 (comp100 none (.variant 0 0)) ∧
      s.passesMeter (comp100 none (.variant 0 0)) (arrived mark100) ∧
      s.anchorSource (.variant 0 0) = some (0, .variant 0) ∧ s.fit (.variant 0) = true ∧ s.dailiesWait ∧
      entryFlag mark100 = true ∧ errorFlag mark100 = false) ∧
    -- a cue, ONCE or DAILY, for which RG2's route waits
    (∀ r, (spliced r).falling = [] ∧ State.takesFor (spliced r) 0 (arrived mark100) [] 0 marked ∧
      (spliced r).passesMeter marked (arrived mark100) ∧ (spliced r).anchorSource marked.binding = some (0, .variant 0) ∧
      (spliced r).fit (.variant 0) = true ∧ (spliced r).dailiesWait ∧ ((spliced r).cues.map Cue.id).Nodup ∧
      (spliced r).insertion < 4294960000 ∧ (spliced r).markedOutcomes 0 (.variant 0) = [(2, 7, .switched)]) := by
  intro s
  refine ⟨⟨rfl, ?_, .inl rfl, by decide +kernel, by decide +kernel, ?_, by decide +kernel, by decide +kernel⟩,
    fun r => ⟨rfl, taking_takes mark100 marked (by decide +kernel) (by decide +kernel), .inl rfl, ?_, ?_,
      splicing_wait _ _ _ _ _, by simp [spliced, splicing], ?_, ?_⟩⟩
  rotate_left 2
  iterate 4 cases r <;> decide +kernel
  · exact taking_takes mark100 (comp100 none (.variant 0 0)) (by decide +kernel) (by decide +kernel)
  · exact fun c h => absurd h List.not_mem_nil

theorem test_witness_HealthChangesMoveRoutes :
    (∀ h a b, (anchored packet100 (variant0 h a b)).variant 0 = some (variant0 h a b) ∧
      (anchored packet100 (variant0 h a b)).falling = [] ∧ (anchored packet100 (variant0 h a b)).dailiesWait) ∧
    reachedNow.len ≤ (base.clock - reachedNow.set).toNat ∧
    ((variant0 .healthy (some reachedNow) none).starveTimer = some reachedNow ∧
      (variant0 .recovering none (some reachedNow)).recoverTimer = some reachedNow) ∧
    -- a cue, ONCE or DAILY, whose target starves, and one whose outgoing source does
    (∀ x ∈ [(Source.national, Target.variant 0, CueOutcome.fallback), (.variant 0, .national, .forced)], ∀ r,
      (splicing packet100 (variant0 .healthy (some reachedNow) none) x.1 x.2.1 r).starvedOutcomes 0 = [(2, 7, x.2.2)] ∧
      (splicing packet100 (variant0 .healthy (some reachedNow) none) x.1 x.2.1 r).dailiesWait ∧
      ((splicing packet100 (variant0 .healthy (some reachedNow) none) x.1 x.2.1 r).cues.map Cue.id).Nodup ∧
      (splicing packet100 (variant0 .healthy (some reachedNow) none) x.1 x.2.1 r).insertion < 4294960000 ∧
      (splicing packet100 (variant0 .healthy (some reachedNow) none) x.1 x.2.1 r).falling = []) := by
  refine ⟨fun _ _ _ => ⟨State.setVariant_variant_self _ _ _, rfl, fun c h => absurd h List.not_mem_nil⟩, by decide +kernel,
    ⟨rfl, rfl⟩, fun x hx r => ⟨?_, splicing_wait _ _ _ _ _, by simp [splicing], (by decide +kernel : base.insertion < 4294960000), rfl⟩⟩
  have h : ∀ x ∈ [(Source.national, Target.variant 0, CueOutcome.fallback), (.variant 0, .national, .forced)],
      (splicing packet100 (variant0 .healthy (some reachedNow) none) x.1 x.2.1 .once).starvedOutcomes 0 = [(2, 7, x.2.2)] := by
    decide +kernel
  exact h x hx

/-- R100, R127: at a starvation the cue of a waiting splice gets FALLBACK for its starved target, and FORCED where the outgoing
source starves. -/
theorem test_starvation_completes_cue :
    let t := fun c x => next (.starvationExpiry 0) (splicing packet100 (variant0 .healthy (some reachedNow) none) c x .once)
    ((t .national (.variant 0)).mgmt.notices.contains
        (.cueDone { spliceCue (.variant 0) .once with outcomes := [(2, .fallback)] } none) = true ∧
      (t .national (.variant 0)).cues = []) ∧
    (t (.variant 0) .national).mgmt.notices.contains
      (.cueDone { spliceCue .national .once with outcomes := [(2, .forced)] } none) = true := by decide +kernel

theorem test_witness_RouteReadAndTallyLines :
    (∀ l, canTake l base) ∧ 8 ≤ (8 : Byte).toNat ∧ 24 ≤ (24 : Byte).toNat ∧
    ∃ active : TallyId → Bool, ∀ x, active x = true ↔ ∃ g sl v, base.tallies[x] = some (g, sl) ∧
      (base.route g sl).current = .variant v := by
  refine ⟨base_takes, by decide, by decide, fun _ => false, fun x => ⟨by simp, ?_⟩⟩
  rintro ⟨g, sl, v, -, h⟩
  rw [base_route] at h
  exact absurd h (by simp [Route.reset])

theorem test_witness_ClaimsReserveRegions :
    (∀ l, canTake l (cueState [])) ∧ (0x04 : RegionMask) ≠ 0 ∧ 0 < 127 ∧ 127 ≤ 127 ∧
    (claimedBy 20 (cueState [])).firstClaimed 0x04 127 2 20 ∧ (cueState []).mayTouch 0x04 127 ∧
    127 < (128 : Byte).toNat := by
  refine ⟨cue_takes [], by decide, by decide, by decide, ?_, all_may_touch _ _ _, by decide⟩
  unfold State.firstClaimed
  decide +kernel

/-! ## The evening of 6.9 -/

/-- Cue 101 of 6.9 for RG2, ONCE or DAILY, with V0 in a health: AT_MARK, with a wait limit of 2,000 ms. -/
def cue101 (r : Repeat) : Cue :=
  { cue7 with target := .variant 0, policy := .atMark, waitMs := some 2000, rpt := r }
def evening (h : Health) (r : Repeat) : State :=
  (cueState [cue101 r]).setVariant 0 (some { variantRoles [] with health := h })

/-- 6.9 at t_d: a HEALTHY target waits for its mark, 54,000,000 ticks at most, and the cue is ACTIVE. -/
theorem test_cue_waits_for_mark :
    let t := next .cueFallsDue (evening .healthy .daily)
    t.route 2 0 = { Route.reset with state := .pendingSplice (.variant 0) (some 7) { set := 1000, len := 54000000 } } ∧
      t.cues = [{ cue101 .daily with state := .active }] := by decide +kernel

/-- 6.9 at t_d: a STARVED target sends the route to its fallback, and the ONCE cue completes and is removed. -/
theorem test_cue_falls_back :
    let t := next .cueFallsDue (evening .starved .once)
    t.route 2 0 = { Route.reset with state := .fallback, intended := .variant 0 } ∧ t.cues = [] ∧
      t.mgmt.notices.getLast? =
        some (.cueDone { cue101 .once with state := .active, outcomes := [(2, .fallback)] } none) := by decide +kernel

/-- R97, R98: cue 7, added for NATIONAL at its due time, is handed over behind cue 6, which is due at the same tick and
sends the route to its fallback. -/
theorem test_cue_add_in_order :
    let s := { evening .starved .once with cues := [{ cue101 .once with id := 6 }] }
    let t := ask .cue 0x1B (cueRequest (add7 1000 .once)) s
    t.route 2 0 = Route.reset ∧ t.cues = [] ∧
      t.mgmt.notices.filterMap (fun n => match n with | .cueDone c _ => some c.id | _ => none) = [6, 7] := by
  decide +kernel

/-- 6.9: at the deadline the route switches without a mark, with FORCED_SPLICE, and the DAILY cue is re-entered a day
later. -/
theorem test_cue_forced :
    let t := next (.routeDeadline 2 0) { next .cueFallsDue (evening .healthy .daily) with clock := 54001000 }
    (t.route 2 0).current = .variant 0 ∧ (t.route 2 0).state = .steady ∧ (t.route 2 0).markPending = true ∧
      t.detected.degraded = true ∧
      t.cues = [{ cue101 .daily with due := 1000 + 2332800000000, insertion := 0 }] := by decide +kernel

/-! ### Regions, carousels and capture -/

theorem test_witness_RegionConfigAndRead :
    (∀ l, canTake l base) ∧ (∀ x ∈ some 4294967295, x < 2 ^ 32) ∧ (0 : Ident) ≠ 8191 :=
  ⟨base_takes, by simp, by decide⟩

def pendingRate (s : State) : State := s.setRegion 2 { s.region 2 with pendingRate := some 2000000 }

theorem test_witness_SlotInstantBeginsOnePacket :
    (base.region 2).clk = none ∧
    (∃ c, ((running base).region 2).clk = some c ∧ c.next = (running base).clock ∧
      ((running base).region 2).pendingRate = none) ∧
    (∃ c, ((pendingRate (running base)).region 2).clk = some c ∧ c.next = (pendingRate (running base)).clock ∧
      ((pendingRate (running base)).region 2).pendingRate = some 2000000) := by
  refine ⟨by decide +kernel, ⟨⟨1000, 1000, 0, 0⟩, by decide +kernel⟩, ⟨1000, 1000, 0, 0⟩, by decide +kernel⟩

/-- RG2 RUNNING with queues. -/
def queued (m e : List QEntry) : State :=
  (running base).setRegion 2 { (running base).region 2 with mainQ := m, expQ := e, registry := [⟨0x200, .component 0, 3, true⟩] }
/-- K3 of RG2 with two packets, the next one numbered. -/
def cycling (i : Nat) (mode : CarMode) (late swap : Bool) : State :=
  (running base).setCarousel 3 {
    region := some 2, intervalMs := 10, mode := mode, state := .running, live := [section98 0x20, section98 0x21]
    building := [section98 0x20], swapPending := swap, cursor := some i, cycleStart := some 0
    interval := some (deadline9, late) }

theorem no_carousel_due (m e : List QEntry) (h : CarouselId) (j : Nat) :
    ((queued m e).carousel h).region = some 2 → ((queued m e).carousel h).cursor = some j →
      ((queued m e).carousel h).live.length ≤ j := by
  have hr : ∀ h, (base.carousel h).region = none := by decide +kernel
  intro x
  rw [show ((queued m e).carousel h).region = (base.carousel h).region from rfl, hr] at x
  exact absurd x (by simp)

theorem only_K3 (i : Nat) (mode : CarMode) (late swap : Bool) (h : CarouselId) (j : Nat) :
    ((cycling i mode late swap).carousel h).region = some 2 → ((cycling i mode late swap).carousel h).cursor = some j →
      h = 3 := by
  have hr : ∀ h, (base.carousel h).region = none := by decide +kernel
  intro x _
  by_contra hk
  rw [show ((cycling i mode late swap).carousel h) = base.carousel h from
    State.setCarousel_carousel_ne _ _ _ _ (fun a => hk a.symm), hr] at x
  exact absurd x (by simp)

def registered98 : State :=
  let s := cycling 1 .single false false
  s.setRegion 2 { s.region 2 with registry := [⟨0x20, .carousel 3, 7, false⟩, ⟨0x21, .carousel 3, 6, true⟩] }
/-- An entry whose discontinuity becomes owed when it is discarded, before one that is begun. -/
def discarded : QEntry := { entry (1000 - 5400001) 0 with setDisc := true }
def draining : State :=
  let s := queued [discarded, entry 900 1] []
  s.setRegion 2 { s.region 2 with registry := [], drains := [⟨0x200, 9, false⟩] }

/-- R154, R155, R158: the discarded entry's discontinuity is owed to the drain record, which goes with its last entry. -/
theorem test_drain_owed :
    ((discardLate 2 1000 draining).region 2).drains = [⟨0x200, 9, true⟩] ∧
      ((next (.slotInstant 2) draining).region 2).drains = [] := by decide +kernel

theorem test_witness_SlotInstantDiscardsAndChooses :
    (((queued [] []).region 2).clk = some ⟨1000, 1000, 0, 0⟩ ∧ (1000 : Clock) = (queued [] []).clock) ∧
    ((cycling 1 .single false false).carousel 3).live[1]? = some (section98 0x21) ∧
    (∀ h j, ((cycling 1 .single false false).carousel h).region = some 2 →
      ((cycling 1 .single false false).carousel h).cursor = some j →
      j < ((cycling 1 .single false false).carousel h).live.length →
        ((cycling 1 .single false false).region 2).carouselTurn 3 ≤
          ((cycling 1 .single false false).region 2).carouselTurn h) ∧
    (∀ m e h j, ((queued m e).carousel h).region = some 2 → ((queued m e).carousel h).cursor = some j →
      ((queued m e).carousel h).live.length ≤ j) ∧
    (((queued [entry 900 0] []).region 2).mainQ.dropWhile (fun e => e.over 200 1000) = entry 900 0 :: [] ∧
      ((queued [entry 900 0] []).region 2).lookup 0x200 ≠ none) ∧
    (((queued [] [entry 900 0]).region 2).mainQ.dropWhile (fun e => e.over 200 1000) = [] ∧
      ((queued [] [entry 900 0]).region 2).expQ.dropWhile (fun e => e.over 500 1000) = entry 900 0 :: []) ∧
    -- K3's identifier registered, its swap not pending; and a drain record for the identifier of a queued entry
    ((registered98.region 2).lookup (ident (section98 0x21)) ≠ none ∧
      (registered98.carousel 3).swapPending = false) ∧
    ((draining.region 2).lookup 0x200 = none ∧ (draining.region 2).drain 0x200 = some ⟨0x200, 9, false⟩ ∧
      (draining.region 2).mainQ.takeWhile (fun e => e.over 200 1000) = [discarded] ∧ discarded.setDisc = true) := by
  refine ⟨by decide +kernel, by decide +kernel, ?_, no_carousel_due, by decide +kernel, by decide +kernel,
    by decide +kernel, by decide +kernel⟩
  intro h j h1 h2 _
  rw [only_K3 _ _ _ _ _ _ h1 h2]

theorem test_witness_OutputCopyDrawsOnTheRegistry :
    (Packet.wf case1 = true ∧ hasSample case1 = true ∧ Packet.wf packet100 = true ∧ hasSample packet100 = false) ∧
    ((∀ h j, ((queued [entry 900 0] []).carousel h).region = some 2 → ((queued [entry 900 0] []).carousel h).cursor = some j →
        ((queued [entry 900 0] []).carousel h).live.length ≤ j) ∧
      ((queued [entry 900 0] []).region 2).mainQ = entry 900 0 :: [] ∧ (entry 900 0).over 200 1000 = false ∧
      ((queued [entry 900 0] []).region 2).lookup 0x200 ≠ none) ∧
    (((queued [] [entry 900 0]).region 2).mainQ = [] ∧ ((queued [] [entry 900 0]).region 2).expQ = entry 900 0 :: [] ∧
      (entry 900 0).over 500 1000 = false) := by
  refine ⟨by decide +kernel, ⟨no_carousel_due _ _, by decide +kernel⟩, by decide +kernel⟩

def sendingFeed (bound : Option RegionId) : State :=
  base.setFeed 0 { bound := bound, out := some { packet := nullPacket, begun := 0, ends := 1000 } }

theorem test_witness_FeedsBindAndGoIdle :
    canTake .management base ∧ (base.feed 0).out = none ∧
    ((running (sendingFeed (some 2))).feed 0).bound = some 2 ∧ ((running (sendingFeed (some 2))).region 2).clk ≠ none ∧
    ((sendingFeed (some 2)).feed 0).out = some { packet := nullPacket, begun := 0, ends := 1000 } ∧
    ((sendingFeed (some 2)).region 2).clk = none := by
  unfold canTake
  decide +kernel

/-- K3 of a region, IDLE or RUNNING, with a live and a building list of one packet each, on 0x020 and 0x021. -/
def holding (g : Option RegionId) (st : CarState) (swap : Bool) (cursor : Option Nat) (s : State) : State :=
  s.setCarousel 3 { Carousel.reset with
    region := g, state := st, live := [section98 0x20], building := [section98 0x21], swapPending := swap, cursor := cursor }
def other20 : List RegEntry := [⟨0x20, .component 0, 3, false⟩]
def other21 : List RegEntry := [⟨0x21, .component 0, 3, false⟩]

theorem wants98 (i : Nat) (h : i < 256) : distinctIdents [section98 i] = [BitVec.ofNat 13 i] := by
  have : ∀ i : Fin 256, distinctIdents [section98 i] = [BitVec.ofNat 13 i] := by decide +kernel
  exact this ⟨i, h⟩

/-- RG2's registrations of K3 for its live and its building list. -/
def own98 : List RegEntry := [⟨0x20, .carousel 3, 7, false⟩, ⟨0x21, .carousel 3, 15, true⟩]
def starting98 : State := holding (some 2) .running false none (registered own98)
def stopping98 : State := holding (some 2) .running true (some 0) (running (registered own98))

theorem holding_other (g : Option RegionId) (st : CarState) (swap : Bool) (cursor : Option Nat) (s : State)
    (hs : ∀ h, (s.carousel h).region = none) (h : CarouselId)
    (hr : ((holding g st swap cursor s).carousel h).region = some 2) : h = 3 := by
  by_contra hk
  rw [holding, State.setCarousel_carousel_ne _ _ _ _ (fun a => hk a.symm), hs] at hr
  exact absurd hr (by simp)

theorem base_unregioned (h : CarouselId) : (base.carousel h).region = none := by
  revert h
  decide +kernel

theorem test_witness_RegionStartAndStop :
    (canTake .management base ∧ (base.region 2).clk = none ∧ (base.region 2).mainQ = [] ∧ (base.region 2).expQ = [] ∧
      ∀ k, (base.carousel k).region ≠ some 2) ∧
    -- RG2 starts with K3 RUNNING
    (canTake .management starting98 ∧ (starting98.region 2).clk = none ∧ (starting98.region 2).mainQ = [] ∧
      (starting98.region 2).expQ = [] ∧
      (∀ k, (starting98.carousel k).region = some 2 → (starting98.carousel k).cursor = none) ∧
      (starting98.carousel 3).state = .running ∧ (starting98.carousel 3).live.head? = some (section98 0x20) ∧
      (starting98.region 2).lookup (ident (section98 0x20)) ≠ none ∧
      ∀ h, (starting98.carousel h).region = some 2 →
        (starting98.region 2).carouselTurn 3 ≤ (starting98.region 2).carouselTurn h) ∧
    -- RG2 stops with a swap of K3 pending
    (canTake .management stopping98 ∧ (stopping98.region 2).clk ≠ none ∧ (stopping98.carousel 3).swapPending = true ∧
      ∀ k, (stopping98.carousel k).region = some 2 → (stopping98.region 2).holdsBuilding k (stopping98.carousel k)) := by
  have h1 : ∀ k, (starting98.carousel k).region = some 2 → k = 3 := holding_other _ _ _ _ _ base_unregioned
  have h2 : ∀ k, (stopping98.carousel k).region = some 2 → k = 3 := holding_other _ _ _ _ _ base_unregioned
  refine ⟨⟨base_takes _, by decide +kernel, by decide +kernel, by decide +kernel, fun k => by rw [base_unregioned]; simp⟩,
    ⟨base_takes .management, by decide +kernel, by decide +kernel, by decide +kernel, fun k hk => ?_, by decide +kernel,
      by decide +kernel, by decide +kernel, fun h hk => ?_⟩,
    base_takes .management, by decide +kernel, by decide +kernel, fun k hk => ?_⟩
  · rw [h1 k hk]
    decide +kernel
  · rw [h1 h hk]
  · rw [h2 k hk]
    unfold Region.holdsBuilding
    decide +kernel

theorem test_witness_CarouselConfigAndAppend :
    canTake .management (holding none .idle false none base) ∧
    (((holding none .idle false none base).carousel 3).region ≠ some 2 ∧
      ((holding none .running false none base).carousel 3).state = .running ∧
      ((holding none .idle false none base).carousel 3).state ≠ .running) ∧
    ((((holding none .idle false none (registered other20)).region 2).registry.find? fun z => z.ident == 0x20) =
        some ⟨0x20, .component 0, 3, false⟩ ∧
      carouselWants 3 ((holding none .idle false none base).carousel 3).live = [] ++ (0x20, .carousel 3) :: []) ∧
    (192 < ((holding none .idle false none (registered fullRegistry)).region 2).registry.length + 1 ∧
      ∀ e ∈ ((holding none .idle false none (registered fullRegistry)).region 2).registry, e.ident ≠ 0x20) ∧
    ((holding none .idle false none base).region 2).registry = [] ∧
    -- CAROUSEL_APPEND
    (∀ p ∈ [section98 0x20, section98 0x21], p.length = 188 ∧ byteAt p 0 = 0x47 ∧ ident p ≠ 8191) ∧
    (nullPacket.length = 188 ∧ ident nullPacket = 8191) ∧ 8 < (List.replicate 9 nullPacket).length ∧
    ((holding none .idle true none base).carousel 3).swapPending = true ∧
    64 < (List.replicate 64 nullPacket).length + 1 := by
  refine ⟨base_takes .management, ?_, ?_, ?_, ?_, ?_, ?_, ?_, ?_, ?_⟩ <;> decide +kernel

theorem test_witness_CarouselSwapTakesTheBuildingList :
    canTake .management (holding (some 2) .running false none base) ∧
    ((holding none .idle false none base).carousel 3).region = none ∧
    ((holding (some 2) .running true none base).carousel 3).swapPending = true ∧
    ((base.setCarousel 3 { Carousel.reset with region := some 2 }).carousel 3).building = [] ∧
    (carouselWants 3 ((holding (some 2) .running false none base).carousel 3).building = [] ++ (0x21, .carousel 3) :: [] ∧
      (((holding (some 2) .running false none (registered other21)).region 2).registry.find? fun z => z.ident == 0x21) =
        some ⟨0x21, .component 0, 3, false⟩) ∧
    192 < ((holding (some 2) .running false none (registered fullRegistry)).region 2).registry.length + 1 ∧
    (((holding (some 2) .running false none base).region 2).registry = [] ∧
      ((holding (some 2) .running false none base).carousel 3).cursor = none ∧
      ((holding (some 2) .running false (some 0) base).carousel 3).cursor ≠ none) := by
  refine ⟨base_takes .management, ?_, ?_, ?_, ?_, ?_, ?_⟩ <;> decide +kernel

theorem test_witness_CarouselRequestsStartStopClearAndRead :
    (∀ l, canTake l base) ∧ (base.carousel 3).region = none ∧ (base.carousel 3).state = .idle ∧
    (base.setCarousel 3 { Carousel.reset with region := some 2 }).carousel 3 = { Carousel.reset with region := some 2 } ∧
    ((holding (some 2) .running false none base).carousel 3).state = .running ∧
    (((holding (some 2) .done false none base).carousel 3).state ≠ .running ∧
      ((holding (some 2) .done false none base).region 2).clk = none) ∧
    (((holding (some 2) .done false none (running base)).carousel 3).live ≠ [] ∧
      ((holding (some 2) .done false none (running base)).region 2).clk ≠ none) ∧
    ((stopping98.carousel 3).state ≠ .idle ∧ (stopping98.carousel 3).swapPending = true ∧
      (stopping98.carousel 3).region = some 2) := by
  refine ⟨base_takes, ?_, ?_, ?_, ?_, ?_, ?_, ?_⟩ <;> decide +kernel

/-- RG2 in ROTATE, with a packet begun last and a main queue, and K3's last packet due. -/
def rotating (b : Begun) (q : List QEntry) : State :=
  (cycling 1 .single false false).setRegion 2
    { (running base).region 2 with mode := .rotate, lastBegun := b, mainQ := q }

/-- R149, R168: with the main queue empty a carousel packet follows another in ROTATE, and the SINGLE cycle is DONE. -/
theorem test_rotate_finishes_cycle :
    ((next (.slotInstant 2) (rotating .carousel [])).carousel 3).state = .done ∧
      ((next (.slotInstant 2) (rotating .carousel [entry 900 0])).carousel 3).state = .running := by decide +kernel

theorem test_witness_CarouselCyclesRepeat :
    (∀ i mode late swap, (cycling i mode late swap).region 2 = (running base).region 2) ∧
    (((running base).region 2).clk = some ⟨1000, 1000, 0, 0⟩ ∧ (1000 : Clock) = (running base).clock ∧
      ((running base).region 2).mode = .fixed) ∧
    -- in ROTATE it is the carousels' turn after a MAIN packet, and after a CAROUSEL packet while the main queue is empty
    (((rotating .main [entry 900 0]).region 2).lastBegun ≠ .carousel ∧
      ((rotating .carousel []).region 2).mainQ.dropWhile (fun e => e.over 200 1000) = [] ∧
      ∀ b q, ((rotating b q).region 2).mode = .rotate ∧ (rotating b q).carousel 3 = (cycling 1 .single false false).carousel 3 ∧
        ((rotating b q).region 2).clk = some ⟨1000, 1000, 0, 0⟩) ∧
    (∀ i mode late swap h j, ((cycling i mode late swap).carousel h).region = some 2 →
      ((cycling i mode late swap).carousel h).cursor = some j → h = 3) ∧
    (∀ mode late swap, ((cycling 0 mode late swap).carousel 3).cursor = some 0 ∧
      0 + 1 < ((cycling 0 mode late swap).carousel 3).live.length ∧
      ((cycling 1 mode late swap).carousel 3).cursor = some 1 ∧
      1 + 1 = ((cycling 1 mode late swap).carousel 3).live.length ∧
      ((cycling 1 mode late swap).carousel 3).mode = mode ∧
      ((cycling 1 mode late swap).carousel 3).interval = some (deadline9, late)) ∧
    (∃ t, exec (.slotInstant 2) (cycling 1 .continuous true true) = .next t) ∧
    -- the swap of 9.8: cursor at the last packet, the building list registered, and one registration given up
    ((swap98.carousel 3).swapPending = true ∧ (swap98.region 2).holdsBuilding 3 (swap98.carousel 3) ∧
      keptBySwap 3 (swap98.carousel 3) (0x21, .carousel 3) = false) ∧
    ((base.carousel 3).state ≠ .running ∧ (base.carousel 3).interval = none) ∧
    (deadline9.len ≤ (base.clock - deadline9.set).toNat ∧ (base.clock - deadlineNext.set).toNat < deadlineNext.len) := by
  refine ⟨fun _ _ _ _ => rfl, by decide +kernel,
    ⟨by decide +kernel, by decide +kernel, fun b q => ⟨rfl, rfl, rfl⟩⟩, only_K3, ?_, ⟨_, rfl⟩,
    ⟨by decide +kernel, by unfold Region.holdsBuilding; decide +kernel, by decide +kernel⟩, by decide +kernel,
    by decide +kernel⟩
  intro mode late swap
  cases mode <;> cases late <;> cases swap <;> decide +kernel

theorem test_witness_CaptureReadAndRelease : (∀ l, canTake l base) ∧ 65535 < 65536 := ⟨base_takes, by decide⟩

/-! ### Invariants: states that meet them and do not stand still -/

/-- A slot instant waits at the front of the queue of 8.11's region. -/
def moving : State := { late811 with pending := [.slotInstant 2] }

theorem test_witness_StepKeepsSlotClocksExact : moving.clocksOk ∧ ∃ t, step moving = .next t := by
  refine ⟨?_, _, rfl⟩
  intro g
  by_cases hg : (2 : RegionId) = g
  · subst hg
    refine ⟨by unfold rateOk; decide +kernel, ?_, ?_⟩
    · intro p h
      rw [show (moving.region 2).pendingRate = none by decide +kernel] at h
      exact absurd h (by simp)
    · intro c h
      rw [show (moving.region 2).clk = some { base := 1000, next := 1000 + 6411, acc := 15000000, index := 3 } by
        decide +kernel, Option.some.injEq] at h
      subst h
      decide +kernel
  · have h : ∀ g : RegionId, 2 ≠ g → moving.region g = Region.reset := by decide +kernel
    rw [h g hg]
    exact ⟨by unfold rateOk; decide, by intro p hp; exact absurd hp (by simp [Region.reset]),
      by intro c hc; exact absurd hc (by simp [Region.reset])⟩

def metering : State :=
  { base.setMeter 0 { defn := some { meter46 with credit := 406080000000 }, excess := false } with
    pending := [.meterIdleRefresh 0] }

theorem test_witness_StepKeepsMeterCreditWithinItsCap : metering.metersOk ∧ ∃ t, step metering = .next t := by
  refine ⟨?_, _, rfl⟩
  intro m d h
  have : ∀ m, (metering.meter m).defn = none ∨ (metering.meter m).defn = some { meter46 with credit := 406080000000 } := by
    decide +kernel
  rcases this m with x | x
  · rw [x] at h
    exact absurd h (by simp)
  · rw [x, Option.some.injEq] at h
    subst h
    decide

theorem test_witness_StepKeepsPoolCountsTrue : moving.poolOk ∧ ∃ t, step moving = .next t := by
  refine ⟨?_, _, rfl⟩
  unfold State.poolOk
  refine ⟨?_, ?_, ?_, ?_⟩ <;> decide +kernel

theorem test_witness_StepKeepsOneDefinerPerIdentifier :
    ({ swap98 with pending := [.slotInstant 2] } : State).namesOk ∧
      ∃ t, step { swap98 with pending := [.slotInstant 2] } = .next t := by
  refine ⟨?_, _, rfl⟩
  unfold State.namesOk Region.namesOk
  decide +kernel

theorem test_witness_StepKeepsRoutesConsistent :
    ({ awaiting .once with pending := [.routeDeadline 2 0] } : State).routesOk ∧
      ∃ t, step { awaiting .once with pending := [.routeDeadline 2 0] } = .next t := by
  refine ⟨?_, _, rfl⟩
  unfold State.routesOk Route.ok
  decide +kernel

end Sys2Proof.Tests
end

section
/-!
PROOFS. Requests and the passing of time: what a request row does with a body that its block answers or refuses, the parts
of the step with no command waiting, and the general requests.
-/
namespace Sys2Proof.Machine

/-! ## Request rows -/

/-- A request row answers a body that its reader takes and its block accepts. -/
theorem answers_of_serve {α : Type} {l : Link} {kind : Byte} {body reply : List Byte} {s s' : State}
    {m : List Byte → Bool} {p : List Byte → Option α} {run : α → State → Answer} {a : α}
    (hx : ∀ t, exec (commandOf l kind) t = .next (serve l kind m p run t)) (hc : canTake l s)
    (hm : l = .management ∨ m body = false) (hp : p body = some a) (hr : run a s = .ok reply s') :
    Answers l kind body s reply s' := by
  intro tag
  have hs := serve_received s l { kind := kind, tag := tag, body := body } m p run hc
  rw [hx, hs, answerRequest_ok s l m p run _ a reply s' hm hp hr]

/-- A request row refuses BAD_FIELD a body that its reader does not take. -/
theorem refuses_badField_of_serve {α : Type} {l : Link} {kind : Byte} {body : List Byte} {s : State}
    {m : List Byte → Bool} {p : List Byte → Option α} {run : α → State → Answer}
    (hx : ∀ t, exec (commandOf l kind) t = .next (serve l kind m p run t)) (hc : canTake l s)
    (hm : l = .management ∨ m body = false) (hp : p body = none) :
    Refuses l kind body s .badField [] := by
  intro tag
  have hs := serve_received s l { kind := kind, tag := tag, body := body } m p run hc
  rw [hx, hs]
  rcases hm with rfl | hm <;> simp [answerRequest, *]

/-! ## The part's own time (R12, R14) -/

/-- With no event due, none is taken next. -/
theorem nextEvent_none {s : State} (h : dueEvents s = []) : nextEvent s = none := by simp [nextEvent, h]

/-- With an event due, one of those due is taken next, and at most the counter of free choices moves. -/
theorem nextEvent_some {s : State} (h : dueEvents s ≠ []) :
    ∃ e ∈ dueEvents s, ∃ n, nextEvent s = some (e, { s with races := n }) := by
  unfold nextEvent
  split
  · next hd => exact absurd hd h
  · next e hd => exact ⟨e, by simp [hd], s.races, rfl⟩
  · next e rest _ hd =>
    have hi : Config.raceChoice s.races % (rest.length + 1) < (e :: rest).length := Nat.mod_lt _ (Nat.succ_pos _)
    refine ⟨(e :: rest)[Config.raceChoice s.races % (rest.length + 1)], ?_, s.races + 1, ?_⟩
    · rw [hd]
      exact List.getElem_mem hi
    · rw [List.getElem?_eq_getElem hi]
      rfl

/-- With no command waiting, a step takes an event that is due, or else is one tick. -/
theorem step_idle {s : State} (h : s.pending = []) : step s = idle s := by simp [step, h]

/-- A tick moves the local clock and the station time offset alone. -/
theorem clockTick_only (s : State) :
    clockTick s = { s with clock := s.clock + 1, offset := (clockTick s).offset } := rfl

/-- Station time goes on by one tick, through the wrap of the local clock as at any other tick (R14). -/
theorem clockTick_station (s : State) :
    (clockTick s).station = s.station.map fun n => (n + 1) % 152882380800000000 := by
  unfold State.station clockTick
  by_cases hw : s.clock = BitVec.allOnes 48
  · cases s.offset <;> simp [hw, Config.stationSpan]
    omega
  · have hlt : s.clock.toNat + 1 < 2 ^ 48 := by
      have : s.clock.toNat ≠ 2 ^ 48 - 1 := fun e => hw (BitVec.eq_of_toNat_eq (by simpa using e))
      omega
    have hc : (s.clock + 1).toNat = s.clock.toNat + 1 := by
      rw [BitVec.toNat_add]
      exact Nat.mod_eq_of_lt hlt
    rw [if_neg hw, hc]
    cases s.offset <;> simp [Config.stationSpan]
    omega

/-- The local clock after its highest value is 0 (R12). -/
theorem clockTick_clock_wraps {s : State} (h : s.clock = BitVec.allOnes 48) : (clockTick s).clock = 0 := by
  simp only [clockTick, h]
  decide

/-- Settles O2: the events due decide between an event and a tick, and a tick is the same at the wrap as elsewhere. -/
theorem idleStepsPassTime : Obligations.IdleStepsPassTime := by
  refine ⟨fun s hp => ⟨fun hd => ?_, fun hd => ?_⟩, fun s => ⟨_, clockTick_only s, clockTick_station s⟩, fun s hw hd => ?_,
    fun s hw => ?_⟩
  · rw [step_idle hp, idle, nextEvent_none hd]
  · obtain ⟨e, he, n, hn⟩ := nextEvent_some hd
    exact ⟨e, he, n, by rw [step_idle hp, idle, hn]⟩
  · have htick : clockTick s = { s with clock := 0, offset := (clockTick s).offset } := by
      rw [← clockTick_clock_wraps hw]
      rfl
    have hexec : exec .localClockWrap s = .next (clockTick s) := congrArg Host.Outcome.next (if_pos ⟨hw, hd⟩)
    exact ⟨_, hexec.trans (congrArg _ htick), htick ▸ clockTick_station s⟩
  · exact congrArg Host.Outcome.next (if_neg fun h => hw h.1)

/-! ## General requests (R19, R195 to R197, R199) -/

/-- A set byte has no bit beyond the fourth. -/
theorem rSet4_some {b : Byte} (h : b.toNat < 16) (rest : List Byte) : rSet4 (b :: rest) = some (b, rest) := by
  simp [rSet4, h]

theorem rSet4_none {b : Byte} (h : 16 ≤ b.toNat) (rest : List Byte) : rSet4 (b :: rest) = none := by
  simp [rSet4, Nat.not_lt.2 h]

/-- The link of a REPORT_SET body, and then its enables. -/
theorem rReportSet_eq (l : Link) (b : Byte) :
    rReportSet (e1 (linkCode l) ++ [b]) = (rSet4 [b]).map fun y => ((l, y.1), y.2) := by
  cases l <;> rfl

/-- Settles O10: each request row answers with the fields of its rule, and a class beyond the four does not read. -/
theorem generalRequestsReadAndSetReporting : Obligations.GeneralRequestsReadAndSetReporting := by
  refine ⟨fun l s hc => ⟨?identify, ?status, ?time⟩, ?clear, ?report, ?refuse⟩
  case identify =>
    refine answers_of_serve (a := ()) (fun _ => rfl) hc (.inr rfl) rfl ?_
    simp only [doIdentify, capacityBytes, List.flatMap_cons, List.flatMap_nil, List.append_nil, List.append_assoc]
  case status =>
    refine answers_of_serve (a := ()) (fun _ => rfl) hc (.inr rfl) rfl ?_
    simp only [doStatusRead, eClock, eFlag, eLink, State.poolFree, List.append_assoc]
  case time => exact answers_of_serve (a := ()) (fun _ => rfl) hc (.inr rfl) rfl rfl
  case clear =>
    rintro s b d hc hb rfl
    exact answers_of_serve (fun _ => rfl) hc (.inl rfl) (readAll_some _ _ b (rSet4_some hb [])) rfl
  case report =>
    rintro s b n hc hb rfl
    have hread : ∀ l, readAll rReportSet (e1 (linkCode l) ++ [b]) = some (l, b) := fun l =>
      readAll_some _ _ _ (by rw [rReportSet_eq, rSet4_some hb]; rfl)
    exact ⟨answers_of_serve (fun _ => rfl) hc (.inl rfl) (hread .management) rfl,
      answers_of_serve (fun _ => rfl) hc (.inl rfl) (hread .cue) rfl⟩
  case refuse =>
    intro s b hc hb
    refine ⟨refuses_badField_of_serve (fun _ => rfl) hc (.inl rfl) ?_,
      refuses_badField_of_serve (fun _ => rfl) hc (.inl rfl) ?_⟩
    · simp [readAll, rSet4_none hb]
    · have hread : rReportSet (e1 0 ++ [b]) = none := (rReportSet_eq .management b).trans (by simp [rSet4_none hb])
      simp [readAll, hread]

end Sys2Proof.Machine
end

section
/-!
PROOFS. The classifier: which port it serves next, and what the two policies do with the packet that it takes.
-/
namespace Sys2Proof.Machine

/-! ## The arbiter (R41) -/

/-- Going round from a port, the turns of the ports ascend. -/
theorem roundFrom_turn (k : PortId) :
    (roundFrom k).Pairwise fun p q : PortId => ((p : Nat) + 11 - k) % 12 < ((q : Nat) + 11 - k) % 12 := by
  revert k
  decide +kernel

theorem mem_roundFrom {n : Nat} (k i : Fin n) : i ∈ roundFrom k := by
  simp [roundFrom, lt_or_ge]

/-- The first element that satisfies a condition in a list along which a measure ascends. -/
theorem find?_eq_of_first {α : Type} {f : α → Nat} {ok : α → Bool} {l : List α} {x : α}
    (hl : l.Pairwise fun a b => f a < f b) (hx : x ∈ l) (hok : ok x = true) (hfirst : ∀ y, f y < f x → ok y = false) :
    l.find? ok = some x := by
  obtain ⟨pre, post, rfl⟩ := List.append_of_mem hx
  refine List.find?_eq_some_iff_append.2 ⟨hok, pre, post, rfl, fun y hy => ?_⟩
  have : f y < f x := (List.pairwise_append.1 hl).2.2 y hy x (by simp)
  simp [hfirst y this]

/-- The arbiter takes its next packet from the port whose turn comes first among those with one. -/
theorem State.serves.nextPort {s : State} {p : PortId} {a : Arrived} {rest : List Arrived} (h : s.serves p a rest) :
    s.nextPort = some p := by
  obtain ⟨hfifo, hturn⟩ := h
  refine find?_eq_of_first (roundFrom_turn s.lastServed) (mem_roundFrom _ p) (by simp [hfifo]) fun q hq => ?_
  simp [hturn q hq]

/-- What CLASSIFIER_TAKE does: the packet leaves its FIFO and is handled, and the event ends. -/
theorem exec_classifierTake {s : State} {p : PortId} {a : Arrived} {rest : List Arrived} (h : s.serves p a rest) :
    exec .classifierTake s = .next (settle (handlePacket p a (served p rest s))) := by
  have ht : takePacket s = settle (handlePacket p a (served p rest s)) := by
    unfold takePacket
    rw [h.nextPort]
    simp only [h.1]
    rfl
  exact congrArg Host.Outcome.next ht

/-- A port that is served loses the head of its FIFO alone. -/
theorem served_port (p : PortId) (rest : List Arrived) (s : State) :
    (served p rest s).port p = { s.port p with fifo := rest } := State.setPort_port_self s p _

/-! ## Packets that a policy takes (R4, R35, R36, R51) -/

/-- Where no entry is a candidate, a packet belongs to none (R51). -/
theorem matching_none {s : State} {p : PortId} {i : Ident} (h : unmatchedOn p i s) : s.matching p i = none := by
  have hstep : ∀ c, s.better p i none c = none := by
    intro c
    unfold State.better
    split
    · rfl
    · next k hk =>
      have : k.candidate p i = false := by
        by_cases hp : k.port = p
        · simp [Component.candidate, h c k hk hp]
        · simp [Component.candidate, hp]
      simp [this]
  unfold State.matching
  induction List.finRange 256 with
  | nil => rfl
  | cons c l ih => rw [List.foldl_cons, hstep, ih]

/-- A null packet changes nothing (R4). -/
theorem handlePacket_null {s : State} {p : PortId} {a : Arrived} (h : ident a.packet = 8191) : handlePacket p a s = s := by
  unfold handlePacket
  split <;> exact if_pos h

/-- A packet that is no null packet, of a port that is not admitted or of no entry, meets the port's policy for those
(R35, R36, R51). -/
theorem handlePacket_policy {s : State} {p : PortId} {a : Arrived} {pol : Policy} {why : CapReason}
    (hn : ident a.packet ≠ 8191)
    (hw : why = .unadmitted ∧ (s.port p).admission = .notAdmitted ∧ (s.port p).unadmitted = pol ∨
      why = .unmatched ∧ (s.port p).admission = .admitted ∧ (s.port p).unmatched = pol ∧
        unmatchedOn p (ident a.packet) s) :
    handlePacket p a s = applyPolicy pol why p a s := by
  unfold handlePacket
  rcases hw with ⟨rfl, ha, rfl⟩ | ⟨rfl, ha, rfl, hm⟩
  · rw [ha]
    exact if_neg hn
  · rw [ha]
    simp only [matching_none hm]
    exact if_neg hn

/-- Taking the packet from its FIFO leaves what the policies read. -/
theorem handlePacket_served_policy {s : State} {p : PortId} {a : Arrived} {rest : List Arrived} {pol : Policy}
    {why : CapReason} (hn : ident a.packet ≠ 8191)
    (hw : why = .unadmitted ∧ (s.port p).admission = .notAdmitted ∧ (s.port p).unadmitted = pol ∨
      why = .unmatched ∧ (s.port p).admission = .admitted ∧ (s.port p).unmatched = pol ∧
        unmatchedOn p (ident a.packet) s) :
    handlePacket p a (served p rest s) = applyPolicy pol why p a (served p rest s) := by
  refine handlePacket_policy hn ?_
  rw [served_port]
  exact hw

/-! ## One capture copy (R61, R62, R179 to R181) -/

theorem placeCopies_capture_poolFull {s : State} {p : PortId} {a : Arrived} {why : CapReason} (h : 4096 ≤ s.pool.length) :
    placeCopies p a (some why) [] s = raiseEvent .poolEmpty (.port p) s := by
  simp [placeCopies, Config.poolCap, h]

theorem placeCopies_capture_ringFull {s : State} {p : PortId} {a : Arrived} {why : CapReason} (h : s.pool.length < 4096)
    (hr : 128 ≤ s.capture.length) :
    placeCopies p a (some why) [] s = raiseEvent .captureOverflow (.port p) s := by
  simp [placeCopies, offerFirst, offerCapture, keepBuffer, Config.poolCap, Config.captureCap, Nat.not_le.2 h,
    Nat.not_lt.2 hr]

/-- With room in the pool and in the ring, a buffer holds the packet for the one entry that joins the ring. -/
theorem placeCopies_capture_joins {s : State} {p : PortId} {a : Arrived} {why : CapReason} (h : s.pool.length < 4096)
    (hr : s.capture.length < 128) :
    placeCopies p a (some why) [] s =
      { s with
        pool := s.pool ++ [{ id := freshBuffer s.pool, packet := a.packet, refs := 1 }]
        capture := s.capture ++ [{ buf := freshBuffer s.pool, reason := why, port := p, arrival := a.arrival }]
        mgmt := if s.capture = [] then s.mgmt.place (.captureReady 1 s.clock) else s.mgmt } := by
  by_cases he : s.capture = [] <;>
    simp [placeCopies, offerFirst, offerCapture, keepBuffer, notifyMgmt, Config.poolCap, Config.captureCap,
      Nat.not_le.2 h, hr, he]

/-- Settles O18: the arbiter's packet meets one policy, which leaves it or places one capture copy. -/
theorem policiesDiscardOrCapture : Obligations.PoliciesDiscardOrCapture := by
  refine ⟨?discard, ?capture⟩
  case discard =>
    intro p a rest s hf hs hwhy
    have hkeep : handlePacket p a (served p rest s) = served p rest s := by
      by_cases hn : ident a.packet = 8191
      · exact handlePacket_null hn
      · rcases hwhy with hnull | ⟨ha, hp⟩ | ⟨ha, hp, hm⟩
        · exact absurd hnull hn
        · exact handlePacket_served_policy (pol := .discard) hn (.inl ⟨rfl, ha, hp⟩)
        · exact handlePacket_served_policy (pol := .discard) hn (.inr ⟨rfl, ha, hp, hm⟩)
    rw [exec_classifierTake hs, hkeep, settle_nil (served p rest s) hf]
  case capture =>
    intro p a rest why s u hf hs hn hwhy hu
    have hexec : exec .classifierTake s = .next (settle (placeCopies p a (some why) [] u)) := by
      rw [exec_classifierTake hs, handlePacket_served_policy (pol := .capture) hn hwhy, hu, applyPolicy]
    have huf : u.falling = [] := hu ▸ hf
    have hpool : u.pool = s.pool := hu ▸ rfl
    have hring : u.capture = s.capture := hu ▸ rfl
    have hclock : u.clock = s.clock := hu ▸ rfl
    rw [hexec, ← hpool, ← hring, ← hclock]
    refine ⟨fun hp => ?_, fun hp hr => ?_, fun hp hr => ⟨freshBuffer u.pool, freshBuffer_fresh _, ?_⟩⟩
    · rw [placeCopies_capture_poolFull hp]
      exact congrArg _ (settle_nil _ huf)
    · rw [placeCopies_capture_ringFull hp hr]
      exact congrArg _ (settle_nil _ huf)
    · rw [placeCopies_capture_joins hp hr]
      exact congrArg _ (settle_nil _ huf)

end Sys2Proof.Machine
end

section
/-!
PROOFS. The schedule: the cues that stand in it under one id, and what the operations of the schedule do to them. An event
may renumber the insertions (R93), so the cues of an id are compared without their insertion numbers.
-/
namespace Sys2Proof.Machine

/-! ## Lateness (R94) -/

theorem lateness_due (c : Cue) (now : Nat) : lateness now c.due = c.late now := by
  unfold lateness Cue.late
  simp only [Config.stationSpan]
  omega

/-- A due time moved on by more than its lateness, and by no more than half the span beyond it, lies in the future. -/
theorem lateness_moved_on {now due d : Nat} (h : lateness now due < d) (hd : d ≤ lateness now due + 76441190400000000) :
    76441190400000000 ≤ lateness now ((due + d) % 152882380800000000) := by
  unfold lateness at *
  simp only [Config.stationSpan] at *
  omega

/-- The advance by whole days is the one that the rules name. -/
theorem advanceDue_advancedTo (c : Cue) (late : Nat) : c.advancedTo late (advanceDue c.due late) := by
  refine ⟨late / 2332800000000 + 1, by omega, by omega, by omega, ?_⟩
  simp only [advanceDue, Config.dayTicks, Config.stationSpan]

/-- A due time advanced by whole days from a past one lies in the future. -/
theorem advanceDue_future {now due : Nat} : 76441190400000000 ≤ lateness now (advanceDue due (lateness now due)) := by
  refine lateness_moved_on ?_ ?_ <;> simp only [Config.dayTicks] <;> omega

/-- The day after an occurrence that is at most 10 s late lies in the future. -/
theorem nextLate_future {c : Cue} {now : Nat} (h : c.late now ≤ 270000000) : 76441190400000000 ≤ c.nextLate now := by
  rw [← lateness_nextDay]
  rw [← lateness_due] at h
  exact lateness_moved_on (by omega) (by omega)

/-! ## The cues of one id -/

/-- A cue without its insertion number. -/
def Cue.unnumbered (c : Cue) : Cue := { c with insertion := 0 }

/-- The cues of an id in a list, without their insertion numbers. -/
def cuesOf (id : Nat) (l : List Cue) : List Cue := (l.filter fun x => x.id == id).map Cue.unnumbered

/-- The cues of an id in the schedule, without their insertion numbers. -/
def State.occurrences (s : State) (id : Nat) : List Cue := cuesOf id s.cues

theorem Cue.eq_of_unnumbered {x c : Cue} (h : x.unnumbered = c.unnumbered) : x = { c with insertion := x.insertion } := by
  cases x
  cases c
  simp only [Cue.unnumbered, Cue.mk.injEq] at h ⊢
  simp [h]

theorem Cue.id_of_unnumbered {x c : Cue} (h : x.unnumbered = c.unnumbered) : x.id = c.id := (congrArg Cue.id h :)

theorem Cue.state_of_unnumbered {x c : Cue} (h : x.unnumbered = c.unnumbered) : x.state = c.state := (congrArg Cue.state h :)

theorem Cue.late_of_unnumbered {x c : Cue} (h : x.unnumbered = c.unnumbered) (now : Nat) : x.late now = c.late now :=
  (congrArg (Cue.late · now) h :)

theorem mem_cuesOf {id : Nat} {l : List Cue} {y : Cue} : y ∈ cuesOf id l ↔ ∃ x ∈ l, x.id = id ∧ x.unnumbered = y := by
  simp [cuesOf, and_assoc]

theorem cuesOf_cons (id : Nat) (x : Cue) (l : List Cue) :
    cuesOf id (x :: l) = if x.id = id then x.unnumbered :: cuesOf id l else cuesOf id l := by
  by_cases h : x.id = id <;> simp [cuesOf, h]

/-- Of a list with distinct ids, a cue is the only one of its id. -/
theorem cuesOf_nodup {l : List Cue} {c : Cue} (hn : (l.map Cue.id).Nodup) (hc : c ∈ l) :
    cuesOf c.id l = [c.unnumbered] := by
  have hfilter : l.filter (fun x => x.id == c.id) = [c] := by
    obtain ⟨pre, post, rfl⟩ := List.append_of_mem hc
    simp only [List.map_append, List.map_cons, List.nodup_append, List.nodup_cons, List.mem_map, List.mem_cons] at hn
    obtain ⟨-, ⟨hpost, -⟩, hpre⟩ := hn
    have h1 : pre.filter (fun x => x.id == c.id) = [] := by
      simp only [List.filter_eq_nil_iff, beq_iff_eq]
      exact fun x hx e => hpre _ ⟨x, hx, rfl⟩ c.id (.inl rfl) e
    have h2 : post.filter (fun x => x.id == c.id) = [] := by
      simp only [List.filter_eq_nil_iff, beq_iff_eq]
      exact fun x hx e => hpost ⟨x, hx, e⟩
    simp [h1, h2]
  rw [cuesOf, hfilter, List.map_singleton]

theorem cuesOf_renumber (id n : Nat) (l : List Cue) : cuesOf id (renumber n l) = cuesOf id l := by
  induction l generalizing n with
  | nil => rfl
  | cons x l ih => simp only [renumber, cuesOf_cons, ih]; rfl

theorem cuesOf_withoutCue_self (id : Nat) (l : List Cue) : cuesOf id (withoutCue id l) = [] := by
  simp [cuesOf, withoutCue, List.filter_filter, List.filter_eq_nil_iff]

theorem cuesOf_withoutCue_ne {id i : Nat} (h : i ≠ id) (l : List Cue) : cuesOf id (withoutCue i l) = cuesOf id l := by
  induction l with
  | nil => rfl
  | cons x l ih =>
    unfold withoutCue at ih ⊢
    rw [List.filter_cons, cuesOf_cons]
    by_cases hx : x.id = i
    · simp [hx, h, ih]
    · simp [hx, ih, cuesOf_cons]

theorem cuesOf_insertCue_self (c : Cue) {l : List Cue} (h : cuesOf c.id l = []) :
    cuesOf c.id (insertCue c l) = [c.unnumbered] := by
  induction l with
  | nil => simp [insertCue, cuesOf]
  | cons x l ih =>
    have hx : x.id ≠ c.id := fun e => by simp [cuesOf_cons, e] at h
    rw [cuesOf_cons, if_neg hx] at h
    unfold insertCue
    split
    · simp [cuesOf_cons, hx, h]
    · rw [cuesOf_cons, if_neg hx, ih h]

theorem cuesOf_insertCue_ne {c : Cue} {id : Nat} (h : c.id ≠ id) (l : List Cue) :
    cuesOf id (insertCue c l) = cuesOf id l := by
  induction l with
  | nil => simp [insertCue, cuesOf, h]
  | cons x l ih =>
    unfold insertCue
    split
    · rw [cuesOf_cons, if_neg h]
    · rw [cuesOf_cons, cuesOf_cons, ih]

/-- A change of the cues of another id, which keep that id. -/
theorem cuesOf_mapCue_ne {id i : Nat} {f : Cue → Cue} (h : i ≠ id) (hf : ∀ x, x.id = i → (f x).id = i) (l : List Cue) :
    cuesOf id (mapCue i f l) = cuesOf id l := by
  induction l with
  | nil => rfl
  | cons x l ih =>
    unfold mapCue at ih ⊢
    rw [List.map_cons, cuesOf_cons, cuesOf_cons, ih]
    by_cases hx : x.id = i
    · rw [if_pos hx, if_neg (by rw [hf x hx]; exact h), if_neg (by rw [hx]; exact h)]
    · rw [if_neg hx]

/-! ## What the operations of the schedule do to the cues of one id -/

@[simp] theorem notifyBoth_occurrences (n : Notice) (s : State) (id : Nat) :
    (notifyBoth n s).occurrences id = s.occurrences id := rfl

@[simp] theorem State.occurrences_falling (s : State) (l : List Nat) (id : Nat) :
    ({ s with falling := l } : State).occurrences id = s.occurrences id := rfl

theorem enterCue_falling (c : Cue) (s : State) : (enterCue c s).falling = s.falling := by
  unfold enterCue renumberFull
  split <;> rfl

@[simp] theorem Cue.waiting_id (c : Cue) (due : Nat) : (c.waiting due).id = c.id := rfl

theorem renumberFull_occurrences (s : State) (id : Nat) : (renumberFull s).occurrences id = s.occurrences id := by
  unfold renumberFull
  split
  · exact cuesOf_renumber id 0 s.cues
  · rfl

/-- A cue that is entered is then the only one of its id. -/
theorem enterCue_occurrences_self (c : Cue) (s : State) : (enterCue c s).occurrences c.id = [c.unnumbered] :=
  cuesOf_insertCue_self { c with insertion := (renumberFull s).insertion } (cuesOf_withoutCue_self c.id _)

theorem enterCue_occurrences_ne {c : Cue} {id : Nat} (h : c.id ≠ id) (s : State) :
    (enterCue c s).occurrences id = s.occurrences id :=
  calc (enterCue c s).occurrences id = cuesOf id (withoutCue c.id (renumberFull s).cues) :=
        cuesOf_insertCue_ne (c := { c with insertion := (renumberFull s).insertion }) h _
    _ = (renumberFull s).occurrences id := cuesOf_withoutCue_ne h _
    _ = s.occurrences id := renumberFull_occurrences s id

theorem removeCue_occurrences_self (id : Nat) (s : State) : (removeCue id s).occurrences id = [] :=
  cuesOf_withoutCue_self id s.cues

theorem removeCue_occurrences_ne {id i : Nat} (h : i ≠ id) (s : State) :
    (removeCue i s).occurrences id = s.occurrences id := cuesOf_withoutCue_ne h s.cues

theorem completeCue_once {c : Cue} (h : c.rpt = .once) (s : State) :
    completeCue c s = removeCue c.id (notifyBoth (.cueDone c none) s) := by
  unfold completeCue
  rw [h]

/-- A DAILY cue that completes is re-entered, and may fall due again at once (R103). -/
theorem completeCue_daily {c : Cue} (h : c.rpt = .daily) (s : State) :
    completeCue c s =
      { enterCue (c.waiting (nextOccurrence s.station c.due).1)
          (notifyBoth (.cueDone c (some (nextOccurrence s.station c.due).1)) s) with
        falling := s.falling ++ if (nextOccurrence s.station c.due).2 then [c.id] else [] } := by
  unfold completeCue
  rw [h]
  obtain ⟨due, again⟩ := nextOccurrence s.station c.due
  have hf : s.falling = (enterCue (c.waiting due) (notifyBoth (.cueDone c (some due)) s)).falling := by
    rw [enterCue_falling, notifyBoth_falling]
  cases again with
  | true => simp [hf]
  | false => simp [hf]

theorem expireCue_once {c : Cue} (h : c.rpt = .once) (late : Nat) (s : State) :
    expireCue c late s = removeCue c.id (notifyBoth (.cueDone (c.allOutcomes .expired) none) s) := by
  unfold expireCue
  rw [h]

theorem expireCue_daily {c : Cue} (h : c.rpt = .daily) (late : Nat) (s : State) :
    expireCue c late s = enterCue (c.waiting (advanceDue c.due late))
      (notifyBoth (.cueDone (c.allOutcomes .expired) (some (advanceDue c.due late))) s) := by
  unfold expireCue
  rw [h]

theorem completeCue_occurrences_ne {c : Cue} {id : Nat} (h : c.id ≠ id) (s : State) :
    (completeCue c s).occurrences id = s.occurrences id := by
  cases hr : c.rpt with
  | once => rw [completeCue_once hr, removeCue_occurrences_ne h, notifyBoth_occurrences]
  | daily =>
    rw [completeCue_daily hr, State.occurrences_falling, enterCue_occurrences_ne (by rwa [Cue.waiting_id]),
      notifyBoth_occurrences]

theorem expireCue_occurrences_ne {c : Cue} {id : Nat} (h : c.id ≠ id) (late : Nat) (s : State) :
    (expireCue c late s).occurrences id = s.occurrences id := by
  cases hr : c.rpt with
  | once => rw [expireCue_once hr, removeCue_occurrences_ne h, notifyBoth_occurrences]
  | daily => rw [expireCue_daily hr, enterCue_occurrences_ne (by rwa [Cue.waiting_id]), notifyBoth_occurrences]

/-- What an expiry leaves of a cue: nothing when ONCE, and the first of its days in the future when DAILY (R112). -/
def Cue.expiredTo (c : Cue) (late : Nat) : List Cue :=
  match c.rpt with
  | .once => []
  | .daily => [(c.waiting (advanceDue c.due late)).unnumbered]

theorem expireCue_occurrences_self (c : Cue) (late : Nat) (s : State) :
    (expireCue c late s).occurrences c.id = c.expiredTo late := by
  unfold Cue.expiredTo
  cases hr : c.rpt with
  | once => rw [expireCue_once hr, removeCue_occurrences_self]
  | daily => rw [expireCue_daily hr, ← enterCue_occurrences_self, Cue.waiting_id]

theorem expireCue_routes (c : Cue) (late : Nat) (s : State) : (expireCue c late s).routes = s.routes := by
  cases hr : c.rpt with
  | once => rw [expireCue_once hr]; rfl
  | daily => rw [expireCue_daily hr, enterCue_routes, notifyBoth_routes]

theorem expireCue_falling (c : Cue) (late : Nat) (s : State) : (expireCue c late s).falling = s.falling := by
  cases hr : c.rpt with
  | once => rw [expireCue_once hr]; rfl
  | daily => rw [expireCue_daily hr, enterCue_falling, notifyBoth_falling]

/-! ## Outcomes and the cues of one id -/

/-- The cue that an id names in the schedule is one of its cues. -/
theorem State.cue_some {s : State} {id : Nat} {c : Cue} (h : s.cue id = some c) : c ∈ s.cues ∧ c.id = id :=
  ⟨List.mem_of_find?_eq_some h, by simpa using List.find?_some h⟩

/-- With distinct ids, a cue of the schedule is the one that its id names. -/
theorem State.cue_of_mem {s : State} {c : Cue} (hn : (s.cues.map Cue.id).Nodup) (hc : c ∈ s.cues) :
    s.cue c.id = some c := by
  cases hx : s.cue c.id with
  | none => exact absurd (List.find?_eq_none.1 hx c hc) (by simp)
  | some x =>
    obtain ⟨hmem, hid⟩ := State.cue_some hx
    exact congrArg some (List.inj_on_of_nodup_map hn hmem hc hid)

/-- An outcome for an ACTIVE cue is recorded in it, and completes it when it is the last (R100, R102). -/
theorem recordOutcome_active {s : State} {b : Cue} (hb : s.cue b.id = some b) (ha : b.state = .active) (g : RegionId)
    (o : CueOutcome) :
    recordOutcome b.id g o s =
      if (b.record g o).allGiven then
        completeCue (b.record g o) { s with cues := mapCue b.id (fun _ => b.record g o) s.cues }
      else { s with cues := mapCue b.id (fun _ => b.record g o) s.cues } := by
  unfold recordOutcome
  rw [hb]
  simp only [ha]

/-- Outcomes reach ACTIVE cues alone: the cues of an id of which none is ACTIVE stand as they were. -/
theorem recordOutcome_occurrences {s : State} {id : Nat} (h : ∀ y ∈ s.occurrences id, y.state = .pending) (i : Nat)
    (g : RegionId) (o : CueOutcome) : (recordOutcome i g o s).occurrences id = s.occurrences id := by
  unfold recordOutcome
  split
  · rfl
  · next c hc =>
    split
    · rfl
    · next ha =>
      obtain ⟨hmem, hid⟩ := State.cue_some hc
      have hne : i ≠ id := by
        rintro rfl
        have hp := h c.unnumbered (mem_cuesOf.2 ⟨c, hmem, hid, rfl⟩)
        exact absurd (ha.symm.trans hp) (by decide)
      have hmap : cuesOf id (mapCue i (fun _ => c.record g o) s.cues) = s.occurrences id :=
        cuesOf_mapCue_ne (f := fun _ => c.record g o) hne (fun _ _ => hid) _
      dsimp only
      split
      · exact (completeCue_occurrences_ne (c := c.record g o) (fun e => hne (hid.symm.trans e)) _).trans hmap
      · exact hmap

theorem giveOutcome_occurrences {s : State} {id : Nat} (h : ∀ y ∈ s.occurrences id, y.state = .pending) (g : RegionId)
    (x : Option Given) : (giveOutcome g x s).occurrences id = s.occurrences id := by
  unfold giveOutcome
  split
  · exact recordOutcome_occurrences h _ _ _
  · rfl
  · rfl

theorem notifyRoute_cues (g : RegionId) (sl : SlotId) (old new : Route) (c : RouteCause) (x y : Option Given) (s : State) :
    (notifyRoute g sl old new c x y s).cues = s.cues := by
  unfold notifyRoute
  split <;> rfl

/-- A route event leaves the cues of an id of which none is ACTIVE. -/
theorem commitRoute_occurrences {s : State} {id : Nat} (h : ∀ y ∈ s.occurrences id, y.state = .pending) (g : RegionId)
    (sl : SlotId) (new : Route) (c : RouteCause) (x y : Option Given) :
    (commitRoute g sl new c x y s).occurrences id = s.occurrences id := by
  have h1 : (giveOutcome g y (s.setRoute g sl new)).occurrences id = s.occurrences id := giveOutcome_occurrences (s := s.setRoute g sl new) h g y
  have h2 : (notifyRoute g sl (s.route g sl) new c x y (giveOutcome g y (s.setRoute g sl new))).occurrences id =
      s.occurrences id := (congrArg (cuesOf id) (notifyRoute_cues _ _ _ _ _ _ _ _)).trans h1
  exact (giveOutcome_occurrences (by rwa [h2]) g x).trans h2

/-- A cue handed over leaves the cues of another id of which none is ACTIVE. -/
theorem handOver_occurrences {s : State} {c : Cue} {id : Nat} (hne : c.id ≠ id)
    (h : ∀ y ∈ s.occurrences id, y.state = .pending) : (handOver c s).occurrences id = s.occurrences id := by
  have hactive : cuesOf id (mapCue c.id (fun x => { x with state := .active }) s.cues) = s.occurrences id :=
    cuesOf_mapCue_ne (f := fun x => { x with state := .active }) hne (fun _ hx => hx) _
  have hfold : ∀ (l : List RegionId) (t : State), t.occurrences id = s.occurrences id →
      (l.foldl (fun t g => reach g c.slot c.ask t) t).occurrences id = s.occurrences id := by
    intro l
    induction l with
    | nil => exact fun _ ht => ht
    | cons g l ih => exact fun t ht => ih _ ((commitRoute_occurrences (by rwa [ht]) _ _ _ _ _ _).trans ht)
  exact hfold _ _ hactive

end Sys2Proof.Machine
end

section
/-!
PROOFS. A cue handed over to the routes of its mask, where none of them waits on another cue: each route meets the cue in
turn, and the cue gathers their outcomes (R98 to R103, R121, R122).
-/
namespace Sys2Proof.Machine

/-! ## One route meets a cue or take -/

/-- The tests of the model on a route are those of R121 and R122. -/
theorem reachRoute_meets (s : State) (r : Route) (a : Ask) :
    s.meets a.target a.policy a.waitMs a.waiter.cueId r (s.reachRoute r a).1 (s.reachRoute r a).2.1 := by
  have hawaits : r.awaits a.target = true ↔ (r.state.code = 3 ∨ r.state.code = 4) ∧ r.intended = a.target := by
    unfold Route.awaits
    cases r.state <;> simp [RouteState.code]
  unfold State.meets State.reachRoute
  by_cases hhold : r.hold = true
  · simp [hhold]
  by_cases hcur : r.current = a.target.source
  · simp [hhold, hcur]
  by_cases hw : r.awaits a.target = true
  · simp [hhold, hcur, hw, hawaits.1 hw]
  rw [if_neg hhold, if_neg hcur, if_neg (mt hawaits.2 hw), if_neg hhold, if_neg hcur, if_neg hw]
  unfold State.decideRoute
  by_cases hfit : s.fit a.target = true
  · rw [if_neg (by simp [hfit]), hfit]
    cases a.policy with
    | immediate => simp [Route.switchTo, Route.carry, hcur]
    | atMark => by_cases h0 : a.waitMs = 0 <;> simp [h0, Route.switchTo, Route.carry, hcur, msTicks, Config.ticksPerMs]
    | onConfirm => simp [msTicks, Config.ticksPerMs]
  · rw [Bool.not_eq_true] at hfit
    rw [if_pos hfit, hfit]
    cases ht : a.target with
    | national => simp [State.fit, ht] at hfit
    | variant v => simp [Route.fallBack, Route.carry]

/-- What a route does with a cue or take does not depend on the routes or the schedule. -/
theorem OnlySwitching.reachRoute {s t : State} (h : OnlySwitching s t) (r : Route) (a : Ask) :
    t.reachRoute r a = s.reachRoute r a := (congrArg (fun x : State => x.reachRoute r a) h.1 :)

theorem OnlySwitching.station {s t : State} (h : OnlySwitching s t) : t.station = s.station := (congrArg State.station h.1 :)

theorem OnlySwitching.offset {s t : State} (h : OnlySwitching s t) : t.offset = s.offset := (congrArg State.offset h.1 :)

/-- The cues that an event has still to deal with are part of what it may move. -/
theorem OnlySwitching.falling {s t : State} (h : OnlySwitching s t) (k l : List Nat) :
    OnlySwitching { s with falling := k } { t with falling := l } := by
  obtain ⟨hst, hmgmt, hcue⟩ := h
  exact ⟨congrArg (fun x : State => { x with falling := l }) hst, hmgmt, hcue⟩

/-- Two states hold the same schedule at the same station time. -/
structure SameSchedule (s t : State) : Prop where
  cues : t.cues = s.cues
  insertion : t.insertion = s.insertion
  changes : t.changes = s.changes
  falling : t.falling = s.falling
  station : t.station = s.station

theorem notifyRoute_sameSchedule (g : RegionId) (sl : SlotId) (old new : Route) (c : RouteCause) (x y : Option Given)
    (s : State) : SameSchedule s (notifyRoute g sl old new c x y s) := by
  unfold notifyRoute
  split <;> exact ⟨rfl, rfl, rfl, rfl, rfl⟩

/-- A route that waits on no cue has no cue to supersede. -/
theorem giveOutcome_superseded {r : Route} (h : ∀ id, r.waiter ≠ some (.cue id)) (g : RegionId) (ends : Bool) (s : State) :
    giveOutcome g (r.superseded ends) s = s := by
  unfold Route.superseded
  cases ends with
  | false => rfl
  | true =>
    cases hw : r.waiter with
    | none => rfl
    | some w =>
      cases w with
      | cue id => exact absurd hw (h id)
      | take => rfl

/-- A cue or take that reaches a route which waits on no cue moves in the schedule what its own outcome moves. -/
theorem reach_gives {s : State} {g : RegionId} {sl : SlotId} (a : Ask) (h : ∀ id, (s.route g sl).waiter ≠ some (.cue id)) :
    ∃ x, SameSchedule s x ∧ x.routes = (s.setRoute g sl (s.reachRoute (s.route g sl) a).1).routes ∧ OnlySwitching s x ∧
      reach g sl a s = giveOutcome g (givenTo (s.reachRoute (s.route g sl) a).2.1 a.waiter) x := by
  unfold reach commitRoute
  dsimp only
  rw [giveOutcome_superseded h]
  refine ⟨_, ?_, notifyRoute_routes _ _ _ _ _ _ _ _, (setRoute_only s g sl _).trans (notifyRoute_only _ _ _ _ _ _ _ _), rfl⟩
  obtain ⟨h1, h2, h3, h4, h5⟩ := notifyRoute_sameSchedule g sl (s.route g sl) (s.reachRoute (s.route g sl) a).1
    a.waiter.cause (givenTo (s.reachRoute (s.route g sl) a).2.1 a.waiter)
    ((s.route g sl).superseded (s.reachRoute (s.route g sl) a).2.2) (s.setRoute g sl (s.reachRoute (s.route g sl) a).1)
  exact ⟨h1, h2, h3, h4, h5⟩

/-! ## The cue while its outcomes come in -/

/-- The cue while it is handed over: ACTIVE, with the outcomes of the regions that it has reached. -/
def Cue.answered (c : Cue) (o : RegionId → CueOutcome) (done : List RegionId) : Cue :=
  { c with state := .active, outcomes := (regionsOf c.mask).map fun g => (g, if g ∈ done then o g else .none) }

variable {c : Cue} {o : RegionId → CueOutcome} {done : List RegionId} {g : RegionId}

@[simp] theorem Cue.answered_id : (c.answered o done).id = c.id := rfl

theorem Cue.answered_record (h : g ∉ done) :
    (c.answered o done).record g (o g) = c.answered o (done ++ [g]) := by
  simp only [Cue.record, Cue.answered, List.map_map, Cue.mk.injEq, true_and, and_true]
  refine List.map_congr_left fun k _ => ?_
  by_cases hk : k = g
  · subst hk
    simp [h]
  · simp [hk]

/-- A region whose route waits gives the cue no outcome. -/
theorem Cue.answered_none (h : o g = .none) : c.answered o (done ++ [g]) = c.answered o done := by
  simp only [Cue.answered, Cue.mk.injEq, true_and, and_true]
  refine List.map_congr_left fun k _ => ?_
  by_cases hk : k = g
  · subst hk
    simp [h]
  · simp [hk]

theorem Cue.answered_allGiven :
    (c.answered o done).allGiven = true ↔ ∀ g ∈ regionsOf c.mask, g ∈ done ∧ o g ≠ .none := by
  simp only [Cue.allGiven, Cue.answered, List.all_map, List.all_eq_true, Function.comp, decide_eq_true_eq]
  refine forall₂_congr fun k _ => ?_
  by_cases hk : k ∈ done <;> simp [hk]

theorem mapCue_mapCue (id : Nat) (b b' : Cue) (h : b.id = id) (l : List Cue) :
    mapCue id (fun _ => b') (mapCue id (fun _ => b) l) = mapCue id (fun _ => b') l := by
  simp only [mapCue, List.map_map]
  refine List.map_congr_left fun x _ => ?_
  by_cases hx : x.id = id <;> simp [hx, h]

theorem mapCue_ids (id : Nat) (b : Cue) (h : b.id = id) (l : List Cue) :
    (mapCue id (fun _ => b) l).map Cue.id = l.map Cue.id := by
  simp only [mapCue, List.map_map]
  refine List.map_congr_left fun x _ => ?_
  by_cases hx : x.id = id <;> simp [hx, h]

theorem withoutCue_mapCue (id : Nat) (b : Cue) (h : b.id = id) (l : List Cue) :
    withoutCue id (mapCue id (fun _ => b) l) = withoutCue id l := by
  unfold withoutCue mapCue
  induction l with
  | nil => rfl
  | cons x l ih => by_cases hx : x.id = id <;> simp [hx, h, ih]

theorem mem_mapCue {id : Nat} {b x : Cue} {l : List Cue} (h : x ∈ mapCue id (fun _ => b) l) :
    x = b ∨ x ∈ l ∧ x.id ≠ id := by
  obtain ⟨y, hy, rfl⟩ := List.mem_map.1 h
  by_cases hid : y.id = id <;> simp [hid, hy]

/-- The outcome of one region, in a schedule where the cue has got those of the regions before. -/
theorem giveOutcome_answered {s t : State} (hn : (s.cues.map Cue.id).Nodup) (hc : c ∈ s.cues)
    (ht : t.cues = mapCue c.id (fun _ => c.answered o done) s.cues) (hg : g ∈ regionsOf c.mask) (hd : g ∉ done) :
    giveOutcome g (givenTo (o g) (.cue c.id)) t =
      if (c.answered o (done ++ [g])).allGiven then
        completeCue (c.answered o (done ++ [g]))
          { t with cues := mapCue c.id (fun _ => c.answered o (done ++ [g])) s.cues }
      else { t with cues := mapCue c.id (fun _ => c.answered o (done ++ [g])) s.cues } := by
  by_cases ho : o g = .none
  · have hall : ¬ (c.answered o (done ++ [g])).allGiven = true := fun h =>
      (Cue.answered_allGiven.1 h g hg).2 ho
    rw [if_neg hall, Cue.answered_none ho, ← ht]
    simp [givenTo, ho, giveOutcome]
  · have hmem : c.answered o done ∈ t.cues := by
      rw [ht]
      exact List.mem_map.2 ⟨c, hc, if_pos rfl⟩
    have hcue : t.cue (c.answered o done).id = some (c.answered o done) :=
      State.cue_of_mem (by rwa [ht, mapCue_ids c.id (c.answered o done) rfl]) hmem
    have hrec := recordOutcome_active hcue rfl g (o g)
    rw [Cue.answered_id, Cue.answered_record hd, ht, mapCue_mapCue c.id (c.answered o done) _ rfl] at hrec
    simpa [givenTo, ho, giveOutcome] using hrec

/-! ## The fold over the regions of the mask -/

/-- The outcome that the route of a region gives to a cue. -/
def State.outcomeAt (s : State) (c : Cue) (g : RegionId) : CueOutcome := (s.reachRoute (s.route g c.slot) c.ask).2.1

/-- A cue has met the routes of some regions of its mask: those routes stand as the meeting leaves them, and the cue in the
schedule holds their outcomes. -/
structure Handing (c : Cue) (s : State) (done : List RegionId) (t : State) : Prop where
  only : OnlySwitching s t
  routes : ∀ g sl, t.route g sl =
    if g ∈ done ∧ sl = c.slot then (s.reachRoute (s.route g c.slot) c.ask).1 else s.route g sl
  cues : t.cues = mapCue c.id (fun _ => c.answered (s.outcomeAt c) done) s.cues
  insertion : t.insertion = s.insertion
  changes : t.changes = s.changes + 1
  falling : t.falling = s.falling

variable {s : State}

/-- A cue that becomes ACTIVE has met no route yet. -/
theorem handing_nil (h : ({ s with falling := [] } : State).standsReady c) :
    Handing c s [] (countChange { s with cues := mapCue c.id (fun x => { x with state := .active }) s.cues }) := by
  obtain ⟨hn, hc, -, -, hout, -⟩ := h
  refine ⟨⟨rfl, .refl _, .refl _⟩, fun _ _ => by simp [countChange, State.route], ?_, rfl, rfl, rfl⟩
  refine List.map_congr_left fun x hx => ?_
  by_cases hid : x.id = c.id
  · obtain rfl : x = c := List.inj_on_of_nodup_map hn hx hc hid
    simp [Cue.answered, hout]
  · simp [hid]

/-- The cue meets one more route. -/
theorem Handing.step {t : State} (h : Handing c s done t) (hs : ({ s with falling := [] } : State).readyToFall c)
    (hg : g ∈ regionsOf c.mask) (hd : g ∉ done) :
    ∃ x, Handing c s (done ++ [g]) x ∧
      reach g c.slot c.ask t =
        if (c.answered (s.outcomeAt c) (done ++ [g])).allGiven then
          completeCue (c.answered (s.outcomeAt c) (done ++ [g])) x
        else x := by
  obtain ⟨⟨hn, hc, -⟩, hwait⟩ := hs
  have hbit : c.mask.getLsbD g = true := (List.mem_filter.1 hg).2
  have hroute : t.route g c.slot = s.route g c.slot := by rw [h.routes, if_neg fun e => hd e.1]
  obtain ⟨x, hx, hxr, hxo, hreach⟩ := reach_gives (s := t) (g := g) (sl := c.slot) c.ask
    (by rw [hroute]; exact fun id => hwait g id hbit)
  rw [hroute, h.only.reachRoute] at hxr hreach
  refine ⟨{ x with cues := mapCue c.id (fun _ => c.answered (s.outcomeAt c) (done ++ [g])) s.cues },
    ⟨(h.only.trans hxo).trans ⟨rfl, .refl _, .refl _⟩, fun k sl => ?_, rfl, hx.insertion.trans h.insertion,
      hx.changes.trans h.changes, hx.falling.trans h.falling⟩,
    hreach.trans (giveOutcome_answered hn hc (hx.cues.trans h.cues) hg hd)⟩
  have hset : x.route k sl = (t.setRoute g c.slot (s.reachRoute (s.route g c.slot) c.ask).1).route k sl := by
    simp only [State.route, hxr]
  refine hset.trans ?_
  rw [State.setRoute_route, h.routes]
  by_cases hk : g = k
  · subst hk
    by_cases hsl : c.slot = sl
    · subst hsl
      simp
    · simp [hsl, Ne.symm hsl]
  · simp [hk, Ne.symm hk]

theorem regionsOf_nodup (mask : RegionMask) : (regionsOf mask).Nodup := (List.nodup_finRange 8).filter _

theorem mem_regionsOf {mask : RegionMask} : g ∈ regionsOf mask ↔ mask.getLsbD g = true := by simp [regionsOf]

theorem regionsOf_ne_nil {mask : RegionMask} (h : mask ≠ 0) : regionsOf mask ≠ [] := by
  intro hnil
  refine h (BitVec.eq_of_getLsbD_eq fun i hi => ?_)
  have hbit : (⟨i, hi⟩ : RegionId) ∉ regionsOf mask := by simp [hnil]
  simpa using mt mem_regionsOf.2 hbit

/-- The cue meets the routes of the first regions of its mask one after another. -/
theorem handing_first (hs : ({ s with falling := [] } : State).readyToFall c) (rest : List RegionId)
    (hp : done ++ rest = regionsOf c.mask) :
    ∃ x, Handing c s done x ∧
      done.foldl (fun t g => reach g c.slot c.ask t)
          (countChange { s with cues := mapCue c.id (fun x => { x with state := .active }) s.cues }) =
        if (c.answered (s.outcomeAt c) done).allGiven then completeCue (c.answered (s.outcomeAt c) done) x else x := by
  obtain ⟨-, -, -, hmask, -⟩ := hs.1
  induction done using List.reverseRecOn generalizing rest with
  | nil =>
    refine ⟨_, handing_nil hs.1, (if_neg fun hall => ?_).symm⟩
    obtain ⟨g, hg⟩ := List.exists_mem_of_ne_nil _ (regionsOf_ne_nil hmask)
    exact absurd (Cue.answered_allGiven.1 hall g hg).1 (by simp)
  | append_singleton done g ih =>
    have hp' : done ++ g :: rest = regionsOf c.mask := by rw [← hp, List.append_assoc, List.singleton_append]
    have hg : g ∈ regionsOf c.mask := hp' ▸ by simp
    have hd : g ∉ done := by
      have hnd := regionsOf_nodup c.mask
      rw [← hp', List.nodup_append] at hnd
      exact fun hmem => hnd.2.2 g hmem g (by simp) rfl
    obtain ⟨x, hx, hfold⟩ := ih (g :: rest) hp'
    rw [if_neg fun hall => hd (Cue.answered_allGiven.1 hall g hg).1] at hfold
    rw [List.foldl_append, hfold, List.foldl_cons, List.foldl_nil]
    exact hx.step hs hg hd

/-- What handing a cue over does, said once: it meets every route of its mask, and completes when each gave an outcome. -/
theorem handOver_handing (hs : ({ s with falling := [] } : State).readyToFall c) :
    ∃ x, Handing c s (regionsOf c.mask) x ∧
      handOver c s =
        if ∃ g ∈ regionsOf c.mask, s.outcomeAt c g = .none then x
        else completeCue (c.answered (s.outcomeAt c) (regionsOf c.mask)) x := by
  obtain ⟨x, hx, hfold⟩ := handing_first hs [] (List.append_nil _)
  refine ⟨x, hx, hfold.trans ?_⟩
  have hall := Cue.answered_allGiven (c := c) (o := s.outcomeAt c) (done := regionsOf c.mask)
  by_cases hnone : ∃ g ∈ regionsOf c.mask, s.outcomeAt c g = .none
  · obtain ⟨g, hg, ho⟩ := hnone
    rw [if_neg fun h => (hall.1 h g hg).2 ho, if_pos ⟨g, hg, ho⟩]
  · rw [if_pos (hall.2 fun g hg => ⟨hg, fun ho => hnone ⟨g, hg, ho⟩⟩), if_neg hnone]

/-! ## The cue once all its outcomes are given -/

/-- The next day's occurrence, where it lies in the future. -/
theorem nextOccurrence_nextDay (h : ∀ now, s.station = some now → 76441190400000000 ≤ c.nextLate now) :
    nextOccurrence s.station c.due = (c.nextDay, false) := by
  unfold nextOccurrence
  have hd : (c.due + Config.dayTicks) % Config.stationSpan = c.nextDay := rfl
  cases hst : s.station with
  | none => rfl
  | some now =>
    simp only [hd, lateness_nextDay, Config.halfSpan]
    rw [if_pos (h now hst)]

/-- A cue whose outcomes are all given waits for an occurrence as it did before it was handed over. -/
theorem Cue.answered_waiting (hp : c.state = .pending)
    (hout : c.outcomes = (regionsOf c.mask).map fun g => (g, CueOutcome.none)) (due : Nat) :
    (c.answered o done).waiting due = { c with due := due } := by
  simp [Cue.waiting, Cue.allOutcomes, Cue.answered, hp, hout]

theorem Handing.others {x : State} (h : Handing c s done x) : withoutCue c.id x.cues = withoutCue c.id s.cues := by
  rw [h.cues, withoutCue_mapCue c.id (c.answered (s.outcomeAt c) done) rfl]

theorem Handing.changes_add {x : State} (h : Handing c s done x) : x.changes + 1 = s.changes + 2 := by
  rw [h.changes, add_assoc]
  rfl

/-- The completion of a ONCE cue that has been handed over. -/
theorem Handing.complete_once {x : State} (h : Handing c s done x) (hr : c.rpt = .once) :
    (completeCue (c.answered o done) x).changes = s.changes + 2 ∧
      (completeCue (c.answered o done) x).cues = withoutCue c.id s.cues ∧
      (completeCue (c.answered o done) x).insertion = s.insertion := by
  rw [completeCue_once (c := c.answered o done) hr]
  exact ⟨h.changes_add, h.others, h.insertion⟩

/-- The completion of a DAILY cue that has been handed over, with its next day in the future. -/
theorem Handing.complete_daily {x : State} (h : Handing c s done x)
    (hs : ({ s with falling := [] } : State).standsReady c) (hr : c.rpt = .daily)
    (hnext : ∀ now, s.station = some now → 76441190400000000 ≤ c.nextLate now) :
    (completeCue (c.answered o done) x).changes = s.changes + 2 ∧
      (completeCue (c.answered o done) x).cues =
        insertCue { c with due := c.nextDay, insertion := s.insertion } (withoutCue c.id s.cues) ∧
      (completeCue (c.answered o done) x).insertion = s.insertion + 1 := by
  obtain ⟨-, -, hp, -, hout, hins, -⟩ := hs
  have hocc : nextOccurrence x.station (c.answered o done).due = (c.nextDay, false) :=
    nextOccurrence_nextDay (s := x) (c := c) (by rw [h.only.station]; exact hnext)
  rw [completeCue_daily (c := c.answered o done) hr, hocc, Cue.answered_waiting hp hout,
    enterCue_enters _ _ (by rw [notifyBoth_insertion, h.insertion]; exact hins), ← h.others, ← h.insertion]
  exact ⟨h.changes_add, rfl, rfl⟩

/-- A cue that stands ready, meets no route that waits on another cue, and whose next day lies in the future where it is
DAILY, is handed over as the rules say; what the event has still to deal with stays. -/
theorem handOver_handedOver (hs : ({ s with falling := [] } : State).readyToFall c)
    (hnext : c.rpt = .daily → ∀ now, s.station = some now → 76441190400000000 ≤ c.nextLate now) :
    HandedOver c { s with falling := [] } { handOver c s with falling := [] } := by
  obtain ⟨x, hx, hover⟩ := handOver_handing hs
  have hroutes : (handOver c s).routes = x.routes := by
    rw [hover]
    split
    · rfl
    · exact completeCue_routes _ _
  have hroute : ∀ g sl, (handOver c s).route g sl =
      if g ∈ regionsOf c.mask ∧ sl = c.slot then (s.reachRoute (s.route g c.slot) c.ask).1 else s.route g sl := by
    intro g sl
    rw [← hx.routes]
    simp only [State.route, hroutes]
  refine ⟨(handOver_only s c).falling [] [], rfl, fun g sl hne => ?_, s.outcomeAt c, fun g hg => ?_, ?_⟩
  · refine (hroute g sl).trans (if_neg ?_)
    rintro ⟨hg, rfl⟩
    rcases hne with h | h
    · exact h rfl
    · exact absurd (h.symm.trans (mem_regionsOf.1 hg)) (by decide)
  · have hmet : (handOver c s).route g c.slot = (s.reachRoute (s.route g c.slot) c.ask).1 :=
      (hroute g c.slot).trans (if_pos ⟨mem_regionsOf.2 hg, rfl⟩)
    exact Eq.subst (motive := fun r => s.meets c.target c.policy (c.waitMs.getD 0) (some c.id) (s.route g c.slot) r
      (s.outcomeAt c g)) hmet.symm (reachRoute_meets s (s.route g c.slot) c.ask)
  · by_cases hnone : ∃ g ∈ regionsOf c.mask, s.outcomeAt c g = .none
    · rw [if_pos hnone] at hover ⊢
      rw [hover]
      refine ⟨hx.cues.trans (List.map_congr_left fun y _ => ?_), hx.changes, hx.insertion⟩
      have hans : c.answered (s.outcomeAt c) (regionsOf c.mask) =
          { c with state := .active, outcomes := (regionsOf c.mask).map fun g => (g, s.outcomeAt c g) } := by
        simp only [Cue.answered, Cue.mk.injEq, true_and, and_true]
        exact List.map_congr_left fun g hg => by rw [if_pos hg]
      rw [hans]
    · rw [if_neg hnone] at hover ⊢
      rw [hover]
      split
      · next hr =>
        obtain ⟨hchanges, hcues, hins⟩ := hx.complete_once (o := s.outcomeAt c) hr
        exact ⟨hchanges, hcues, hins⟩
      · next hr =>
        obtain ⟨hchanges, hcues, hins⟩ := hx.complete_daily (o := s.outcomeAt c) hs.1 hr (hnext hr)
        refine ⟨hchanges, ?_, ?_, hins⟩
        · rw [hcues]
          exact mem_insertCue _ _
        · rw [hcues]
          exact (withoutCue_insertCue { c with due := c.nextDay, insertion := s.insertion } _).trans
            (withoutCue_idem c.id s.cues)

theorem mem_insertCue_iff {x : Cue} {l : List Cue} : x ∈ insertCue c l ↔ x = c ∨ x ∈ l := by
  induction l with
  | nil => simp [insertCue]
  | cons y l ih =>
    unfold insertCue
    split
    · simp
    · rw [List.mem_cons, ih, List.mem_cons]
      tauto

theorem mem_withoutCue {id : Nat} {x : Cue} {l : List Cue} : x ∈ withoutCue id l ↔ x ∈ l ∧ x.id ≠ id := by
  simp [withoutCue]

/-- The PENDING cues after the hand-over are the others, and the next occurrence of the cue itself. -/
theorem handOver_pending (hs : ({ s with falling := [] } : State).readyToFall c)
    (hnext : c.rpt = .daily → ∀ now, s.station = some now → 76441190400000000 ≤ c.nextLate now) {y : Cue}
    (hy : y ∈ (handOver c s).cues) (hp : y.state = .pending) :
    y ∈ s.cues ∧ y.id ≠ c.id ∨ y = { c with due := c.nextDay, insertion := s.insertion } := by
  obtain ⟨x, hx, hover⟩ := handOver_handing hs
  rw [hover] at hy
  split at hy
  · rw [hx.cues] at hy
    rcases mem_mapCue hy with rfl | h
    · exact absurd hp (by simp [Cue.answered])
    · exact .inl h
  · cases hr : c.rpt with
    | once =>
      rw [(hx.complete_once hr).2.1] at hy
      exact .inl (mem_withoutCue.1 hy)
    | daily =>
      rw [(hx.complete_daily hs.1 hr (hnext hr)).2.1] at hy
      rcases mem_insertCue_iff.1 hy with rfl | h
      · exact .inr (by rw [hr])
      · exact .inl (mem_withoutCue.1 h)

end Sys2Proof.Machine
end

section
/-!
PROOFS. The pass over the cues that an event has to deal with, and TIME_SET, which measures every PENDING cue in it
(R17, R18, R94, R98, R111 to R113).
-/
namespace Sys2Proof.Machine

variable {s t : State} {c : Cue} {now : Nat}

/-! ## Measuring one cue -/

/-- An ACTIVE cue and one in the future are left as they are. -/
theorem measureCue_future (hst : s.station = some now) (h : c.state = .pending → 76441190400000000 ≤ c.late now) :
    measureCue c s = s := by
  unfold measureCue
  rw [hst]
  cases hp : c.state with
  | pending =>
    dsimp only
    rw [lateness_due, Config.halfSpan, if_pos (h hp)]
  | active => rfl

/-- A PENDING cue late by more than 10 s expires. -/
theorem measureCue_late (hst : s.station = some now) (hp : c.state = .pending) (hlate : 270000000 < c.late now)
    (hpast : c.late now < 76441190400000000) : measureCue c s = expireCue c (c.late now) s := by
  unfold measureCue
  rw [hst, hp]
  dsimp only
  rw [lateness_due, if_neg (Nat.not_le.2 hpast), if_neg (Nat.not_le.2 hlate)]

/-- A PENDING cue late by 10 s or less is handed over. -/
theorem measureCue_due (hst : s.station = some now) (hp : c.state = .pending) (hlate : c.late now ≤ 270000000) :
    measureCue c s = handOver c s := by
  unfold measureCue
  rw [hst, hp]
  dsimp only
  rw [lateness_due, if_neg (by simp only [Config.halfSpan]; omega), if_pos hlate]

/-- A cue measured leaves the cues of another id of which none is ACTIVE. -/
theorem measureCue_occurrences {id : Nat} (hne : c.id ≠ id) (h : ∀ y ∈ s.occurrences id, y.state = .pending) :
    (measureCue c s).occurrences id = s.occurrences id := by
  unfold measureCue
  split
  · dsimp only
    split
    · rfl
    · split
      · exact handOver_occurrences hne h
      · exact expireCue_occurrences_ne hne _ s
  · rfl

/-- A cue that is due is PENDING and not late at all. -/
theorem isDue_iff (hst : s.station = some now) : s.isDue c = true ↔ c.state = .pending ∧ c.late now = 0 := by
  simp [State.isDue, hst, lateness_due]

/-! ## The pass -/

/-- The pass deals with one cue: it is taken from those still to be dealt with, and measured. -/
def dealWith (c : Cue) (t : State) : State := measureCue c { t with falling := t.falling.filter fun i => i != c.id }

/-- Dealing with an ACTIVE cue or one in the future changes only what is still to be dealt with. -/
theorem dealWith_future (hst : t.station = some now) (h : c.state = .pending → 76441190400000000 ≤ c.late now) :
    dealWith c t = { t with falling := t.falling.filter fun i => i != c.id } :=
  measureCue_future (s := { t with falling := t.falling.filter fun i => i != c.id }) hst h

theorem dealWith_late (hst : t.station = some now) (hp : c.state = .pending) (hlate : 270000000 < c.late now)
    (hpast : c.late now < 76441190400000000) :
    dealWith c t = expireCue c (c.late now) { t with falling := t.falling.filter fun i => i != c.id } :=
  measureCue_late (s := { t with falling := t.falling.filter fun i => i != c.id }) hst hp hlate hpast

theorem dealWith_occurrences {id : Nat} (hne : c.id ≠ id) (h : ∀ y ∈ t.occurrences id, y.state = .pending) :
    (dealWith c t).occurrences id = t.occurrences id :=
  measureCue_occurrences (s := { t with falling := t.falling.filter fun i => i != c.id }) hne h

theorem settleCues_none (h : t.nextToFall = none) (n : Nat) : settleCues n t = { t with falling := [] } := by
  cases n with
  | zero => rfl
  | succ n => rw [settleCues, h]

theorem settleCues_some (h : t.nextToFall = some c) (n : Nat) : settleCues (n + 1) t = settleCues n (dealWith c t) := by
  rw [settleCues, h]
  rfl

theorem nextToFall_mem (h : t.nextToFall = some c) : c ∈ t.cues ∧ (c.id ∈ t.falling ∨ t.isDue c = true) := by
  obtain ⟨-, hwhy, pre, post, hcues, -⟩ := nextToFall_some t c h
  exact ⟨hcues ▸ by simp, hwhy⟩

/-- While a cue of the schedule is to be dealt with, some cue is dealt with next. -/
theorem nextToFall_ne_none {x : Cue} (hx : x ∈ t.cues) (hf : x.id ∈ t.falling) : t.nextToFall ≠ none := by
  unfold State.nextToFall
  rw [if_pos (List.any_eq_true.2 ⟨x, hx, by simpa using hf⟩)]
  intro h
  exact absurd (List.find?_eq_none.1 h x hx) (by simp [hf])

/-- Dealing with a cue that was to be dealt with leaves fewer. -/
theorem falling_filter_lt (h : c.id ∈ t.falling) : (t.falling.filter fun i => i != c.id).length < t.falling.length :=
  List.length_filter_lt_length_iff_exists.2 ⟨c.id, h, by simp⟩

theorem settle_falling : (settle t).falling = [] := by
  unfold settle
  generalize 2 * t.cues.length + 1 = n
  induction n generalizing t with
  | zero => rfl
  | succ n ih =>
    cases h : t.nextToFall with
    | none => rw [settleCues_none h]
    | some c => rw [settleCues_some h, ih]

/-- What each cue dealt with keeps, the pass keeps. -/
theorem settleCues_keeps {P : State → Prop} (hend : ∀ t, P t → P { t with falling := [] })
    (hstep : ∀ t c, P t → t.nextToFall = some c → P (dealWith c t)) (n : Nat) (h : P t) : P (settleCues n t) := by
  induction n generalizing t with
  | zero => exact hend t h
  | succ n ih =>
    cases hn : t.nextToFall with
    | none => exact settleCues_none hn _ ▸ hend t h
    | some c => exact settleCues_some hn n ▸ ih (hstep t c h hn)

/-- Where each cue dealt with leaves fewer to deal with, the pass ends with none left in the schedule. -/
theorem settleCues_ends {P : State → Prop}
    (hstep : ∀ t c, P t → t.nextToFall = some c → P (dealWith c t) ∧ (dealWith c t).falling.length < t.falling.length)
    {n : Nat} (h : P t) (hlen : t.falling.length ≤ n) :
    ∃ x, P x ∧ x.nextToFall = none ∧ settleCues n t = { x with falling := [] } := by
  induction n generalizing t with
  | zero =>
    have hnone : t.nextToFall = none := by simp [State.nextToFall, List.length_eq_zero_iff.1 (Nat.le_zero.1 hlen)]
    exact ⟨t, h, hnone, settleCues_none hnone 0⟩
  | succ n ih =>
    cases hn : t.nextToFall with
    | none => exact ⟨t, h, hn, settleCues_none hn _⟩
    | some c =>
      obtain ⟨hP, hlt⟩ := hstep t c h hn
      rw [settleCues_some hn]
      exact ih hP (by omega)

/-! ## Cues in the future -/

/-- Where every PENDING cue lies in the future, the pass moves nothing. -/
theorem settleCues_quiet (hst : t.station = some now)
    (hq : ∀ x ∈ t.cues, x.state = .pending → 76441190400000000 ≤ x.late now) (n : Nat) :
    settleCues n t = { t with falling := [] } := by
  induction n generalizing t with
  | zero => rfl
  | succ n ih =>
    cases hn : t.nextToFall with
    | none => exact settleCues_none hn _
    | some c =>
      rw [settleCues_some hn, dealWith_future hst (hq c (nextToFall_mem hn).1)]
      exact ih (t := { t with falling := t.falling.filter fun i => i != c.id }) hst hq

/-- A PENDING cue in the future stands in the schedule throughout the pass, whatever the others do. -/
theorem settle_keeps_future (hst : t.station = some now) (hn : (t.cues.map Cue.id).Nodup) (hc : c ∈ t.cues)
    (hp : c.state = .pending) (hfuture : 76441190400000000 ≤ c.late now) :
    ∃ k, { c with insertion := k } ∈ (settle t).cues := by
  have hkeeps : (settle t).station = some now ∧ (settle t).occurrences c.id = [c.unnumbered] := by
    refine settleCues_keeps (P := fun x => x.station = some now ∧ x.occurrences c.id = [c.unnumbered]) (fun _ h => h)
      (fun x y ⟨hxst, hx⟩ hnext => ?_) _ ⟨hst, cuesOf_nodup hn hc⟩
    refine ⟨(measureCue_only _ y).station.trans hxst, ?_⟩
    by_cases hid : y.id = c.id
    · have hy : y.unnumbered ∈ x.occurrences c.id := mem_cuesOf.2 ⟨y, (nextToFall_mem hnext).1, hid, rfl⟩
      rw [hx, List.mem_singleton] at hy
      rw [dealWith_future hxst fun _ => by rwa [Cue.late_of_unnumbered hy]]
      exact hx
    · have hpend : ∀ z ∈ x.occurrences c.id, z.state = .pending := by
        rw [hx]
        intro z hz
        rw [List.mem_singleton.1 hz]
        exact hp
      exact (dealWith_occurrences hid hpend).trans hx
  obtain ⟨x, hx, -, heq⟩ := mem_cuesOf.1 (hkeeps.2 ▸ List.mem_singleton_self c.unnumbered)
  exact ⟨x.insertion, Cue.eq_of_unnumbered heq ▸ hx⟩

/-! ## Cues late by more than 10 s -/

/-- What the pass leaves of a cue that is not late by 10 s or less: what an expiry leaves of one that is later, and every
other cue as it was (R111, R112). -/
def Cue.passed (c : Cue) (now : Nat) : List Cue :=
  if c.state = .pending ∧ c.late now < 76441190400000000 then c.expiredTo (c.late now) else [c.unnumbered]

theorem Cue.passed_of_unnumbered {x : Cue} (h : x.unnumbered = c.unnumbered) (now : Nat) : x.passed now = c.passed now :=
  (congrArg (Cue.passed · now) h :)

/-- A cue that an expiry leaves lies in the future. -/
theorem Cue.expiredTo_future {x : Cue} (h : x.unnumbered ∈ c.expiredTo (c.late now)) :
    76441190400000000 ≤ x.late now := by
  unfold Cue.expiredTo at h
  split at h
  · exact absurd h (by simp)
  · rw [Cue.late_of_unnumbered (List.mem_singleton.1 h), ← lateness_due, ← lateness_due]
    exact advanceDue_future

/-- A PENDING cue that the pass leaves lies in the future. -/
theorem Cue.passed_future {x : Cue} (h : x.unnumbered ∈ c.passed now) (hp : x.state = .pending) :
    76441190400000000 ≤ x.late now := by
  unfold Cue.passed at h
  split at h
  · exact Cue.expiredTo_future h
  · next hnot =>
    have hx := List.mem_singleton.1 h
    rw [Cue.late_of_unnumbered hx]
    exact Nat.not_lt.1 fun hlt => hnot ⟨(Cue.state_of_unnumbered hx).symm.trans hp, hlt⟩

/-- A cue that is not late by 10 s or less is dealt with as the pass leaves it, and no other cue or route moves. -/
theorem dealWith_passed (hst : t.station = some now) (hx : t.occurrences c.id = [c.unnumbered]) (hp : c.state = .pending)
    (hlate : 270000000 < c.late now) :
    (dealWith c t).occurrences c.id = c.passed now ∧
      (∀ i, c.id ≠ i → (dealWith c t).occurrences i = t.occurrences i) ∧
      (dealWith c t).falling = t.falling.filter (fun i => i != c.id) ∧ (dealWith c t).routes = t.routes := by
  unfold Cue.passed
  by_cases hpast : c.late now < 76441190400000000
  · rw [if_pos ⟨hp, hpast⟩, dealWith_late hst hp hlate hpast]
    exact ⟨expireCue_occurrences_self _ _ _, fun i hi => expireCue_occurrences_ne hi _ _, expireCue_falling _ _ _,
      expireCue_routes _ _ _⟩
  · rw [if_neg fun h => hpast h.2, dealWith_future hst fun _ => Nat.not_lt.1 hpast]
    exact ⟨hx, fun _ _ => rfl, rfl, rfl⟩

/-- The pass has dealt with some cues of a schedule, none of which is late by 10 s or less: those stand as the pass leaves
them, the others as they were, and no route has moved. -/
structure Passing (now : Nat) (s t : State) : Prop where
  station : t.station = some now
  routes : t.routes = s.routes
  ids : ∀ x ∈ t.cues, ∃ c ∈ s.cues, c.id = x.id
  pending : ∀ i ∈ t.falling, ∃ c ∈ s.cues, c.id = i ∧ c.state = .pending
  cues : ∀ c ∈ s.cues, t.occurrences c.id = if c.id ∈ t.falling then [c.unnumbered] else c.passed now

/-- The cue dealt with next is one of the schedule's that has not been dealt with. -/
theorem Passing.next (h : Passing now s t) (hn : (s.cues.map Cue.id).Nodup) {x : Cue} (hx : t.nextToFall = some x) :
    ∃ c ∈ s.cues, c.state = .pending ∧ x.unnumbered = c.unnumbered ∧ c.id ∈ t.falling := by
  obtain ⟨hmem, hwhy⟩ := nextToFall_mem hx
  obtain ⟨c, hc, hid⟩ := h.ids x hmem
  have hocc : x.unnumbered ∈ t.occurrences c.id := mem_cuesOf.2 ⟨x, hmem, hid.symm, rfl⟩
  rw [h.cues c hc] at hocc
  by_cases hf : c.id ∈ t.falling
  · obtain ⟨c', hc', hid', hp⟩ := h.pending c.id hf
    obtain rfl : c' = c := List.inj_on_of_nodup_map hn hc' hc hid'
    rw [if_pos hf, List.mem_singleton] at hocc
    exact ⟨c', hc, hp, hocc, hf⟩
  · rw [if_neg hf] at hocc
    rcases hwhy with hfall | hdue
    · exact absurd (hid ▸ hfall) hf
    · obtain ⟨hp, h0⟩ := (isDue_iff h.station).1 hdue
      have hfuture : 76441190400000000 ≤ x.late now := Cue.passed_future hocc hp
      omega

theorem Passing.step (h : Passing now s t) (hn : (s.cues.map Cue.id).Nodup)
    (hlate : ∀ c ∈ s.cues, c.state = .pending → 270000000 < c.late now) {x : Cue} (hx : t.nextToFall = some x) :
    Passing now s (dealWith x t) ∧ (dealWith x t).falling.length < t.falling.length := by
  obtain ⟨c, hc, hp, hxc, hf⟩ := h.next hn hx
  have hid : x.id = c.id := Cue.id_of_unnumbered hxc
  have hocc : t.occurrences x.id = [x.unnumbered] := by rw [hid, hxc, h.cues c hc, if_pos hf]
  obtain ⟨hself, hother, hfall, hroutes⟩ := dealWith_passed h.station hocc ((Cue.state_of_unnumbered hxc).trans hp)
    (by rw [Cue.late_of_unnumbered hxc]; exact hlate c hc hp)
  refine ⟨⟨(measureCue_only _ x).station.trans h.station, hroutes.trans h.routes, fun y hy => ?_, fun i hi => ?_,
    fun d hd => ?_⟩, hfall ▸ falling_filter_lt (hid ▸ hf)⟩
  · by_cases hxy : x.id = y.id
    · exact ⟨c, hc, hid.symm.trans hxy⟩
    · have hy' : y.unnumbered ∈ t.occurrences y.id := hother y.id hxy ▸ mem_cuesOf.2 ⟨y, hy, rfl, rfl⟩
      obtain ⟨z, hz, hzid, -⟩ := mem_cuesOf.1 hy'
      obtain ⟨d, hd, hdid⟩ := h.ids z hz
      exact ⟨d, hd, hdid.trans hzid⟩
  · rw [hfall] at hi
    exact h.pending i (List.mem_filter.1 hi).1
  · rw [hfall]
    by_cases hxd : x.id = d.id
    · obtain rfl : d = c := List.inj_on_of_nodup_map hn hd hc (hxd.symm.trans hid)
      rw [← hxd, hself, Cue.passed_of_unnumbered hxc, if_neg (by simp)]
    · rw [hother d.id hxd, h.cues d hd]
      have hiff : d.id ∈ t.falling.filter (fun i => i != x.id) ↔ d.id ∈ t.falling := by simp [Ne.symm hxd]
      simp only [hiff]

theorem mem_pendingCues {i : Nat} : i ∈ pendingCues s ↔ ∃ c ∈ s.cues, c.id = i ∧ c.state = .pending := by
  simp only [pendingCues, List.mem_map, List.mem_filter, decide_eq_true_eq]
  exact ⟨fun ⟨c, ⟨hc, hp⟩, hid⟩ => ⟨c, hc, hid, hp⟩, fun ⟨c, hc, hid, hp⟩ => ⟨c, ⟨hc, hp⟩, hid⟩⟩

theorem pendingCues_length : (pendingCues s).length ≤ 2 * s.cues.length + 1 := by
  have : (s.cues.filter fun c => decide (c.state = .pending)).length ≤ s.cues.length := List.length_filter_le _ _
  rw [pendingCues, List.length_map]
  omega

/-- Where no PENDING cue is late by 10 s or less, the pass leaves every cue as `Cue.passed` says, and every route. -/
theorem settle_passed (hst : t.station = some now) (hn : (t.cues.map Cue.id).Nodup) (hf : t.falling = pendingCues t)
    (hlate : ∀ c ∈ t.cues, c.state = .pending → 270000000 < c.late now) :
    (settle t).routes = t.routes ∧ ∀ c ∈ t.cues, (settle t).occurrences c.id = c.passed now := by
  have hstart : Passing now t t := by
    refine ⟨hst, rfl, fun x hx => ⟨x, hx, rfl⟩, fun i hi => mem_pendingCues.1 (hf ▸ hi), fun c hc => ?_⟩
    rw [State.occurrences, cuesOf_nodup hn hc]
    split
    · rfl
    · next hnot =>
      have hp : c.state ≠ .pending := fun hp => hnot (hf ▸ mem_pendingCues.2 ⟨c, hc, rfl, hp⟩)
      rw [Cue.passed, if_neg fun h => hp h.1]
  obtain ⟨x, hx, hnone, hend⟩ := settleCues_ends (P := Passing now t) (fun _ _ h hnext => h.step hn hlate hnext)
    (n := 2 * t.cues.length + 1) hstart (hf ▸ pendingCues_length)
  rw [settle, hend]
  refine ⟨hx.routes, fun c hc => ?_⟩
  have hdone : c.id ∉ x.falling := by
    intro hmem
    have hocc := hx.cues c hc
    rw [if_pos hmem] at hocc
    obtain ⟨y, hy, hid, -⟩ := mem_cuesOf.1 (hocc ▸ List.mem_singleton_self c.unnumbered)
    exact nextToFall_ne_none hy (hid ▸ hmem) hnone
  exact (hx.cues c hc).trans (if_neg hdone)

/-! ## One cue alone that does not lie in the future -/

/-- Where one PENDING cue alone does not lie in the future, the pass moves nothing before it measures that cue. -/
theorem settleCues_reaches (hst : t.station = some now) (hn : (t.cues.map Cue.id).Nodup) (hc : c ∈ t.cues)
    (hothers : ∀ x ∈ t.cues, x ≠ c → x.state = .pending → 76441190400000000 ≤ x.late now) {n : Nat} {l : List Nat}
    (hmem : c.id ∈ l) (hlen : l.length ≤ n) :
    ∃ m k, settleCues n { t with falling := l } = settleCues m (measureCue c { t with falling := k }) := by
  induction n generalizing l with
  | zero =>
    rw [List.length_eq_zero_iff.1 (Nat.le_zero.1 hlen)] at hmem
    exact absurd hmem (by simp)
  | succ n ih =>
    cases hnext : ({ t with falling := l } : State).nextToFall with
    | none => exact absurd hnext (nextToFall_ne_none (t := { t with falling := l }) hc hmem)
    | some x =>
      rw [settleCues_some hnext]
      obtain ⟨hx, hwhy⟩ := nextToFall_mem hnext
      by_cases hxc : x = c
      · subst hxc
        exact ⟨n, _, rfl⟩
      · have hfuture := hothers x hx hxc
        have hfall : x.id ∈ l := hwhy.resolve_right fun hdue => by
          obtain ⟨hp, h0⟩ := (isDue_iff (s := { t with falling := l }) hst).1 hdue
          have := hfuture hp
          omega
        have hne : c.id ≠ x.id := fun e => hxc (List.inj_on_of_nodup_map hn hx hc e.symm)
        rw [dealWith_future (t := { t with falling := l }) hst hfuture]
        have hlt := falling_filter_lt (t := { t with falling := l }) hfall
        dsimp only at hlt
        exact ih (l := l.filter fun i => i != x.id) (List.mem_filter.2 ⟨hmem, by simpa using hne⟩) (by omega)

/-- Expiring a cue does not depend on what is still to be dealt with. -/
theorem expireCue_setFalling (c : Cue) (late : Nat) (s : State) (k l : List Nat) :
    { expireCue c late { s with falling := k } with falling := l } = expireCue c late { s with falling := l } := by
  have henter : ∀ (b : Cue) (u : State),
      { enterCue b { u with falling := k } with falling := l } = enterCue b { u with falling := l } := by
    intro b u
    by_cases hfull : u.insertion = Config.insertionMax <;> simp [enterCue, renumberFull, countChange, hfull]
  cases hr : c.rpt with
  | once =>
    rw [expireCue_once hr, expireCue_once hr]
    rfl
  | daily =>
    rw [expireCue_daily hr, expireCue_daily hr]
    exact henter _ (notifyBoth _ s)

/-- A cue takes its place before the first cue that it precedes (R93). -/
theorem insertCue_split (c : Cue) (l : List Cue) :
    ∃ pre post, l = pre ++ post ∧ insertCue c l = pre ++ c :: post ∧ (∀ y ∈ pre, c.before y = false) ∧
      ∀ y ∈ post.head?, c.before y = true := by
  induction l with
  | nil => exact ⟨[], [], rfl, rfl, by simp, by simp⟩
  | cons x l ih =>
    unfold insertCue
    by_cases hx : c.before x = true
    · exact ⟨[], x :: l, rfl, if_pos hx, by simp, by simpa using hx⟩
    · obtain ⟨pre, post, rfl, hins, hpre, hpost⟩ := ih
      exact ⟨x :: pre, post, rfl, by rw [if_neg hx, hins, List.cons_append], by simpa [hx] using hpre, hpost⟩

theorem Cue.before_iff (a b : Cue) :
    a.before b = true ↔ a.due < b.due ∨ (a.due = b.due ∧ a.insertion < b.insertion) := by simp [Cue.before]

/-- Entering a cue with the counter below its maximum is what the rules call so (R93, R97). -/
theorem enterCue_entered (c : Cue) {u : State} (hins : s.insertion < 4294967295)
    (hu : u = { s with cues := withoutCue c.id s.cues }) : Entered { c with insertion := s.insertion } u (enterCue c s) := by
  subst hu
  rw [enterCue_enters s c hins]
  obtain ⟨pre, post, hl, hcues, hpre, hpost⟩ := insertCue_split { c with insertion := s.insertion } (withoutCue c.id s.cues)
  refine ⟨rfl, pre, post, hl, hcues, fun y hy hb => ?_, fun y hy => (Cue.before_iff _ y).1 (hpost y hy)⟩
  exact absurd (hpre y hy) (by rw [(Cue.before_iff _ y).2 hb]; decide)

/-- So is re-entering a cue for another occurrence, with a notice of it sent. -/
theorem enterCue_reentered (c : Cue) (due : Nat) (hins : s.insertion < 4294967295) (n : Notice) :
    Entered (c.reentered due s.insertion) (notifyBoth n { s with cues := withoutCue c.id s.cues })
      (enterCue (c.waiting due) (notifyBoth n s)) :=
  enterCue_entered (s := notifyBoth n s) (c.waiting due) hins rfl

/-- Expiring a cue with the counter below its maximum is what the rules call so (R112). -/
theorem expireCue_expired (c : Cue) (late : Nat) (hins : s.insertion < 4294967295) :
    Expired c late s (expireCue c late s) := by
  rintro gone done rfl rfl
  split
  · next hr =>
    rw [expireCue_once hr]
    rfl
  · next hr =>
    rw [expireCue_daily hr]
    exact ⟨advanceDue c.due late, advanceDue_advancedTo c late, enterCue_reentered _ _ hins _⟩

/-- One cue alone, late by more than 10 s, is expired, and nothing else moves. -/
theorem settle_expires (hst : t.station = some now) (hn : (t.cues.map Cue.id).Nodup) (hf : t.falling = pendingCues t)
    (hc : c ∈ t.cues) (hp : c.state = .pending)
    (hothers : ∀ x ∈ t.cues, x ≠ c → x.state = .pending → 76441190400000000 ≤ x.late now)
    (hlate : 270000000 < c.late now) (hpast : c.late now < 76441190400000000) :
    settle t = expireCue c (c.late now) { t with falling := [] } := by
  obtain ⟨m, k, hreach⟩ := settleCues_reaches hst hn hc hothers (n := 2 * t.cues.length + 1) (l := t.falling)
    (hf ▸ mem_pendingCues.2 ⟨c, hc, rfl, hp⟩) (hf ▸ pendingCues_length)
  rw [settle]
  refine hreach.trans ?_
  rw [measureCue_late (s := { t with falling := k }) hst hp hlate hpast, settleCues_quiet (now := now) ?station ?quiet,
    expireCue_setFalling]
  case station => exact (expireCue_only _ _ _).station.trans hst
  case quiet =>
    intro y hy hyp
    have hocc : y.unnumbered ∈ (expireCue c (c.late now) { t with falling := k }).occurrences y.id :=
      mem_cuesOf.2 ⟨y, hy, rfl, rfl⟩
    by_cases hid : c.id = y.id
    · rw [← hid, expireCue_occurrences_self] at hocc
      exact Cue.expiredTo_future hocc
    · rw [expireCue_occurrences_ne hid] at hocc
      obtain ⟨z, hz, hzid, hzy⟩ := mem_cuesOf.1 hocc
      rw [← Cue.late_of_unnumbered hzy]
      exact hothers z hz (fun e => hid (e ▸ hzid)) ((Cue.state_of_unnumbered hzy).trans hyp)

/-- One cue alone, late by 10 s or less, is handed over, and then nothing else moves. -/
theorem settle_handsOver (hst : t.station = some now) (hn : (t.cues.map Cue.id).Nodup) (hf : t.falling = pendingCues t)
    (hc : c ∈ t.cues) (hp : c.state = .pending)
    (hothers : ∀ x ∈ t.cues, x ≠ c → x.state = .pending → 76441190400000000 ≤ x.late now)
    (hlate : c.late now ≤ 270000000) (hready : ({ t with falling := [] } : State).readyToFall c) :
    HandedOver c { t with falling := [] } (settle t) := by
  have hnext : ∀ m, t.station = some m → 76441190400000000 ≤ c.nextLate m := by
    intro m hm
    obtain rfl : now = m := Option.some.inj (hst.symm.trans hm)
    exact nextLate_future hlate
  obtain ⟨m, k, hreach⟩ := settleCues_reaches hst hn hc hothers (n := 2 * t.cues.length + 1) (l := t.falling)
    (hf ▸ mem_pendingCues.2 ⟨c, hc, rfl, hp⟩) (hf ▸ pendingCues_length)
  have hsettle : settle t = { handOver c { t with falling := k } with falling := [] } := by
    rw [settle]
    refine hreach.trans ?_
    rw [measureCue_due (s := { t with falling := k }) hst hp hlate, settleCues_quiet (now := now) ?station ?quiet]
    case station => exact (handOver_only _ _).station.trans hst
    case quiet =>
      intro y hy hyp
      rcases handOver_pending (s := { t with falling := k }) hready (fun _ => hnext) hy hyp with ⟨hmem, hid⟩ | rfl
      · exact hothers y hmem (fun e => hid (congrArg Cue.id e)) hyp
      · rw [← lateness_due]
        exact (lateness_nextDay c now).symm ▸ nextLate_future hlate
  rw [hsettle]
  exact handOver_handedOver (s := { t with falling := k }) hready fun _ => hnext

/-! ## TIME_SET (R17, R18) -/

/-- The state in which the pass of a TIME_SET begins. -/
def timeSetStart (n : Nat) (s : State) : State :=
  { s with offset := some (offsetFor s.clock n), falling := pendingCues s }

/-- The pass measures the cues against the station time given. -/
theorem timeSetStart_station {n : Nat} (hn : n < 152882380800000000) : (timeSetStart n s).station = some n := by
  have hclock : s.clock.toNat < 2 ^ 48 := s.clock.isLt
  simp only [State.station, timeSetStart, offsetFor, Option.map_some, Option.some.injEq, Config.stationSpan]
  omega

/-- A taken TIME_SET sets station time and runs the pass. -/
theorem timeSet_answers {n : Nat} (hc : canTake .management s) (hn : n < 152882380800000000) :
    Answers .management 0x06 (eStation n) s (eStation n ++ eOpt eStation s.station) (settle (timeSetStart n s)) := by
  have hread : rStation (eStation n) = some (n, []) := by
    rw [← List.append_nil (eStation n)]
    exact rStation_eStation n [] hn
  exact answers_of_serve (fun _ => rfl) hc (.inl rfl) (readAll_some _ _ n hread) rfl

/-- A day tick beyond the last of the day does not read. -/
theorem rStation_none {day tick : Nat} (hd : day < 65536) (ht : 2332800000000 ≤ tick) (ht' : tick < 281474976710656) :
    rStation (e2 day ++ e6 tick) = none := by
  have h6 : rNat 6 (e6 tick) = some (tick, []) := by
    rw [← List.append_nil (e6 tick)]
    exact rNat_e6 tick [] ht'
  unfold rStation
  rw [rNat_e2 day (e6 tick) hd]
  dsimp only
  rw [h6]
  exact if_neg (Nat.not_lt.2 ht)

theorem Cue.waiting_reentered (c : Cue) (due k : Nat) : { c.waiting due with insertion := k } = c.reentered due k := rfl

/-- What the pass leaves of each cue, as R112 puts it. -/
theorem passed_meets {n : Nat} (hpass : t.occurrences c.id = c.passed n) :
    (c.state = .active ∨ 76441190400000000 ≤ c.late n → ∃ k, { c with insertion := k } ∈ t.cues) ∧
      (c.state = .pending → c.late n < 76441190400000000 →
        (c.rpt = .once → ∀ x ∈ t.cues, x.id ≠ c.id) ∧
        (c.rpt = .daily → ∃ due k, c.advancedTo (c.late n) due ∧ c.reentered due k ∈ t.cues)) := by
  have hstands : ∀ y : Cue, y.unnumbered ∈ t.occurrences c.id → ∃ k, { y with insertion := k } ∈ t.cues := by
    intro y hy
    obtain ⟨x, hx, -, heq⟩ := mem_cuesOf.1 hy
    exact ⟨x.insertion, Cue.eq_of_unnumbered heq ▸ hx⟩
  refine ⟨fun hkeep => hstands c ?_, fun hp hpast => ?_⟩
  · have hnot : ¬ (c.state = .pending ∧ c.late n < 76441190400000000) := by
      rintro ⟨hp, hlt⟩
      rcases hkeep with ha | hfuture
      · exact absurd (ha.symm.trans hp) (by decide)
      · omega
    rw [hpass, Cue.passed, if_neg hnot]
    exact List.mem_singleton_self _
  · rw [Cue.passed, if_pos ⟨hp, hpast⟩, Cue.expiredTo] at hpass
    refine ⟨fun hr x hx hid => ?_, fun hr => ?_⟩
    · rw [hr] at hpass
      have hmem : x.unnumbered ∈ t.occurrences c.id := mem_cuesOf.2 ⟨x, hx, hid, rfl⟩
      rw [hpass] at hmem
      exact absurd hmem (by simp)
    · rw [hr] at hpass
      obtain ⟨k, hk⟩ := hstands (c.waiting (advanceDue c.due (c.late n))) (hpass ▸ List.mem_singleton_self _)
      rw [Cue.waiting_reentered] at hk
      exact ⟨_, k, advanceDue_advancedTo c _, hk⟩

/-- Settles O11: TIME_SET is the pass from the new station time, and the pass is what the rules say in each of the cases
that the statement tells apart. -/
theorem timeSetMovesStationTime : Obligations.TimeSetMovesStationTime := by
  refine ⟨fun s n hcan hn => ?taken, fun s day tick hcan hd ht ht' => ?refused⟩
  case refused =>
    exact refuses_badField_of_serve (fun _ => rfl) hcan (.inl rfl) (by simp [readAll, rStation_none hd ht ht'])
  case taken =>
    have hst := timeSetStart_station (s := s) hn
    have honly := settle_only (timeSetStart n s)
    have hoff : (settle (timeSetStart n s)).offset = (timeSetStart n s).offset := honly.offset
    have hquiet := settleCues_quiet (t := timeSetStart n s) hst
    refine ⟨settle (timeSetStart n s), { timeSetStart n s with falling := [] }, timeSet_answers hcan hn,
      honly.station.trans hst, ?only, by rw [hoff]; rfl, fun hnone => ?none, fun hids => ⟨?future, ?allFuture, ?late, ?one⟩⟩
    case only =>
      rw [hoff]
      exact honly.falling s.falling (settle (timeSetStart n s)).falling
    case none => exact hquiet (fun c hc hp => absurd hp (hnone c hc)) _
    case future => exact fun c hc hp hfuture => settle_keeps_future hst hids hc hp hfuture
    case allFuture => exact fun hall => hquiet hall _
    case late =>
      intro hlate
      obtain ⟨hroutes, hcues⟩ := settle_passed hst hids rfl hlate
      exact ⟨hroutes, settle_falling, fun c hc => passed_meets (hcues c hc)⟩
    case one =>
      intro c hc hp hothers
      refine ⟨fun hlate hpast hins => ?_, fun hlate hready => settle_handsOver hst hids rfl hc hp hothers hlate hready⟩
      rw [settle_expires hst hids rfl hc hp hothers hlate hpast]
      exact expireCue_expired c (c.late n) hins

end Sys2Proof.Machine
end

section
/-!
PROOFS. The input ports until alignment is lost: what a byte does by the run state of its port, and how a whole packet is
gathered into the FIFO (R22 to R26, R31 to R33, R37, R39).
-/
namespace Sys2Proof.Machine

variable {s t : State} {p : PortId} {b : Byte}

@[simp] theorem State.setPort_setPort (s : State) (p : PortId) (x y : Port) :
    (s.setPort p x).setPort p y = s.setPort p y := by simp [State.setPort]

/-! ## One byte, by the run state -/

theorem exec_portLineByte (p : PortId) (b : Byte) (s : State) : exec (.portLineByte p b) s = .next (lineByte p b s) := rfl

theorem lineByte_stopped (h : (s.port p).run = .stopped) : lineByte p b s = s := by simp [lineByte, h]

theorem lineByte_search (h : (s.port p).run = .search) :
    lineByte p b s = if b = 0x47 then s.setPort p { s.port p with run := .verify 1 187 } else s := by
  unfold lineByte
  rw [h]
  rfl

theorem lineByte_verify {good left : Nat} (h : (s.port p).run = .verify good (left + 1)) :
    lineByte p b s = s.setPort p { s.port p with run := .verify good left } := by simp [lineByte, h]

theorem lineByte_verifySync {good : Nat} (h : (s.port p).run = .verify good 0) :
    lineByte p b s = verifySync p good b s := by simp [lineByte, h]

theorem lineByte_lockedSync {bad : Nat} {x : Option Packet} (h : (s.port p).run = .locked bad 0 x) :
    lineByte p b s = lockedSync p bad b s := by simp [lineByte, h]

theorem lineByte_locked {bad left : Nat} {x : Option Packet} (h : (s.port p).run = .locked bad (left + 1) x) :
    lineByte p b s = gatherByte p bad left x b s := by simp [lineByte, h]

/-! ## Sync positions (R25, R26) -/

theorem verifySync_good {good : Nat} (h : good < 4) :
    verifySync p good 0x47 s = s.setPort p { s.port p with run := .verify (good + 1) 187 } := by
  have : good + 1 ≠ 5 := by omega
  simp [verifySync, syncByte, this]

/-- The fifth good sync position in a row locks the port. -/
theorem verifySync_locks :
    verifySync p 4 0x47 s = notifyPort p (s.setPort p { s.port p with run := .locked 0 187 (some [0x47]) }) := rfl

theorem verifySync_bad {good : Nat} (h : b ≠ 0x47) :
    verifySync p good b s = s.setPort p { s.port p with run := .search } := if_neg h

theorem lockedSync_good {bad : Nat} :
    lockedSync p bad 0x47 s = s.setPort p { s.port p with run := .locked 0 187 (some [0x47]) } := rfl

theorem lockedSync_bad {bad : Nat} (h : b ≠ 0x47) (hbad : bad < 2) :
    lockedSync p bad b s = s.setPort p { s.port p with run := .locked (bad + 1) 187 none } :=
  (if_neg h).trans (if_pos hbad)

theorem lockedSync_third (h : b ≠ 0x47) : lockedSync p 2 b s = loseSync p s :=
  (if_neg h).trans (if_neg (Nat.lt_irrefl 2))

/-- Settles O12: one equation of the line's byte for each run state before LOCKED. -/
theorem portAlignmentBeforeLock : Obligations.PortAlignmentBeforeLock := by
  intro p b s
  refine ⟨fun h => ?stopped, fun h => ?search, fun good left h => ?verify, fun good h hgood hb => ?good,
    fun h hb => ?locks, fun good h hb => ?bad⟩
  all_goals rw [exec_portLineByte]
  case stopped => rw [lineByte_stopped h]
  case search => rw [lineByte_search h]
  case verify => rw [lineByte_verify h]
  case good => rw [lineByte_verifySync h, hb, verifySync_good hgood]
  case locks =>
    rw [lineByte_verifySync h, hb, verifySync_locks, notifyPort, portNotice, State.setPort_port_self]
    rfl
  case bad => rw [lineByte_verifySync h, verifySync_bad hb]

/-! ## The FIFO (R32, R33, R37, R39) -/

/-- With room in the FIFO, the packet joins it, and PORT_STATE tells of ERROR_FLAGGED where that is newly set. -/
theorem offerFifo_room {q : Packet} (h : (s.port p).fifo.length < 64)
    (ht : t = s.setPort p { s.port p with
      fifo := (s.port p).fifo ++ [{ packet := q, arrival := s.clock }]
      flags := { (s.port p).flags with errorFlagged := (s.port p).flags.errorFlagged || errorFlag q } }) :
    offerFifo p q s =
      if errorFlag q ∧ (s.port p).flags.errorFlagged = false then notifyMgmt (portNotice p t) t else t := by
  have hflag : (s.port p).flags.withError (errorFlag q) = (s.port p).flags ↔
      ¬ (errorFlag q = true ∧ (s.port p).flags.errorFlagged = false) := by
    obtain ⟨-, -, -, e⟩ := (s.port p).flags
    cases e <;> simp [PortFlags.withError]
  rw [offerFifo, if_pos h, raiseFlag, State.setPort_port_self, State.setPort_setPort, ht]
  simp only [hflag, ite_not]
  rfl

/-- With 64 packets in the FIFO, the packet is dropped, and PORT_STATE tells of OVERRUN where that is newly set. -/
theorem offerFifo_full {q : Packet} (h : 64 ≤ (s.port p).fifo.length)
    (ht : t = s.setPort p { s.port p with flags := { (s.port p).flags with overrun := true } }) :
    offerFifo p q s = if (s.port p).flags.overrun = false then notifyMgmt (portNotice p t) t else t := by
  have hflag : (s.port p).flags.withOverrun = (s.port p).flags ↔ ¬ (s.port p).flags.overrun = false := by
    obtain ⟨-, o, -, -⟩ := (s.port p).flags
    cases o <;> simp [PortFlags.withOverrun]
  rw [offerFifo, if_neg (Nat.not_lt.2 h), raiseFlag, ht]
  simp only [hflag, ite_not]
  rfl

/-! ## Bytes between sync positions (R26, R31) -/

theorem gatherByte_more {bad left : Nat} {x : Option Packet} :
    gatherByte p bad (left + 1) x b s =
      s.setPort p { s.port p with run := .locked bad (left + 1) (x.map fun q => q ++ [b]) } := rfl

theorem gatherByte_dropped {bad : Nat} :
    gatherByte p bad 0 none b s = s.setPort p { s.port p with run := .locked bad 0 none } := rfl

theorem gatherByte_last {bad : Nat} {q : Packet} :
    gatherByte p bad 0 (some q) b s =
      offerFifo p (q ++ [b]) (s.setPort p { s.port p with run := .locked bad 0 none }) := rfl

/-- The last byte of a packet that the FIFO takes. -/
theorem offerFifo_withPacket {bad : Nat} {q : Packet} (h : (s.port p).fifo.length < 64)
    (ht : t = s.setPort p (withPacket (s.port p) bad q s.clock)) :
    offerFifo p q (s.setPort p { s.port p with run := .locked bad 0 none }) =
      if errorFlag q ∧ (s.port p).flags.errorFlagged = false then notifyMgmt (portNotice p t) t else t := by
  have hroom := offerFifo_room (s := s.setPort p { s.port p with run := .locked bad 0 none }) (p := p) (q := q) (t := t)
  simp only [State.setPort_port_self, State.setPort_setPort, State.setPort_clock] at hroom
  exact hroom h ht

/-- The last byte of a packet that finds the FIFO full. -/
theorem offerFifo_overrun {bad : Nat} {q : Packet} (h : 64 ≤ (s.port p).fifo.length)
    (ht : t = s.setPort p { s.port p with
      run := .locked bad 0 none, flags := { (s.port p).flags with overrun := true } }) :
    offerFifo p q (s.setPort p { s.port p with run := .locked bad 0 none }) =
      if (s.port p).flags.overrun = false then notifyMgmt (portNotice p t) t else t := by
  have hfull := offerFifo_full (s := s.setPort p { s.port p with run := .locked bad 0 none }) (p := p) (q := q) (t := t)
  simp only [State.setPort_port_self, State.setPort_setPort] at hfull
  exact hfull h ht

/-! ## A whole packet -/

theorem lineAll_cons (p : PortId) (b : Byte) (rest : List Byte) (s : State) :
    lineAll p (b :: rest) s = lineAll p rest (lineByte p b s) := rfl

/-- The bytes that are still missing from a packet complete it, and it is offered to the FIFO. -/
theorem lineAll_gathers {bad : Nat} {rest : List Byte} (hne : rest ≠ []) {got : Packet}
    (h : (s.port p).run = .locked bad rest.length (some got)) :
    lineAll p rest s =
      .next (offerFifo p (got ++ rest) (s.setPort p { s.port p with run := .locked bad 0 none })) := by
  induction rest generalizing got s with
  | nil => exact absurd rfl hne
  | cons b rest ih =>
    rw [lineAll_cons, lineByte_locked h]
    cases rest with
    | nil => rw [List.length_nil, gatherByte_last]; rfl
    | cons c rest =>
      rw [List.length_cons, gatherByte_more, ih (got := got ++ [b]) (List.cons_ne_nil c rest)]
      · simp
      · simp

/-- A whole packet that arrives from a sync position on is offered to the FIFO as it arrived. -/
theorem lineAll_packet {bad : Nat} {x : Option Packet} {q : Packet} (hq : Packet.wf q = true)
    (h : (s.port p).run = .locked bad 0 x) :
    lineAll p q s = .next (offerFifo p q (s.setPort p { s.port p with run := .locked 0 0 none })) := by
  obtain ⟨hlen, hsync⟩ : q.length = 188 ∧ q.head? = some 0x47 := by simpa [Packet.wf] using hq
  obtain ⟨rest, rfl⟩ := List.head?_eq_some_iff.1 hsync
  have hrest : rest.length = 187 := by simpa using hlen
  have hne : rest ≠ [] := by rintro rfl; simp at hrest
  rw [lineAll_cons, lineByte_lockedSync h, lockedSync_good, lineAll_gathers (bad := 0) (got := [0x47]) hne (by simp [hrest])]
  simp

/-- Settles O13: one equation of the line's byte for each place in a packet, and the induction over a packet's bytes. -/
theorem portReceivesPacketsInLock : Obligations.PortReceivesPacketsInLock := by
  refine ⟨fun p b s => ⟨fun bad x h hb => ?good, fun bad x h hb hbad => ?bad, fun bad left x h => ?more,
    fun bad h => ?dropped, fun bad q t h hroom ht => ?last, fun bad q t h hfull ht => ?overrun⟩,
    fun p q s t bad x hq h hroom ht => ?whole⟩
  case whole => rw [lineAll_packet hq h, offerFifo_withPacket hroom ht]
  all_goals rw [exec_portLineByte]
  case good => rw [lineByte_lockedSync h, hb, lockedSync_good]
  case bad => rw [lineByte_lockedSync h, lockedSync_bad hb hbad]
  case more => rw [lineByte_locked h, gatherByte_more]
  case dropped => rw [lineByte_locked h, gatherByte_dropped]
  case last => rw [lineByte_locked h, gatherByte_last, offerFifo_withPacket hroom ht]
  case overrun => rw [lineByte_locked h, gatherByte_last, offerFifo_overrun hfull ht]

end Sys2Proof.Machine
end

section
/-!
PROOFS. The detected flags when routes and the schedule move, and what a starvation and the report of a lost port do to
the variants (R30, R90, R91, R194).
-/
namespace Sys2Proof.Machine

variable (s : State)

/-! ## Routes and the schedule raise no event of their own -/

theorem foldl_detected {α : Type} {f : State → α → State} (h : ∀ t x, (f t x).detected = t.detected) (l : List α) :
    (l.foldl f s).detected = s.detected :=
  List.foldlRecOn l f (motive := fun t => t.detected = s.detected) rfl fun t ht x _ => (h t x).trans ht

theorem enterCue_detected (c : Cue) : (enterCue c s).detected = s.detected := by
  unfold enterCue renumberFull
  split <;> rfl

theorem completeCue_detected (c : Cue) : (completeCue c s).detected = s.detected := by
  cases hr : c.rpt with
  | once => rw [completeCue_once hr]; rfl
  | daily =>
    rw [completeCue_daily hr]
    exact (enterCue_detected (notifyBoth _ s) (c.waiting (nextOccurrence s.station c.due).1) :)

theorem expireCue_detected (c : Cue) (late : Nat) : (expireCue c late s).detected = s.detected := by
  cases hr : c.rpt with
  | once => rw [expireCue_once hr]; rfl
  | daily => rw [expireCue_daily hr]; exact enterCue_detected _ _

theorem recordOutcome_detected (id : Nat) (g : RegionId) (o : CueOutcome) :
    (recordOutcome id g o s).detected = s.detected := by
  unfold recordOutcome
  split
  · rfl
  · split
    · rfl
    · dsimp only
      split
      · exact completeCue_detected _ _
      · rfl

theorem giveOutcome_detected (g : RegionId) (x : Option Given) : (giveOutcome g x s).detected = s.detected := by
  unfold giveOutcome
  split
  · exact recordOutcome_detected _ _ _ _
  · rfl
  · rfl

theorem notifyRoute_detected (g : RegionId) (sl : SlotId) (old new : Route) (c : RouteCause) (x y : Option Given) :
    (notifyRoute g sl old new c x y s).detected = s.detected := by
  unfold notifyRoute
  split <;> rfl

theorem commitRoute_detected (g : RegionId) (sl : SlotId) (new : Route) (c : RouteCause) (x y : Option Given) :
    (commitRoute g sl new c x y s).detected = s.detected := by
  rw [commitRoute, giveOutcome_detected, notifyRoute_detected, giveOutcome_detected, State.setRoute_detected]

theorem handOver_detected (c : Cue) : (handOver c s).detected = s.detected :=
  foldl_detected _ (fun t g => commitRoute_detected t g _ _ _ _ _) _

theorem measureCue_detected (c : Cue) : (measureCue c s).detected = s.detected := by
  unfold measureCue
  split
  · dsimp only
    split
    · rfl
    · split
      · exact handOver_detected _ _
      · exact expireCue_detected _ _ _
  · rfl

theorem settleCues_detected (n : Nat) : (settleCues n s).detected = s.detected := by
  induction n generalizing s with
  | zero => rfl
  | succ n ih =>
    unfold settleCues
    split
    · rfl
    · exact (ih _).trans (measureCue_detected _ _)

/-- The end of an event raises no event. -/
theorem settle_detected : (settle s).detected = s.detected := settleCues_detected _ _

theorem starveRoute_detected (v : VariantId) (x : RegionId × SlotId) : (starveRoute v s x).detected = s.detected := by
  unfold starveRoute
  dsimp only
  repeat' split
  all_goals simp only [commitRoute_detected]

/-! ## A starvation raises DEGRADED at most -/

/-- The detected flags stand as they were, or DEGRADED alone has been set. -/
def DegradesAtMost (s t : State) : Prop := t.detected = s.detected ∨ t.detected = s.detected.with .degraded

theorem DegradesAtMost.trans {a b c : State} (h : DegradesAtMost a b) (h' : DegradesAtMost b c) : DegradesAtMost a c := by
  unfold DegradesAtMost at *
  rcases h' with h' | h'
  · rwa [h']
  · refine .inr ?_
    rw [h']
    rcases h with h | h <;> rw [h]
    rfl

theorem DegradesAtMost.fault {s t : State} (h : DegradesAtMost s t) : t.detected.fault = s.detected.fault := by
  rcases h with h | h <;> rw [h]
  rfl

theorem DegradesAtMost.degraded {s t : State} (h : DegradesAtMost s t) (hs : s.detected.degraded = true) :
    t.detected.degraded = true := by
  rcases h with h | h <;> rw [h]
  · exact hs
  · rfl

theorem starve_degrades (v : VariantId) (c : HealthCause) : DegradesAtMost s (starve v c s) := by
  unfold starve
  split
  · exact .inl rfl
  · split
    · exact .inl rfl
    · unfold DegradesAtMost
      rw [foldl_detected _ fun t x => starveRoute_detected t v x, notifyHealth, notifyMgmt_detected]
      split
      · exact .inr rfl
      · exact .inl rfl

theorem portLost_degrades (p : PortId) (c : HealthCause) : DegradesAtMost s (portLost p c s) := by
  refine List.foldlRecOn _ _ (motive := DegradesAtMost s) (.inl rfl) fun t ht v _ => ht.trans ?_
  split
  · exact starve_degrades _ _ _
  · exact .inl rfl

/-! ## Fields that health and switching leave alone -/

theorem OnlySwitching.variants {s t : State} (h : OnlySwitching s t) : t.variants = s.variants :=
  (congrArg State.variants h.1 :)

theorem OnlyHealth.ports {s t : State} (h : OnlyHealth s t) : t.ports = s.ports := (congrArg State.ports h.1 :)

theorem OnlyHealth.components {s t : State} (h : OnlyHealth s t) : t.components = s.components :=
  (congrArg State.components h.1 :)

theorem OnlyHealth.port {s t : State} (h : OnlyHealth s t) (q : PortId) : t.port q = s.port q :=
  congrArg (fun x : Vector Port 12 => x[q]) h.ports

theorem OnlyHealth.component {s t : State} (h : OnlyHealth s t) (c : ComponentId) : t.component c = s.component c :=
  congrArg (fun x : Vector (Option Component) 256 => x[c]) h.components

/-- A change of ports and components alone, and then of health alone. -/
theorem OnlyHealth.of_ports_components {s u t : State} (h : OnlyHealth u t)
    (hu : OnlyHealth { s with ports := u.ports, components := u.components } u) :
    OnlyHealth { s with ports := t.ports, components := t.components } t := by
  rw [h.ports, h.components]
  exact hu.trans h

/-! ## The variants that a lost port starves (R30, R90) -/

theorem VariantDef.starved_starved (d : VariantDef) : d.starved.starved = d.starved := by
  by_cases h : d.health = .starved <;> simp [VariantDef.starved, h]

/-- A variant that is UNDEFINED or STARVED already cannot starve. -/
theorem starve_none {v : VariantId} (h : ∀ d, s.variant v = some d → d.health = .starved) (c : HealthCause) :
    starve v c s = s := by
  unfold starve
  split
  · rfl
  · next d hv => exact if_pos (h d hv)

/-- Of the variants, a starvation moves its own alone. -/
theorem starve_variants {v : VariantId} {d : VariantDef} (hv : s.variant v = some d) (hd : d.health ≠ .starved)
    (c : HealthCause) : (starve v c s).variants = (s.setVariant v (some d.starved)).variants := by
  unfold starve
  rw [hv]
  dsimp only
  rw [if_neg hd, (foldl_switching _ _ (fun t x => starveRoute_only t v x) _).variants, VariantDef.starved, if_neg hd]
  split <;> rfl

/-- A starvation makes its variant STARVED and leaves every other variant as it was. -/
theorem starve_variant (v : VariantId) (c : HealthCause) (w : VariantId) :
    (starve v c s).variant w = if v = w then (s.variant w).map VariantDef.starved else s.variant w := by
  by_cases h : ∃ d, s.variant v = some d ∧ d.health ≠ .starved
  · obtain ⟨d, hv, hd⟩ := h
    have hw : (starve v c s).variant w = (s.setVariant v (some d.starved)).variant w :=
      congrArg (fun x : Vector (Option VariantDef) 48 => x[w]) (starve_variants s hv hd c)
    rw [hw, State.setVariant_variant]
    split
    · next he => rw [← he, hv, Option.map_some]
    · rfl
  · have hall : ∀ d, s.variant v = some d → d.health = .starved := fun d hv => by_contra fun hd => h ⟨d, hv, hd⟩
    rw [starve_none s hall]
    split
    · next he =>
      subst he
      cases hv : s.variant v with
      | none => rfl
      | some d => rw [Option.map_some, VariantDef.starved, if_pos (hall d hv)]
    · rfl

/-- The variants of a list that are anchored on a port starve one after another. -/
theorem foldl_starve_variant (p : PortId) (c : HealthCause) (l : List VariantId) (t : State) (w : VariantId) :
    (l.foldl (fun t v => if s.anchoredOn p v then starve v c t else t) t).variant w =
      if w ∈ l ∧ s.anchoredOn p w = true then (t.variant w).map VariantDef.starved else t.variant w := by
  induction l generalizing t with
  | nil => simp
  | cons v l ih =>
    rw [List.foldl_cons, ih]
    by_cases hv : s.anchoredOn p v = true
    · by_cases hw : v = w
      · subst hw
        simp [hv, starve_variant, Function.comp_def, VariantDef.starved_starved]
      · simp [hv, hw, Ne.symm hw, starve_variant]
    · by_cases hw : v = w
      · subst hw
        simp [hv]
      · simp [hv, Ne.symm hw]

/-- The report of a lost port starves the variants whose anchor is on it, and no others. -/
theorem portLost_starves (p : PortId) (c : HealthCause) : StarvesAnchored p s (portLost p c s) := by
  intro w
  rw [portLost, foldl_starve_variant]
  simp

theorem StarvesAnchored.of_same_anchors {p : PortId} {s u t : State} (h : StarvesAnchored p u t)
    (hanchor : ∀ v, u.anchoredOn p v = s.anchoredOn p v) (hvariants : u.variants = s.variants) :
    StarvesAnchored p s t := by
  intro v
  have hv : u.variant v = s.variant v := congrArg (fun x : Vector (Option VariantDef) 48 => x[v]) hvariants
  rw [h v, hanchor, hv]

theorem StarvesAnchored.of_variants {p : PortId} {s u t : State} (h : StarvesAnchored p s u)
    (hvariants : t.variants = u.variants) : StarvesAnchored p s t := by
  intro v
  rw [← h v]
  exact congrArg (fun x : Vector (Option VariantDef) 48 => x[v]) hvariants

end Sys2Proof.Machine
end

section
/-!
PROOFS. A port that is lost, and the requests to the ports (R23, R27, R28, R30, R34, R35, R38, R40, R54).
-/
namespace Sys2Proof.Machine

variable {s t : State} {p : PortId}

/-! ## The components on a port (R27, R54) -/

theorem clearLastSeen_component (c : ComponentId) :
    (clearLastSeen p s).component c = (s.component c).map fun k => if k.port = p then { k with lastSeen := none } else k := by
  simp only [clearLastSeen, State.component, Fin.getElem_fin, Vector.getElem_map]
  cases s.components[(c : Nat)] with
  | none => rfl
  | some k => by_cases h : k.port = p <;> simp [h]

/-- A last seen count has no part in where a variant is anchored. -/
theorem clearLastSeen_anchoredOn (q : PortId) (v : VariantId) : (clearLastSeen p s).anchoredOn q v = s.anchoredOn q v := by
  have hanchor : ∀ d, (clearLastSeen p s).anchorOf d = s.anchorOf d := fun _ => rfl
  have hvariant : (clearLastSeen p s).variant v = s.variant v := rfl
  unfold State.anchoredOn
  rw [hvariant]
  cases s.variant v with
  | none => rfl
  | some d =>
    simp only [hanchor]
    cases s.anchorOf d with
    | none => rfl
    | some c =>
      simp only [clearLastSeen_component]
      cases s.component c with
      | none => rfl
      | some k => by_cases h : k.port = p <;> simp [h]

theorem nationalBearing_iff :
    s.nationalBearing p = true ↔ ∃ c k sl r, s.component c = some k ∧ k.port = p ∧ k.binding = .national sl r := by
  simp only [State.nationalBearing, List.any_eq_true, Vector.mem_toList_iff, Vector.mem_iff_getElem]
  constructor
  · rintro ⟨x, ⟨i, hi, rfl⟩, hx⟩
    split at hx
    · next k hk =>
      split at hx
      · next sl r hb => exact ⟨⟨i, hi⟩, k, sl, r, hk, by simpa using hx, hb⟩
      all_goals exact absurd hx (by decide)
    · exact absurd hx (by decide)
  · rintro ⟨c, k, sl, r, hc, hp, hb⟩
    refine ⟨some k, ⟨c, c.isLt, hc⟩, ?_⟩
    simp [hb, hp]

/-! ## The end of a port's report -/

theorem settle_notifyPort_only (p : PortId) (u : State) : OnlySwitching u (settle (notifyPort p u)) :=
  (notifyMgmt_only u _).switching.trans (settle_only _)

theorem settle_notifyPort_portLost_only (p : PortId) (c : HealthCause) (u : State) :
    OnlyHealth u (settle (notifyPort p (portLost p c u))) :=
  (portLost_only u p c).trans (settle_notifyPort_only _ _).health

theorem settle_notifyPort_portLost_starves (p : PortId) (c : HealthCause) (u : State) :
    StarvesAnchored p u (settle (notifyPort p (portLost p c u))) :=
  (portLost_starves u p c).of_variants (settle_notifyPort_only _ _).variants

theorem settle_notifyPort_portLost_degrades (p : PortId) (c : HealthCause) (u : State) :
    DegradesAtMost u (settle (notifyPort p (portLost p c u))) := by
  have hd : (settle (notifyPort p (portLost p c u))).detected = (portLost p c u).detected := settle_detected _
  unfold DegradesAtMost
  rw [hd]
  exact portLost_degrades u p c

/-- A port that leaves LOCKED: its record changes and its components lose their last seen counts. -/
def unlocked (p : PortId) (x : Port) (s : State) : State := clearLastSeen p (s.setPort p x)

theorem unlocked_port (x : Port) (q : PortId) : (unlocked p x s).port q = if q = p then x else s.port q := by
  simp only [eq_comm (a := q)]
  exact State.setPort_port s p x q

/-- A port that leaves LOCKED and reports that it is lost: what holds of the components and variants at the end of the
event, whose state before the report is `u`. -/
theorem unlocked_reports_lost {x : Port} {u : State} (c : HealthCause) (hu : OnlyReports (unlocked p x s) u)
    (ht : t = settle (notifyPort p (portLost p c u))) :
    OnlyHealth { s with ports := t.ports, components := t.components } t ∧
      (∀ q, t.port q = if q = p then x else s.port q) ∧ ClearsLastSeen p s t ∧ StarvesAnchored p s t := by
  subst ht
  have hlost := settle_notifyPort_portLost_only p c u
  have honly := hu.health.trans hlost
  refine ⟨honly.of_ports_components (.refl _), fun q => ?_, fun k => ?_, ?_⟩
  · rw [honly.port, unlocked_port]
  · rw [honly.component, unlocked, clearLastSeen_component]
    rfl
  · refine (settle_notifyPort_portLost_starves p c u).of_same_anchors (fun v => ?_) ?_
    · have hsame : u.anchoredOn p v = (unlocked p x s).anchoredOn p v := (congrArg (State.anchoredOn · p v) hu.1 :)
      exact hsame.trans (clearLastSeen_anchoredOn (s := s.setPort p x) p v)
    · exact (congrArg State.variants hu.1 :)

/-! ## The third bad sync position (R27) -/

/-- The port record at the third bad sync position in a row. -/
def Port.syncLost (old : Port) : Port := { old with run := .search, fifo := [], flags := { old.flags with syncLost := true } }

/-- The part at the third bad sync position in a row, before the port reports that it is lost. -/
def syncLostState (p : PortId) (s : State) : State :=
  raiseEvent (if s.nationalBearing p then .nationalSyncLost else .syncLost) (.port p) (unlocked p (s.port p).syncLost s)

theorem loseSync_eq (p : PortId) (s : State) :
    loseSync p s = settle (notifyPort p (portLost p .portLost (syncLostState p s))) := rfl

theorem syncLostState_fault (h : s.nationalBearing p = true) : (syncLostState p s).detected.fault = true := by
  unfold syncLostState
  rw [if_pos h]
  rfl

theorem syncLostState_degraded (h : s.nationalBearing p = false) :
    (syncLostState p s).detected.degraded = true ∧ (syncLostState p s).detected.fault = s.detected.fault := by
  unfold syncLostState
  rw [h]
  exact ⟨rfl, rfl⟩

/-- Settles O14: the port's record and event come first, and its report then starves and degrades at most. -/
theorem portLosesAlignment : Obligations.PortLosesAlignment := by
  intro p b s x h hb
  have hexec : exec (.portLineByte p b) s = .next (loseSync p s) := by
    rw [exec_portLineByte, lineByte_lockedSync h, lockedSync_third hb]
  obtain ⟨honly, hport, hclear, hstarve⟩ :=
    unlocked_reports_lost (s := s) (x := (s.port p).syncLost) (u := syncLostState p s) .portLost
      (raiseEvent_only _ _ _) (loseSync_eq p s)
  have hdegrade := settle_notifyPort_portLost_degrades p .portLost (syncLostState p s)
  rw [← loseSync_eq] at hdegrade
  refine ⟨_, hexec, honly, hport, hclear, hstarve, fun hnational => ?_, fun hnone => ?_⟩
  · rw [hdegrade.fault, syncLostState_fault (nationalBearing_iff.2 hnational)]
  · have hn : s.nationalBearing p = false := by
      rw [Bool.eq_false_iff, Ne, nationalBearing_iff]
      rintro ⟨c, k, sl, r, hc, hp, hbind⟩
      exact hnone c k sl r hc hp hbind
    obtain ⟨hdeg, hfault⟩ := syncLostState_degraded hn
    exact ⟨hdegrade.degraded hdeg, hdegrade.fault.trans hfault⟩

/-! ## PORT_START, PORT_CLEAR and PORT_READ (R23, R38, R40) -/

theorem readAll_portId (p : PortId) : readAll (rIndex 12) (e1 p) = some p :=
  readAll_some _ _ _ (by simpa using rIndex_e1 p (by decide) [])

theorem doPortStart_stopped (h : (s.port p).run = .stopped) :
    doPortStart p s = .ok [1] (notifyPort p (s.setPort p { s.port p with run := .search })) := by
  unfold doPortStart
  rw [h]
  rfl

theorem doPortStart_running (h : (s.port p).run ≠ .stopped) : doPortStart p s = .ok (e1 (s.port p).run.code) s := by
  unfold doPortStart
  split
  · next hr => exact absurd hr h
  · rfl

/-- Settles O15: each request row answers with the fields of its rule. -/
theorem portRequestsStartClearAndRead : Obligations.PortRequestsStartClearAndRead := by
  refine fun p s => ⟨fun hc => ⟨fun h => ?start, fun h => ?running, fun b f hb hf => ?clear⟩, fun l national hc hn => ?read⟩
  case start =>
    refine answers_of_serve (fun _ => rfl) hc (.inl rfl) (readAll_portId p) ((doPortStart_stopped h).trans ?_)
    rw [notifyPort, portNotice, State.setPort_port_self]
    rfl
  case running => exact answers_of_serve (fun _ => rfl) hc (.inl rfl) (readAll_portId p) (doPortStart_running h)
  case clear =>
    subst hf
    exact answers_of_serve (fun _ => rfl) hc (.inl rfl)
      (readAll_some _ _ (p, b) (rThen_some _ _ _ [b] [] p b (rIndex_e1 p (by decide) _) (rSet4_some hb []))) rfl
  case read =>
    have hbearing : s.nationalBearing p = national := Bool.eq_iff_iff.2 (nationalBearing_iff.trans hn.symm)
    refine answers_of_serve (fun _ => rfl) hc (.inr rfl) (readAll_portId p) ?_
    simp only [doPortRead, eSettings, eFlag, hbearing, Port.occupancy, List.append_assoc]

/-! ## PORT_STOP (R28) -/

/-- The port record after a stop. -/
def Port.stopped (old : Port) : Port := { old with run := .stopped, fifo := [] }

theorem stopPort_locked (h : (s.port p).isLocked = true) :
    stopPort p s = settle (notifyPort p (portLost p .portLost (unlocked p (s.port p).stopped s))) := by
  have hrun : (s.port p).run ≠ .stopped := fun e => by simp [Port.isLocked, e] at h
  unfold stopPort
  simp only [h, hrun, if_true, if_false]
  rfl

/-- A port that is not LOCKED reports no loss. -/
theorem stopPort_unlocked (h : (s.port p).isLocked = false) :
    OnlySwitching (s.setPort p (s.port p).stopped) (stopPort p s) := by
  unfold stopPort
  simp only [h, Bool.false_eq_true, if_false]
  split
  · exact settle_only _
  · exact settle_notifyPort_only _ _

/-! ## PORT_CONFIG (R34, R35) -/

/-- The settings that a PORT_CONFIG leaves in a port's record. -/
def PortConfig.record (x : PortConfig) (old : Port) : Port :=
  { old with
    admission := x.admission.getD old.admission, unadmitted := x.unadmitted.getD old.unadmitted
    unmatched := x.unmatched.getD old.unmatched }

theorem configPort_same {x : PortConfig} (h : x.admission.getD (s.port x.port).admission = (s.port x.port).admission) :
    configPort x s = s.setPort x.port (x.record (s.port x.port)) := if_pos h

theorem configPort_withdrawn {x : PortConfig} (h : (s.port x.port).admission = .admitted)
    (hx : x.admission = some .notAdmitted) :
    configPort x s =
      settle (notifyPort x.port (portLost x.port .portUnadmitted (s.setPort x.port (x.record (s.port x.port))))) := by
  simp [configPort, PortConfig.record, h, hx]

theorem configPort_granted {x : PortConfig} (h : (s.port x.port).admission = .notAdmitted)
    (hx : x.admission = some .admitted) :
    configPort x s = settle (notifyPort x.port (s.setPort x.port (x.record (s.port x.port)))) := by
  simp [configPort, PortConfig.record, h, hx]

/-- A PORT_CONFIG leaves the admission, withdraws it, or grants it. -/
theorem PortConfig.admission_cases (x : PortConfig) (old : Port) :
    x.admission.getD old.admission = old.admission ∨
      (old.admission = .admitted ∧ x.admission = some .notAdmitted) ∨
        (old.admission = .notAdmitted ∧ x.admission = some .admitted) := by
  cases hx : x.admission with
  | none => exact .inl rfl
  | some a => cases a <;> cases old.admission <;> simp

/-- A PORT_CONFIG writes its settings, and then moves health and reports at most. -/
theorem configPort_only (x : PortConfig) (s : State) :
    OnlyHealth (s.setPort x.port (x.record (s.port x.port))) (configPort x s) := by
  rcases x.admission_cases (s.port x.port) with h | ⟨h, hx⟩ | ⟨h, hx⟩
  · rw [configPort_same h]
    exact .refl _
  · rw [configPort_withdrawn h hx]
    exact settle_notifyPort_portLost_only _ _ _
  · rw [configPort_granted h hx]
    exact (settle_notifyPort_only _ _).health

/-- A PORT_CONFIG answers with the settings that it leaves. -/
theorem doPortConfig_eq (x : PortConfig) :
    doPortConfig x s = .ok (eSettings (x.record (s.port x.port))) (configPort x s) := by
  rw [doPortConfig, (configPort_only x s).port, State.setPort_port_self]

/-- Withdrawn admission starves the variants anchored on the port. -/
theorem configPort_starves {x : PortConfig} (h : (s.port x.port).admission = .admitted)
    (hx : x.admission = some .notAdmitted) : StarvesAnchored x.port s (configPort x s) := by
  rw [configPort_withdrawn h hx]
  exact (settle_notifyPort_portLost_starves _ _ _).of_same_anchors (fun _ => rfl) rfl

/-- A PORT_CONFIG that does not withdraw admission leaves every variant. -/
theorem configPort_variants {x : PortConfig}
    (h : ¬ ((s.port x.port).admission = .admitted ∧ x.admission = some .notAdmitted)) :
    (configPort x s).variants = s.variants := by
  rcases x.admission_cases (s.port x.port) with hsame | hdrawn | ⟨hold, hx⟩
  · rw [configPort_same hsame]
    rfl
  · exact absurd hdrawn h
  · rw [configPort_granted hold hx]
    exact (settle_notifyPort_only _ _).variants

/-- A presence byte and a setting are read as they were written. -/
theorem rOpt_setting {α : Type} {values : List α} {code : α → Nat} (h : ∀ a, code a < 256 ∧ values[code a]? = some a)
    (x : Option α) (rest : List Byte) :
    rOpt (rEnum values) (eOpt (fun a => e1 (code a)) x ++ rest) = some (x, rest) := by
  cases x with
  | none => exact rOpt_none _ _ _
  | some a => exact rOpt_some _ _ _ _ (rEnum_e1 values (code a) a rest (h a).1 (h a).2)

theorem readAll_portConfig (x : PortConfig) :
    readAll rPortConfig (e1 x.port ++ eOpt (fun a => e1 (Admission.code a)) x.admission ++
      eOpt (fun a => e1 (Policy.code a)) x.unadmitted ++ eOpt (fun a => e1 (Policy.code a)) x.unmatched) = some x := by
  have hadm : ∀ a : Admission, a.code < 256 ∧ [Admission.admitted, .notAdmitted][a.code]? = some a := by
    rintro (_ | _) <;> exact ⟨by decide, rfl⟩
  have hpol : ∀ a : Policy, a.code < 256 ∧ [Policy.discard, .capture][a.code]? = some a := by
    rintro (_ | _) <;> exact ⟨by decide, rfl⟩
  have hum := rOpt_setting hpol x.unmatched []
  rw [List.append_nil] at hum
  refine readAll_some _ _ _ ?_
  simp only [rPortConfig, List.append_assoc]
  rw [rThen_some _ _ _ _ _ _ _ (rIndex_e1 x.port (by decide) _)
    (rThen_some _ _ _ _ _ _ _ (rOpt_setting hadm x.admission _)
      (rThen_some _ _ _ _ _ _ _ (rOpt_setting hpol x.unadmitted _) hum))]
  rfl

/-- Settles O16: PORT_STOP by whether the port was LOCKED, PORT_CONFIG by what becomes of the admission. -/
theorem portStopAndConfig : Obligations.PortStopAndConfig := by
  refine ⟨fun p s hc => ⟨stopPort p s, answers_of_serve (fun _ => rfl) hc (.inl rfl) (readAll_portId p) rfl, ?stop⟩,
    fun p adm un um new s hc hnew => ?config⟩
  case stop =>
    cases hl : (s.port p).isLocked with
    | true =>
      obtain ⟨honly, hport, hclear, hstarve⟩ := unlocked_reports_lost .portLost (.refl _) (stopPort_locked hl)
      exact ⟨honly, hport, hclear, hstarve⟩
    | false =>
      have hs := stopPort_unlocked hl
      refine ⟨hs.health.of_ports_components (.refl _), fun q => ?_, hs.health.components, hs.variants⟩
      rw [hs.health.port, State.setPort_port]
      simp only [eq_comm (a := q)]
      rfl
  case config =>
    subst hnew
    refine ⟨configPort ⟨p, adm, un, um⟩ s, answers_of_serve (fun _ => rfl) hc (.inl rfl)
      (readAll_portConfig ⟨p, adm, un, um⟩) (doPortConfig_eq _), configPort_only ⟨p, adm, un, um⟩ s, ?_,
      configPort_same (x := ⟨p, adm, un, um⟩)⟩
    split
    · next h => exact configPort_starves h.1 h.2
    · next h => exact configPort_variants h

end Sys2Proof.Machine
end

section
/-!
PROOFS. The packet pool as counts: a pool that holds, for each buffer number, the references told by a count; the buffer
numbers that the queues and the capture ring name; and the parts of the state that do not bear on the pool (R60, R63).
-/
namespace Sys2Proof.Machine

/-! ## A pool and a count of references -/

/-- A pool holds the references that a count tells of each buffer number, and no buffer without one. -/
structure PoolHolds (pool : List Buffer) (refs : Nat → Nat) : Prop where
  bound : pool.length ≤ 4096
  nodup : (pool.map Buffer.id).Nodup
  counts : ∀ b ∈ pool, b.refs = refs b.id ∧ 0 < b.refs
  held : ∀ n, 0 < refs n → n ∈ pool.map Buffer.id

variable {pool : List Buffer} {refs : Nat → Nat}

theorem PoolHolds.congr {refs' : Nat → Nat} (h : PoolHolds pool refs) (he : ∀ n, refs' n = refs n) :
    PoolHolds pool refs' := funext he ▸ h

/-- A buffer number that no buffer has is named nowhere. -/
theorem PoolHolds.unnamed (h : PoolHolds pool refs) {n : Nat} (hn : ∀ b ∈ pool, b.id ≠ n) : refs n = 0 := by
  by_contra hpos
  obtain ⟨b, hb, hid⟩ := List.mem_map.1 (h.held n (Nat.pos_of_ne_zero hpos))
  exact hn b hb hid

/-- A dropped reference lowers the count of its buffer number by one. -/
theorem PoolHolds.drop (h : PoolHolds pool refs) (id : Nat) :
    PoolHolds (dropRef id pool) fun n => refs n - if n = id then 1 else 0 := by
  have hsub := dropRef_ids id pool
  refine ⟨?_, h.nodup.sublist hsub, fun b hb => ?_, fun n hn => ?_⟩
  · have := hsub.length_le
    simp only [List.length_map] at this
    exact this.trans h.bound
  · by_cases hid : b.id = id
    · obtain ⟨hpos, hmem⟩ := (mem_dropRef_self id pool b hid).1 hb
      have hcount := (h.counts _ hmem).1
      dsimp only at hcount
      refine ⟨?_, hpos⟩
      rw [if_pos hid, ← hcount]
      omega
    · rw [if_neg hid]
      exact h.counts b ((mem_dropRef id pool b hid).1 hb)
  · obtain ⟨b, hb, rfl⟩ := List.mem_map.1 (h.held n (by omega))
    by_cases hid : b.id = id
    · rw [if_pos hid, ← (h.counts b hb).1] at hn
      have hmem : { b with refs := b.refs - 1 } ∈ dropRef id pool := by
        refine (mem_dropRef_self id pool { b with refs := b.refs - 1 } hid).2 ⟨hn, ?_⟩
        have : b.refs - 1 + 1 = b.refs := by omega
        simpa [this] using hb
      exact List.mem_map.2 ⟨_, hmem, rfl⟩
    · exact List.mem_map.2 ⟨b, (mem_dropRef id pool b hid).2 hb, rfl⟩

/-- References dropped one after another lower the counts together. -/
theorem PoolHolds.drop_all (h : PoolHolds pool refs) (ids : List Nat) :
    PoolHolds (ids.foldl (fun p id => dropRef id p) pool) fun n => refs n - ids.count n := by
  induction ids generalizing pool refs with
  | nil => exact h
  | cons id ids ih =>
    refine (ih (h.drop id)).congr fun n => ?_
    rw [List.count_cons]
    by_cases hn : n = id
    · simp [hn]
      omega
    · simp [hn, Ne.symm hn]

/-- A free buffer that takes a packet holds the references that are now made to it. -/
theorem PoolHolds.take (h : PoolHolds pool refs) (hroom : pool.length < 4096) {id : Nat} (hid : ∀ b ∈ pool, b.id ≠ id)
    (q : Packet) {n : Nat} (hn : n ≠ 0) :
    PoolHolds (pool ++ [{ id := id, packet := q, refs := n }]) fun m => refs m + if m = id then n else 0 := by
  refine ⟨by simpa using hroom, ?_, fun b hb => ?_, fun m hm => ?_⟩
  · rw [List.map_append, List.map_singleton, List.nodup_append]
    refine ⟨h.nodup, List.nodup_singleton _, fun x hx y hy => ?_⟩
    obtain ⟨b, hb, rfl⟩ := List.mem_map.1 hx
    rw [List.mem_singleton.1 hy]
    exact hid b hb
  · rcases List.mem_append.1 hb with hb | hb
    · rw [if_neg (hid b hb)]
      exact h.counts b hb
    · obtain rfl := List.mem_singleton.1 hb
      simp only [if_true, h.unnamed hid]
      omega
  · rw [List.map_append, List.mem_append]
    by_cases hmid : m = id
    · exact .inr (by simp [hmid])
    · rw [if_neg hmid] at hm
      exact .inl (h.held m hm)

/-! ## The buffer numbers that are named -/

/-- How often entries of a region's queues name a buffer. -/
def Region.refsTo (r : Region) (n : Nat) : Nat := ((r.mainQ ++ r.expQ).map QEntry.buf).count n

/-- How often entries of the regions' queues and of the capture ring name a buffer. -/
def State.refsTo (s : State) (n : Nat) : Nat := (∑ g, (s.region g).refsTo n) + (s.capture.map CapEntry.buf).count n

/-- The buffer numbers that the queues and the capture ring name, in the order in which the invariant lists them. -/
def State.named (s : State) : List Nat :=
  ((List.finRange 8).flatMap fun g => ((s.region g).mainQ ++ (s.region g).expQ).map QEntry.buf) ++
    s.capture.map CapEntry.buf

theorem State.count_named (s : State) (n : Nat) : s.named.count n = s.refsTo n := by
  rw [State.named, List.count_append, List.count_flatMap, State.refsTo, Fin.sum_univ_def]
  rfl

theorem State.mem_named (s : State) (n : Nat) : n ∈ s.named ↔ 0 < s.refsTo n := by
  rw [← List.count_pos_iff, State.count_named]

/-- The counts of the pool are true where it holds the references that the queues and the capture ring make. -/
theorem poolOk_iff {s : State} : s.poolOk ↔ PoolHolds s.pool s.refsTo := by
  have h : s.poolOk ↔ s.pool.length ≤ 4096 ∧ (s.pool.map Buffer.id).Nodup ∧
      (∀ b ∈ s.pool, b.refs = s.named.count b.id ∧ 0 < b.refs) ∧ ∀ n ∈ s.named, n ∈ s.pool.map Buffer.id := Iff.rfl
  rw [h]
  simp only [State.count_named, State.mem_named]
  exact ⟨fun ⟨hbound, hnodup, hcounts, hheld⟩ => ⟨hbound, hnodup, hcounts, hheld⟩,
    fun h => ⟨h.bound, h.nodup, h.counts, h.held⟩⟩

/-- Changing one region changes the counts by what its own queues name. -/
theorem State.refsTo_setRegion (s : State) (g : RegionId) (x : Region) (n : Nat) :
    (s.setRegion g x).refsTo n + (s.region g).refsTo n = s.refsTo n + x.refsTo n := by
  have hsum : (∑ h, ((s.setRegion g x).region h).refsTo n) + (s.region g).refsTo n =
      (∑ h, (s.region h).refsTo n) + x.refsTo n := by
    rw [← Finset.add_sum_erase _ _ (Finset.mem_univ g), ← Finset.add_sum_erase _ (fun h => (s.region h).refsTo n)
      (Finset.mem_univ g)]
    have hrest : ∑ h ∈ Finset.univ.erase g, ((s.setRegion g x).region h).refsTo n =
        ∑ h ∈ Finset.univ.erase g, (s.region h).refsTo n := by
      refine Finset.sum_congr rfl fun h hh => ?_
      rw [State.setRegion_region, if_neg (Finset.ne_of_mem_erase hh).symm]
    rw [hrest, State.setRegion_region_self]
    omega
  unfold State.refsTo
  rw [State.setRegion_capture]
  omega

/-! ## What does not bear on the pool -/

/-- Two states hold the same pool, the same capture ring and the same queues. -/
structure SamePool (s t : State) : Prop where
  pool : t.pool = s.pool
  capture : t.capture = s.capture
  queues : ∀ g, (t.region g).mainQ = (s.region g).mainQ ∧ (t.region g).expQ = (s.region g).expQ

theorem SamePool.refl (s : State) : SamePool s s := ⟨rfl, rfl, fun _ => ⟨rfl, rfl⟩⟩

theorem SamePool.trans {s t u : State} (h : SamePool s t) (h' : SamePool t u) : SamePool s u :=
  ⟨h'.pool.trans h.pool, h'.capture.trans h.capture,
    fun g => ⟨(h'.queues g).1.trans (h.queues g).1, (h'.queues g).2.trans (h.queues g).2⟩⟩

theorem SamePool.of_regions {s t : State} (hp : t.pool = s.pool) (hc : t.capture = s.capture) (hr : t.regions = s.regions) :
    SamePool s t := by
  refine ⟨hp, hc, fun g => ?_⟩
  have : t.region g = s.region g := congrArg (fun x : Vector Region 8 => x[g]) hr
  rw [this]
  exact ⟨rfl, rfl⟩

/-- A region whose queues stay may change otherwise. -/
theorem SamePool.setRegion (s : State) (g : RegionId) {x : Region} (hm : x.mainQ = (s.region g).mainQ)
    (he : x.expQ = (s.region g).expQ) : SamePool s (s.setRegion g x) := by
  refine ⟨rfl, rfl, fun h => ?_⟩
  rw [State.setRegion_region]
  split
  · next hg => rw [← hg]; exact ⟨hm, he⟩
  · exact ⟨rfl, rfl⟩

theorem SamePool.refsTo {s t : State} (h : SamePool s t) (n : Nat) : t.refsTo n = s.refsTo n := by
  unfold State.refsTo Region.refsTo
  simp only [h.capture, h.queues]

theorem SamePool.poolOk {s t : State} (h : SamePool s t) (hs : s.poolOk) : t.poolOk := by
  rw [poolOk_iff] at hs ⊢
  rw [h.pool]
  exact hs.congr h.refsTo

theorem SamePool.foldl {α : Type} {f : State → α → State} (h : ∀ t x, SamePool t (f t x)) (l : List α) (s : State) :
    SamePool s (l.foldl f s) :=
  List.foldlRecOn l f (motive := SamePool s) (.refl s) fun t ht x _ => ht.trans (h t x)

theorem OnlyHealth.samePool {s t : State} (h : OnlyHealth s t) : SamePool s t :=
  .of_regions (congrArg State.pool h.1 :) (congrArg State.capture h.1 :) (congrArg State.regions h.1 :)

theorem OnlySwitching.samePool {s t : State} (h : OnlySwitching s t) : SamePool s t := h.health.samePool

/-! ## References that entries give up -/

/-- The references of entries that have left their queues are dropped. -/
theorem releaseAll_poolOk {s t : State} {es : List QEntry} (hs : s.poolOk) (hp : t.pool = s.pool)
    (hleft : ∀ n, t.refsTo n + (es.map QEntry.buf).count n = s.refsTo n) : (releaseAll es t).poolOk := by
  rw [poolOk_iff] at hs ⊢
  have hpool : (releaseAll es t).pool = (es.map QEntry.buf).foldl (fun p id => dropRef id p) s.pool := by
    rw [List.foldl_map, ← hp]
    rfl
  have hrefs : (releaseAll es t).refsTo = t.refsTo := rfl
  rw [hpool, hrefs]
  refine (hs.drop_all _).congr fun n => ?_
  have := hleft n
  omega

/-- Entries leave the queues of one region, and their references are dropped. -/
theorem releaseAll_setRegion_poolOk {s : State} {g : RegionId} {x : Region} {es : List QEntry} (hs : s.poolOk)
    (hleft : ∀ n, x.refsTo n + (es.map QEntry.buf).count n = (s.region g).refsTo n) :
    (releaseAll es (s.setRegion g x)).poolOk :=
  releaseAll_poolOk hs rfl fun n => by
    have := s.refsTo_setRegion g x n
    have := hleft n
    omega

theorem releaseCapture_poolOk {s : State} (n : Nat) (hs : s.poolOk) : (releaseCapture n s).poolOk := by
  rw [poolOk_iff] at hs ⊢
  have hpool : (releaseCapture n s).pool =
      ((s.capture.take n).map CapEntry.buf).foldl (fun p id => dropRef id p) s.pool := by
    rw [List.foldl_map]
    rfl
  rw [hpool]
  refine (hs.drop_all _).congr fun m => ?_
  have hsplit : (s.capture.map CapEntry.buf).count m =
      ((s.capture.take n).map CapEntry.buf).count m + ((s.capture.drop n).map CapEntry.buf).count m := by
    rw [← List.count_append, ← List.map_append, List.take_append_drop]
  have hleft : (releaseCapture n s).refsTo m =
      (∑ g, (s.region g).refsTo m) + ((s.capture.drop n).map CapEntry.buf).count m := rfl
  rw [hleft, State.refsTo, hsplit]
  omega

/-- A part that has just been reset has no buffer in use. -/
theorem resetPart_poolOk (cause : ResetCause) (s : State) : (resetPart cause s).poolOk := by
  have hnone : ∀ n, (resetPart cause s).refsTo n = 0 := by
    intro n
    have hregion : ∀ g, (resetPart cause s).region g = Region.reset := fun g => Vector.getElem_replicate g.isLt
    unfold State.refsTo
    simp only [hregion]
    simp [Region.refsTo, Region.reset, resetPart, State.resetBy]
  rw [poolOk_iff]
  refine ⟨?_, ?_, ?_, fun n hn => absurd hn (by simp [hnone n])⟩ <;> simp [resetPart, State.resetBy]

end Sys2Proof.Machine
end

section
/-!
PROOFS. Matching a packet to its component (R50), and what the steps before its copies are made change (R52 to R56, R67,
R72).
-/
namespace Sys2Proof.Machine

/-! ## Matching (R50) -/

/-- Whether an entry of the component table is a candidate for an identifier on a port. -/
def State.isCandidate (s : State) (p : PortId) (i : Ident) (d : ComponentId) (e : Component) : Prop :=
  s.component d = some e ∧ e.port = p ∧ i &&& e.mask = e.ident

/-- Of the candidates among some entries, one has the most mask bits, and among equals the lowest number. -/
def State.isBest (s : State) (p : PortId) (i : Ident) (l : List ComponentId) (c : ComponentId) (k : Component) : Prop :=
  c ∈ l ∧ s.isCandidate p i c k ∧ ∀ d ∈ l, ∀ e, s.isCandidate p i d e →
    maskBits e.mask < maskBits k.mask ∨ (maskBits e.mask = maskBits k.mask ∧ c ≤ d)

variable {s : State} {p : PortId} {i : Ident}

theorem better_other {best : Option (ComponentId × Component)} {c : ComponentId} (h : ∀ k, ¬ s.isCandidate p i c k) :
    s.better p i best c = best := by
  unfold State.better
  split
  · rfl
  · next k hk =>
    have hno := h k
    refine if_neg fun hc => hno ⟨hk, ?_⟩
    simpa [Component.candidate] using hc

theorem better_first {c : ComponentId} {k : Component} (h : s.isCandidate p i c k) :
    s.better p i none c = some (c, k) := by
  obtain ⟨hk, hport, hident⟩ := h
  simp [State.better, hk, Component.candidate, hport, hident]

theorem better_next {b : ComponentId × Component} {c : ComponentId} {k : Component} (h : s.isCandidate p i c k) :
    s.better p i (some b) c = if maskBits b.2.mask < maskBits k.mask then some (c, k) else some b := by
  obtain ⟨hk, hport, hident⟩ := h
  simp [State.better, hk, Component.candidate, hport, hident]

/-- What a search over some entries has found: the best candidate among them, or none where there is none. -/
def State.found (s : State) (p : PortId) (i : Ident) (l : List ComponentId) : Option (ComponentId × Component) → Prop
  | none => ∀ d ∈ l, ∀ e, ¬ s.isCandidate p i d e
  | some b => s.isBest p i l b.1 b.2

/-- An entry that is no candidate leaves what the search has found. -/
theorem State.found.skip {l : List ComponentId} {best : Option (ComponentId × Component)} {c : ComponentId}
    (h : s.found p i l best) (hc : ∀ k, ¬ s.isCandidate p i c k) : s.found p i (l ++ [c]) best := by
  have hskip : ∀ d ∈ l ++ [c], ∀ e, s.isCandidate p i d e → d ∈ l := by
    intro d hd e he
    rcases List.mem_append.1 hd with hd | hd
    · exact hd
    · exact absurd (List.mem_singleton.1 hd ▸ he) (hc e)
  cases best with
  | none => exact fun d hd e he => h d (hskip d hd e he) e he
  | some b =>
    obtain ⟨hb, hcand, hmost⟩ := h
    exact ⟨List.mem_append_left _ hb, hcand, fun d hd e he => hmost d (hskip d hd e he) e he⟩

/-- A candidate that comes after the others is the best where none of them has as many mask bits. -/
theorem State.isBest.last {l : List ComponentId} {c : ComponentId} {k : Component} (hk : s.isCandidate p i c k)
    (hl : ∀ d ∈ l, ∀ e, s.isCandidate p i d e → maskBits e.mask < maskBits k.mask) : s.isBest p i (l ++ [c]) c k := by
  refine ⟨by simp, hk, fun d hd e he => ?_⟩
  rcases List.mem_append.1 hd with hd | hd
  · exact .inl (hl d hd e he)
  · obtain rfl := List.mem_singleton.1 hd
    obtain rfl : e = k := Option.some.inj (he.1.symm.trans hk.1)
    exact .inr ⟨rfl, le_refl _⟩

/-- A candidate that comes after the best and has no more mask bits does not replace it. -/
theorem State.isBest.keep {l : List ComponentId} {b c : ComponentId} {kb k : Component} (h : s.isBest p i l b kb)
    (hk : s.isCandidate p i c k) (hbc : b ≤ c) (hbits : maskBits k.mask ≤ maskBits kb.mask) :
    s.isBest p i (l ++ [c]) b kb := by
  obtain ⟨hb, hcand, hmost⟩ := h
  refine ⟨List.mem_append_left _ hb, hcand, fun d hd e he => ?_⟩
  rcases List.mem_append.1 hd with hd | hd
  · exact hmost d hd e he
  · obtain rfl := List.mem_singleton.1 hd
    obtain rfl : e = k := Option.some.inj (he.1.symm.trans hk.1)
    rcases Nat.lt_or_eq_of_le hbits with h | h
    · exact .inl h
    · exact .inr ⟨h, hbc⟩

/-- The search over entries in ascending order finds the best candidate among them. -/
theorem better_fold {l : List ComponentId} (hl : l.Pairwise (· < ·)) : s.found p i l (l.foldl (s.better p i) none) := by
  induction l using List.reverseRecOn with
  | nil => exact fun d hd => absurd hd (by simp)
  | append_singleton l c ih =>
    obtain ⟨hpre, -, hlast⟩ := List.pairwise_append.1 hl
    replace ih := ih hpre
    rw [List.foldl_append, List.foldl_cons, List.foldl_nil]
    by_cases hc : ∃ k, s.isCandidate p i c k
    · obtain ⟨k, hk⟩ := hc
      cases hbest : l.foldl (s.better p i) none with
      | none =>
        rw [hbest] at ih
        rw [better_first hk]
        exact .last hk fun d hd e he => absurd he (ih d hd e)
      | some b =>
        rw [hbest] at ih
        have ih' : s.isBest p i l b.1 b.2 := ih
        rw [better_next hk]
        by_cases hmore : maskBits b.2.mask < maskBits k.mask
        · rw [if_pos hmore]
          refine .last hk fun d hd e he => ?_
          rcases ih'.2.2 d hd e he with h | ⟨h, -⟩
          · exact h.trans hmore
          · exact h ▸ hmore
        · rw [if_neg hmore]
          exact ih'.keep hk (hlast b.1 ih'.1 c (by simp)).le (Nat.not_lt.1 hmore)
    · have hno : ∀ k, ¬ s.isCandidate p i c k := fun k hk => hc ⟨k, hk⟩
      rw [better_other hno]
      exact ih.skip hno

/-- Two best candidates are one. -/
theorem State.isBest.unique {l : List ComponentId} {c d : ComponentId} {k e : Component} (h : s.isBest p i l c k)
    (h' : s.isBest p i l d e) : c = d ∧ k = e := by
  obtain ⟨hc, hk, hmost⟩ := h
  obtain ⟨hd, he, hmost'⟩ := h'
  have hcd : c = d := by
    rcases hmost d hd e he with h1 | ⟨h1, hcd⟩
    · rcases hmost' c hc k hk with h2 | ⟨h2, -⟩ <;> omega
    · rcases hmost' c hc k hk with h2 | ⟨-, hdc⟩
      · omega
      · exact le_antisymm hcd hdc
  subst hcd
  exact ⟨rfl, Option.some.inj (hk.1.symm.trans he.1)⟩

/-- What matching answers, said once (R50). -/
theorem matching_found (s : State) (p : PortId) (i : Ident) : s.found p i (List.finRange 256) (s.matching p i) :=
  better_fold (List.pairwise_lt_finRange 256)

theorem matching_some_iff {c : ComponentId} {k : Component} :
    s.matching p i = some (c, k) ↔ s.isBest p i (List.finRange 256) c k := by
  have h := matching_found s p i
  cases hm : s.matching p i with
  | none =>
    rw [hm] at h
    exact ⟨fun he => absurd he (by simp), fun hbest => absurd hbest.2.1 (h c (by simp) k)⟩
  | some b =>
    rw [hm] at h
    have hb : s.isBest p i (List.finRange 256) b.1 b.2 := h
    constructor
    · intro he
      obtain rfl := Option.some.inj he
      exact hb
    · intro hbest
      obtain ⟨h1, h2⟩ := hb.unique hbest
      rw [← h1, ← h2]

theorem matching_none_iff : s.matching p i = none ↔ unmatchedOn p i s := by
  refine ⟨fun hm c k hc hp hi => ?_, matching_none⟩
  have h := matching_found s p i
  rw [hm] at h
  exact h c (by simp) k ⟨hc, hp, hi⟩

/-- A packet's component stands in the component table. -/
theorem component_of_matching {c : ComponentId} {k : Component} (h : s.matching p i = some (c, k)) :
    s.component c = some k := (matching_some_iff.1 h).2.1.1

/-- Matching reads the component table alone. -/
theorem matching_congr {t : State} (h : t.components = s.components) : t.matching p i = s.matching p i := by
  have hb : t.better p i = s.better p i := by
    funext best c
    have : t.component c = s.component c := congrArg (fun x : Vector (Option Component) 256 => x[c]) h
    unfold State.better
    rw [this]
  unfold State.matching
  rw [hb]

end Sys2Proof.Machine
end

section
/-!
PROOFS. The steps before a packet's copies are made: the continuity check, the meter, and what each of them leaves alone
(R52, R53, R67, R71, R72, R88).
-/
namespace Sys2Proof.Machine

variable {s t : State} {p : PortId} {a : Arrived} {c : ComponentId} {k : Component} {q : Packet}

/-! ## The port's flag (R37, R39, R53) -/

/-- The state with the CONTINUITY flag of a port set. -/
def gapFlagged (p : PortId) (s : State) : State :=
  s.setPort p { s.port p with flags := { (s.port p).flags with continuity := true } }

/-- PORT_STATE is sent where the flag was clear. -/
theorem raiseFlag_continuity (p : PortId) (s : State) :
    raiseFlag p PortFlags.withContinuity s =
      if (s.port p).flags.continuity then gapFlagged p s
      else notifyMgmt (portNotice p (gapFlagged p s)) (gapFlagged p s) := by
  have hsame : (s.port p).flags.withContinuity = (s.port p).flags ↔ (s.port p).flags.continuity = true := by
    obtain ⟨-, -, b, -⟩ := (s.port p).flags
    cases b <;> simp [PortFlags.withContinuity]
  unfold raiseFlag
  simp only [hsame]
  rfl

theorem raiseFlag_continuity_only (p : PortId) (s : State) :
    OnlyReports (gapFlagged p s) (raiseFlag p PortFlags.withContinuity s) := by
  rw [raiseFlag_continuity]
  split
  · exact .refl _
  · exact notifyMgmt_only _ _

/-! ## The continuity check (R52, R53, R88) -/

/-- A variant after a continuity gap of its anchor component (R88). -/
def VariantDef.gapped (d : VariantDef) (now : Clock) : VariantDef :=
  if d.health = .recovering then { d with recoverTimer := some (d.recoverNow now) } else d

theorem anchorGap_variants_only (v : VariantId) (s : State) : anchorGap v s = { s with variants := (anchorGap v s).variants } := by
  unfold anchorGap
  split
  · rfl
  · split <;> rfl

/-- A gap restarts the recovery timer of a RECOVERING variant, and no other variant changes (R88). -/
theorem anchorGap_variant (v : VariantId) (s : State) (w : VariantId) :
    (anchorGap v s).variant w = if v = w then (s.variant w).map (VariantDef.gapped · s.clock) else s.variant w := by
  unfold anchorGap VariantDef.gapped
  cases hv : s.variant v with
  | none =>
    by_cases h : v = w
    · subst h
      simp [hv]
    · simp [h]
  | some d =>
    by_cases h : v = w
    · subst h
      by_cases hd : d.health = .recovering <;> simp [hv, hd]
    · by_cases hd : d.health = .recovering <;> simp [h, hd]

/-- The restart of R88 for the variant, if any, whose anchor component a binding makes. -/
def restartAnchored (b : Binding) (s : State) : State :=
  match s.anchoring b with
  | some v => anchorGap v s
  | none => s

theorem restartAnchored_only (b : Binding) (s : State) :
    restartAnchored b s = { s with variants := (restartAnchored b s).variants } := by
  unfold restartAnchored
  split
  · exact anchorGap_variants_only _ s
  · rfl

theorem restartAnchored_variant (b : Binding) (s : State) (w : VariantId) :
    (restartAnchored b s).variant w =
      if s.anchoring b = some w then (s.variant w).map (VariantDef.gapped · s.clock) else s.variant w := by
  unfold restartAnchored
  cases s.anchoring b with
  | none => simp
  | some v => simp [anchorGap_variant]

/-- The state after a packet's count has been noted in its component. -/
def countNoted (c : ComponentId) (k : Component) (q : Packet) (s : State) : State :=
  s.setComponent c (some { k with lastSeen := some (continuity q) })

/-- The state after a gap has been reported, but for the restart of R88. -/
def gapReported (p : PortId) (c : ComponentId) (s : State) : State :=
  raiseEvent .continuityGap (.component c) (raiseFlag p PortFlags.withContinuity s)

theorem gapReported_only (p : PortId) (c : ComponentId) (s : State) : OnlyReports (gapFlagged p s) (gapReported p c s) :=
  (raiseFlag_continuity_only p s).trans (raiseEvent_only _ _ _)

theorem checkContinuity_gap (h : isGap k.lastSeen q = true) :
    checkContinuity p c k q s = restartAnchored k.binding (gapReported p c (countNoted c k q s)) := by
  unfold checkContinuity
  rw [if_pos h]
  rfl

theorem checkContinuity_steady (h : isGap k.lastSeen q = false) : checkContinuity p c k q s = countNoted c k q s := by
  simp [checkContinuity, countNoted, h]

/-- The state in which a packet's count has been noted and a gap flagged. -/
def checked (p : PortId) (c : ComponentId) (k : Component) (q : Packet) (s : State) : State :=
  if isGap k.lastSeen q then gapFlagged p (countNoted c k q s) else countNoted c k q s

theorem OnlyReports.setVariants {v : Vector (Option VariantDef) 48} (h : OnlyReports s t) :
    OnlyReports { s with variants := v } { t with variants := v } := by
  obtain ⟨hst, hmgmt, hcue⟩ := h
  exact ⟨congrArg (fun x : State => { x with variants := v }) hst, hmgmt, hcue⟩

/-- Beside the count and the flag, the check changes variants and reports alone. -/
theorem checkContinuity_only (p : PortId) (c : ComponentId) (k : Component) (q : Packet) (s : State) :
    OnlyReports { checked p c k q s with variants := (checkContinuity p c k q s).variants } (checkContinuity p c k q s) := by
  unfold checked
  cases hg : isGap k.lastSeen q with
  | false =>
    rw [checkContinuity_steady hg]
    exact .refl _
  | true =>
    rw [checkContinuity_gap hg, restartAnchored_only]
    exact (gapReported_only p c _).setVariants

/-- A gap is detected as NOTE (R53). -/
theorem checkContinuity_detects (h : isGap k.lastSeen q = true) : (checkContinuity p c k q s).detected.note = true := by
  rw [checkContinuity_gap h, restartAnchored_only]
  rfl

/-- Of the variants, the check moves the one whose anchor component has a gap (R88). -/
theorem checkContinuity_variant (w : VariantId) :
    (checkContinuity p c k q s).variant w =
      if isGap k.lastSeen q = true ∧ s.anchoring k.binding = some w then
        (s.variant w).map (VariantDef.gapped · s.clock)
      else s.variant w := by
  cases hg : isGap k.lastSeen q with
  | false => rw [checkContinuity_steady hg]; simp [countNoted]
  | true =>
    have hu := gapReported_only p c (countNoted c k q s)
    have hclock : (gapReported p c (countNoted c k q s)).clock = s.clock := (congrArg State.clock hu.1 :)
    have hvariant : (gapReported p c (countNoted c k q s)).variant w = s.variant w :=
      (congrArg (fun x : State => x.variant w) hu.1 :)
    have hanchor : (gapReported p c (countNoted c k q s)).anchoring k.binding = s.anchoring k.binding :=
      (congrArg (fun x : State => x.anchoring k.binding) hu.1 :)
    rw [checkContinuity_gap hg, restartAnchored_variant, hclock, hvariant, hanchor]
    simp

/-! ## The meter (R67, R71, R72) -/

theorem judge_snd (d : MeterDef) (q : Packet) (arrival : Clock) :
    (d.judge q arrival).2 = decide (d.cost q ≤ (d.refill arrival).credit) := by
  unfold MeterDef.judge
  by_cases h : d.cost q ≤ (d.refill arrival).credit <;> simp [h]

/-- What the meter of a component does, said once: without a DEFINED one nothing; a packet that conforms lowers the
credit; one that does not sets EXCESS, and goes on with METER_EXCESS where it is ESSENTIAL (R67, R71, R72). -/
theorem meterPacket_cases (k : Component) (a : Arrived) (s : State) :
    ((∀ m d, k.meter = some m → (s.meter m).defn ≠ some d) ∧ meterPacket k a s = (true, s)) ∨
    ∃ m d new, k.meter = some m ∧ (s.meter m).defn = some d ∧
      ((d.cost a.packet ≤ (d.refill a.arrival).credit ∧
          meterPacket k a s = (true, s.setMeter m { s.meter m with defn := some new })) ∨
        ((d.refill a.arrival).credit < d.cost a.packet ∧
          (k.cls = .essential ∧ meterPacket k a s =
              (true, raiseEvent .meterExcess (.meter m) (s.setMeter m { defn := some new, excess := true })) ∨
            k.cls = .expendable ∧ meterPacket k a s = (false, s.setMeter m { defn := some new, excess := true })))) := by
  unfold meterPacket
  cases hm : k.meter with
  | none => exact .inl ⟨fun m d h => absurd h (by simp), rfl⟩
  | some m =>
    cases hd : (s.meter m).defn with
    | none =>
      refine .inl ⟨fun n d h => ?_, by simp only [hd]⟩
      obtain rfl := Option.some.inj h
      simp [hd]
    | some d =>
      refine .inr ⟨m, d, (d.judge a.packet a.arrival).1, rfl, hd, ?_⟩
      simp only [hd, judge_snd]
      generalize (d.judge a.packet a.arrival).1 = new
      by_cases hc : d.cost a.packet ≤ (d.refill a.arrival).credit
      · exact .inl ⟨hc, by rw [decide_eq_true hc, if_pos rfl]⟩
      · refine .inr ⟨Nat.not_le.1 hc, ?_⟩
        rw [decide_eq_false hc, if_neg Bool.false_ne_true]
        cases hk : k.cls with
        | essential => exact .inl ⟨rfl, rfl⟩
        | expendable => exact .inr ⟨rfl, rfl⟩

/-- A packet goes on exactly where the meter of its component does not discard it. -/
theorem meterPacket_fst : (meterPacket k a s).1 = true ↔ s.passesMeter k a := by
  unfold State.passesMeter
  rcases meterPacket_cases k a s with ⟨hnone, he⟩ | ⟨m, d, new, hm, hd, ⟨hc, he⟩ | ⟨hc, ⟨hk, he⟩ | ⟨hk, he⟩⟩⟩ <;> rw [he]
  · exact ⟨fun _ => .inr fun m d hm hd => absurd hd (hnone m d hm), fun _ => rfl⟩
  · refine ⟨fun _ => .inr fun n e hn he => ?_, fun _ => rfl⟩
    obtain rfl := Option.some.inj (hm.symm.trans hn)
    obtain rfl := Option.some.inj (hd.symm.trans he)
    exact hc
  · exact ⟨fun _ => .inl hk, fun _ => rfl⟩
  · refine ⟨fun h => absurd h Bool.false_ne_true, fun h => ?_⟩
    rcases h with h | h
    · exact absurd (hk.symm.trans h) (by decide)
    · exact absurd (h m d hm hd) (Nat.not_le.2 hc)

/-- A component's meter and reports are all that the meter's decision may change. -/
theorem meterPacket_only (k : Component) (a : Arrived) (s : State) :
    OnlyReports { s with meters := (meterPacket k a s).2.meters } (meterPacket k a s).2 := by
  rcases meterPacket_cases k a s with ⟨-, he⟩ | ⟨m, d, new, -, -, ⟨-, he⟩ | ⟨-, ⟨-, he⟩ | ⟨-, he⟩⟩⟩ <;> rw [he]
  · exact .refl _
  · exact .refl _
  · exact raiseEvent_only (s.setMeter _ _) _ _
  · exact .refl _

/-- A meter that is not the component's, or that is UNDEFINED, stands as it was. -/
theorem meterPacket_meter {n : MeterId} (h : k.meter ≠ some n ∨ (s.meter n).defn = none) :
    (meterPacket k a s).2.meter n = s.meter n := by
  rcases meterPacket_cases k a s with ⟨-, he⟩ | ⟨m, d, new, hm, hd, hcase⟩
  · rw [he]
  · have hne : m ≠ n := by
      rintro rfl
      rcases h with h | h
      · exact h hm
      · exact absurd (hd.symm.trans h) (by simp)
    rcases hcase with ⟨-, he⟩ | ⟨-, ⟨-, he⟩ | ⟨-, he⟩⟩ <;> simp [he, hne]

/-- A packet that does not conform and goes on is detected as NOTE (R72). -/
theorem meterPacket_detects {m : MeterId} {d : MeterDef} (hm : k.meter = some m) (hd : (s.meter m).defn = some d)
    (hc : (d.refill a.arrival).credit < d.cost a.packet) (hk : k.cls = .essential) :
    (meterPacket k a s).2.detected.note = true := by
  rcases meterPacket_cases k a s with ⟨hnone, -⟩ | ⟨n, e, new, hn, he, ⟨hle, -⟩ | ⟨-, ⟨-, h⟩ | ⟨hk', -⟩⟩⟩
  · exact absurd hd (hnone m d hm)
  · obtain rfl := Option.some.inj (hm.symm.trans hn)
    obtain rfl := Option.some.inj (hd.symm.trans he)
    exact absurd hle (Nat.not_le.2 hc)
  · rw [h]
    rfl
  · exact absurd (hk'.symm.trans hk) (by decide)

/-- A detected flag is not cleared by a meter's decision. -/
theorem meterPacket_note (h : s.detected.note = true) : (meterPacket k a s).2.detected.note = true := by
  rcases meterPacket_cases k a s with ⟨-, he⟩ | ⟨m, d, new, -, -, ⟨-, he⟩ | ⟨-, ⟨-, he⟩ | ⟨-, he⟩⟩⟩ <;> rw [he]
  · exact h
  · exact h
  · rfl
  · exact h

end Sys2Proof.Machine
end

section
/-!
PROOFS. The reports of an anchor packet: what its arrival does to the variant and to the routes that fell back, and what its
mark does to the routes that wait for it (R55, R56, R87, R123, R128).
-/
namespace Sys2Proof.Machine

variable {s t : State} {g : RegionId} {sl : SlotId} {v : VariantId} {d : VariantDef} {b : Binding} {q : Packet}

/-! ## One route after another -/

/-- Events that each move one route by a rule that reads the clock and the variants alone, taken for different routes one
after another, move those routes by that rule and no others. -/
theorem foldl_route {α : Type} {f : State → α → State} {key : α → RegionId × SlotId} {F : Route → Route}
    (hf : ∀ u x, OnlySwitching s u → OnlySwitching u (f u x) ∧
      ∀ h y, (f u x).route h y = if key x = (h, y) then F (u.route h y) else u.route h y)
    {l : List α} (hl : (l.map key).Nodup) (ht : OnlySwitching s t) (h : RegionId) (y : SlotId) :
    (l.foldl f t).route h y = if (h, y) ∈ l.map key then F (t.route h y) else t.route h y := by
  induction l generalizing t with
  | nil => simp
  | cons x l ih =>
    rw [List.map_cons, List.nodup_cons] at hl
    obtain ⟨honly, hroute⟩ := hf t x ht
    rw [List.foldl_cons, ih hl.2 (ht.trans honly), hroute]
    by_cases hx : key x = (h, y)
    · have hnot : (h, y) ∉ l.map key := hx ▸ hl.1
      rw [if_neg hnot, if_pos hx, if_pos (by simp [hx])]
    · have hiff : (h, y) ∈ (x :: l).map key ↔ (h, y) ∈ l.map key := by simp [Ne.symm hx]
      simp only [if_neg hx, hiff]

/-! ## A mark (R123) -/

/-- The outcome that a mark of a source brings the wait of a route: SWITCHED where a splice waits for that source. -/
def Route.markGiven (r : Route) (x : Target) : Option Given :=
  if r.state.code = 1 ∧ r.state.target = some x then r.waiter.map fun w => (.switched, w) else none

/-- What a mark does to one route, said once: a route that waits for the source switches to it and gives its outcome; any
other stands as it was. -/
theorem markRoute_cases (s : State) (sl : SlotId) (x : Target) (g : RegionId) :
    markRoute sl x s g =
        commitRoute g sl ((s.route g sl).marked x) .mark ((s.route g sl).markGiven x) none s ∨
      ((s.route g sl).marked x = s.route g sl ∧ (s.route g sl).markGiven x = none ∧ markRoute sl x s g = s) := by
  unfold markRoute Route.marked Route.markGiven
  dsimp only
  cases hr : (s.route g sl).state with
  | pendingSplice w c dl =>
    by_cases hw : w = x
    · subst hw
      exact .inl (by simp [RouteState.code, RouteState.target])
    · exact .inr (by simp [hw, RouteState.target])
  | returning w dl =>
    by_cases hw : x = .variant w
    · subst hw
      exact .inl (by simp [RouteState.code])
    · exact .inr (by simp [hw, RouteState.code])
  | steady | awaitConfirm w c dl | fallback => exact .inr (by simp [RouteState.code])

theorem markRoute_route (x : Target) (h : RegionId) (y : SlotId) :
    (markRoute sl x s g).route h y = if (g, sl) = (h, y) then (s.route h y).marked x else s.route h y := by
  simp only [Prod.mk.injEq]
  rcases markRoute_cases s sl x g with he | ⟨hm, -, he⟩
  · rw [he, commitRoute_route]
    split
    · next e => rw [e.1, e.2]
    · rfl
  · rw [he]
    split
    · next e => rw [← e.1, ← e.2, hm]
    · rfl

/-- A mark reaches the routes of its slot and no others. -/
theorem takeMark_route (x : Target) (h : RegionId) (y : SlotId) :
    (takeMark sl x s).route h y = if y = sl then (s.route h y).marked x else s.route h y := by
  have hnodup : ((List.finRange 8).map fun g => (g, sl)).Nodup :=
    (List.nodup_finRange 8).map fun _ _ e => (Prod.mk.inj e).1
  have hf : ∀ u g, OnlySwitching s u → OnlySwitching u (markRoute sl x u g) ∧
      ∀ h y, (markRoute sl x u g).route h y = if (g, sl) = (h, y) then (u.route h y).marked x else u.route h y :=
    fun u g _ => ⟨markRoute_only u sl x g, fun h y => markRoute_route x h y⟩
  have hmem : (h, y) ∈ (List.finRange 8).map (fun g => (g, sl)) ↔ y = sl := by simp [eq_comm]
  rw [takeMark, foldl_route (F := fun r => r.marked x) hf hnodup (.refl s)]
  simp only [hmem]

theorem markRoute_detected (x : Target) : (markRoute sl x s g).detected = s.detected := by
  rcases markRoute_cases s sl x g with he | ⟨-, -, he⟩ <;> rw [he]
  exact commitRoute_detected _ _ _ _ _ _ _

theorem takeMark_detected (x : Target) : (takeMark sl x s).detected = s.detected :=
  foldl_detected _ (fun _ _ => markRoute_detected x) _

/-! ## A variant that becomes HEALTHY (R128) -/

theorem SameSchedule.refl (s : State) : SameSchedule s s := ⟨rfl, rfl, rfl, rfl, rfl⟩

theorem SameSchedule.trans {s t u : State} (h : SameSchedule s t) (h' : SameSchedule t u) : SameSchedule s u :=
  ⟨h'.cues.trans h.cues, h'.insertion.trans h.insertion, h'.changes.trans h.changes, h'.falling.trans h.falling,
    h'.station.trans h.station⟩

/-- A route event that gives no outcome leaves the schedule. -/
theorem commitRoute_none_sameSchedule (s : State) (g : RegionId) (sl : SlotId) (new : Route) (c : RouteCause) :
    SameSchedule s (commitRoute g sl new c none none s) := by
  obtain ⟨h1, h2, h3, h4, h5⟩ := notifyRoute_sameSchedule g sl (s.route g sl) new c none none (s.setRoute g sl new)
  exact ⟨h1, h2, h3, h4, h5⟩

theorem returning_recovered (hv : s.variant v = some d) {r : Route} (hr : r.state = .fallback) (hi : r.intended = .variant v) :
    s.returning v r = r.recovered v d s.clock := by
  have h0 : s.returnTicks v = d.returnMs * 27000 := by simp [State.returnTicks, hv, msTicks, Config.ticksPerMs]
  unfold State.returning Route.recovered
  rw [h0, if_pos (And.intro hr hi)]
  by_cases hz : d.returnMs = 0 <;> simp [hz]

/-- What a recovery does to one route, said once. -/
theorem healthyRoute_cases (hv : s.variant v = some d) (g : RegionId) (sl : SlotId) :
    healthyRoute v s (g, sl) = commitRoute g sl ((s.route g sl).recovered v d s.clock) .healthy none none s ∨
      ((s.route g sl).recovered v d s.clock = s.route g sl ∧ healthyRoute v s (g, sl) = s) := by
  by_cases h : (s.route g sl).state = .fallback ∧ (s.route g sl).intended = .variant v
  · refine .inl ?_
    rw [← returning_recovered hv h.1 h.2]
    simp [healthyRoute, h.1, h.2]
  · refine .inr ⟨if_neg h, ?_⟩
    unfold healthyRoute
    cases hr : (s.route g sl).state with
    | fallback => simp [hr, show ¬ (s.route g sl).intended = .variant v from fun hi => h ⟨hr, hi⟩]
    | steady | pendingSplice w c dl | awaitConfirm w c dl | returning w dl => simp [hr]

theorem healthyRoute_route (hv : s.variant v = some d) (x : RegionId × SlotId) (h : RegionId) (y : SlotId) :
    (healthyRoute v s x).route h y = if x = (h, y) then (s.route h y).recovered v d s.clock else s.route h y := by
  obtain ⟨g, sl⟩ := x
  simp only [Prod.mk.injEq]
  rcases healthyRoute_cases hv g sl with he | ⟨hm, he⟩
  · rw [he, commitRoute_route]
    split
    · next e => rw [e.1, e.2]
    · rfl
  · rw [he]
    split
    · next e => rw [← e.1, ← e.2, hm]
    · rfl

theorem healthyRoute_sameSchedule (hv : s.variant v = some d) (x : RegionId × SlotId) :
    SameSchedule s (healthyRoute v s x) := by
  rcases healthyRoute_cases hv x.1 x.2 with he | ⟨-, he⟩ <;> rw [he]
  · exact commitRoute_none_sameSchedule _ _ _ _ _
  · exact .refl s

theorem healthyRoute_detected (hv : s.variant v = some d) (x : RegionId × SlotId) :
    (healthyRoute v s x).detected = s.detected := by
  rcases healthyRoute_cases hv x.1 x.2 with he | ⟨-, he⟩ <;> rw [he]
  exact commitRoute_detected _ _ _ _ _ _ _

theorem allRoutes_nodup : allRoutes.Nodup := by
  refine List.nodup_flatMap.2 ⟨fun g _ => (List.nodup_finRange 24).map fun _ _ e => (Prod.mk.inj e).2, ?_⟩
  refine (List.nodup_finRange 8).imp fun hne => ?_
  simp only [Function.onFun, List.disjoint_left, List.mem_map]
  rintro x ⟨_, _, rfl⟩ ⟨_, _, e⟩
  exact hne (Prod.mk.inj e).1.symm

theorem mem_allRoutes (x : RegionId × SlotId) : x ∈ allRoutes := by
  simp [allRoutes]

/-- The routes act on a recovery each by itself, and the schedule and the detected flags stand. -/
theorem foldl_healthyRoute (hv : s.variant v = some d) :
    (∀ h y, (allRoutes.foldl (healthyRoute v) s).route h y = (s.route h y).recovered v d s.clock) ∧
      SameSchedule s (allRoutes.foldl (healthyRoute v) s) ∧ (allRoutes.foldl (healthyRoute v) s).detected = s.detected := by
  have hvar : ∀ u, OnlySwitching s u → u.variant v = some d := fun u hu =>
    (congrArg (fun x : State => x.variant v) hu.1 :).trans hv
  have hclock : ∀ u, OnlySwitching s u → u.clock = s.clock := fun u hu => (congrArg State.clock hu.1 :)
  refine ⟨fun h y => ?_, ?_⟩
  · have hf : ∀ u x, OnlySwitching s u → OnlySwitching u (healthyRoute v u x) ∧ ∀ h y,
        (healthyRoute v u x).route h y = if x = (h, y) then (u.route h y).recovered v d s.clock else u.route h y :=
      fun u x hu => ⟨healthyRoute_only u v x, fun h y => by rw [healthyRoute_route (hvar u hu), hclock u hu]⟩
    have hfold := foldl_route (key := id) (F := fun r => r.recovered v d s.clock) hf (l := allRoutes)
      (by rw [List.map_id]; exact allRoutes_nodup) (.refl s) h y
    rw [hfold, List.map_id, if_pos (mem_allRoutes _)]
  · have hstep : OnlySwitching s (allRoutes.foldl (healthyRoute v) s) ∧ SameSchedule s (allRoutes.foldl (healthyRoute v) s) ∧
        (allRoutes.foldl (healthyRoute v) s).detected = s.detected :=
      List.foldlRecOn allRoutes (healthyRoute v)
        (motive := fun u => OnlySwitching s u ∧ SameSchedule s u ∧ u.detected = s.detected)
        ⟨.refl s, .refl s, rfl⟩ fun u ⟨honly, hsame, hdet⟩ x _ =>
          ⟨honly.trans (healthyRoute_only u v x), hsame.trans (healthyRoute_sameSchedule (hvar u honly) x),
            (healthyRoute_detected (hvar u honly) x).trans hdet⟩
    exact hstep.2

/-! ## An anchor arrival (R87) -/

/-- A recovery of a route depends on the variant's return wait alone. -/
theorem Route.recovered_congr {d' : VariantDef} (h : d'.returnMs = d.returnMs) (r : Route) (now : Clock) :
    r.recovered v d' now = r.recovered v d now := by
  unfold Route.recovered
  rw [h]

theorem OnlySwitching.variant (h : OnlySwitching s t) (w : VariantId) : t.variant w = s.variant w :=
  congrArg (fun x : Vector (Option VariantDef) 48 => x[w]) h.variants

/-- One variant takes a record, each route moves by one rule, and the other variants, the schedule and the detected flags
stand. -/
structure MovesVariant (v : VariantId) (d : VariantDef) (F : Route → Route) (s t : State) : Prop where
  variant : ∀ w, t.variant w = if v = w then some d else s.variant w
  route : ∀ h y, t.route h y = F (s.route h y)
  schedule : SameSchedule s t
  detected : t.detected = s.detected

theorem MovesVariant.setVariant (s : State) (v : VariantId) (d : VariantDef) :
    MovesVariant v d id s (s.setVariant v (some d)) :=
  ⟨fun w => State.setVariant_variant s v (some d) w, fun _ _ => rfl, ⟨rfl, rfl, rfl, rfl, rfl⟩, rfl⟩

theorem MovesVariant.notify {F : Route → Route} (h : MovesVariant v d F s t) (x y : Health) (cause : HealthCause) :
    MovesVariant v d F s (notifyHealth v x y cause t) :=
  ⟨h.variant, h.route, ⟨h.schedule.cues, h.schedule.insertion, h.schedule.changes, h.schedule.falling, h.schedule.station⟩,
    h.detected⟩

/-- A variant that becomes HEALTHY takes the timers given, and its routes recover. -/
theorem becomeHealthy_moves (s : State) (v : VariantId) (d : VariantDef) (timer : Option Deadline) (cause : HealthCause) :
    MovesVariant v { d with health := .healthy, starveTimer := timer, recoverTimer := none }
      (fun r => r.recovered v d s.clock) s (becomeHealthy v d timer cause s) := by
  have hmid := (MovesVariant.setVariant s v { d with health := .healthy, starveTimer := timer, recoverTimer := none }).notify
    d.health .healthy cause
  have hclock : (notifyHealth v d.health .healthy cause (s.setVariant v
      (some { d with health := .healthy, starveTimer := timer, recoverTimer := none }))).clock = s.clock := rfl
  unfold becomeHealthy
  dsimp only
  generalize notifyHealth v d.health .healthy cause _ = u at hmid hclock ⊢
  have hv := (hmid.variant v).trans (if_pos rfl)
  obtain ⟨hroute, hsame, hdet⟩ := foldl_healthyRoute hv
  refine ⟨fun w => ?_, fun h y => ?_, hmid.schedule.trans hsame, hdet.trans hmid.detected⟩
  · rw [← hmid.variant w]
    exact (foldl_switching u _ (fun t x => healthyRoute_only t v x) allRoutes).variant w
  · rw [hroute, hmid.route, hclock]
    exact Route.recovered_congr rfl _ _

/-- How an anchor arrival moves the routes: those that fell back from the variant recover where it becomes HEALTHY at once
(R87, R128). -/
def Route.afterArrival (v : VariantId) (d : VariantDef) (err : Bool) (now : Clock) (r : Route) : Route :=
  if d.health = .starved ∧ d.recoverMs = 0 ∧ err = false then r.recovered v d now else r

/-- What an anchor arrival does, said once (R87). -/
theorem anchorArrival_moves (hv : s.variant v = some d) (err : Bool) :
    MovesVariant v (d.arrived err false s.clock) (Route.afterArrival v d err s.clock) s (anchorArrival v err s) := by
  unfold anchorArrival VariantDef.arrived
  rw [hv]
  dsimp only
  cases hh : d.health with
  | healthy =>
    have hF : Route.afterArrival v d err s.clock = id := funext fun r => if_neg (by simp [hh])
    rw [hF]
    exact .setVariant s v _
  | recovering =>
    have hF : Route.afterArrival v d err s.clock = id := funext fun r => if_neg (by simp [hh])
    rw [hF, Bool.or_false]
    exact .setVariant s v _
  | starved =>
    cases err with
    | true =>
      have hF : Route.afterArrival v d true s.clock = id := funext fun r => if_neg (by simp)
      rw [hF]
      refine ⟨fun w => ?_, fun _ _ => rfl, .refl s, rfl⟩
      by_cases e : v = w
      · rw [if_pos e, ← e]
        exact hv
      · exact (if_neg e).symm
    | false =>
      rw [if_neg Bool.false_ne_true, if_neg Bool.false_ne_true]
      by_cases h0 : d.recoverMs = 0
      · have hF : Route.afterArrival v d false s.clock = fun r => r.recovered v d s.clock :=
          funext fun r => if_pos ⟨hh, h0, rfl⟩
        rw [hF, if_pos h0, if_pos h0]
        exact becomeHealthy_moves s v d _ _
      · have hF : Route.afterArrival v d false s.clock = id := funext fun r => if_neg fun e => h0 e.2.1
        rw [hF, if_neg h0, if_neg h0]
        exact (MovesVariant.setVariant s v _).notify _ _ _

/-! ## The sources of which a packet is an anchor packet (R55, R56) -/

/-- The source of an anchor packet depends on the slots and on the variants' slots alone. -/
theorem anchorSource_congr (hslots : t.slots = s.slots)
    (hvar : ∀ w, (t.variant w).map VariantDef.slot = (s.variant w).map VariantDef.slot) (b : Binding) :
    t.anchorSource b = s.anchorSource b := by
  have hslot : ∀ y, t.slot y = s.slot y := fun y => congrArg (fun x : Vector (Option SlotDef) 24 => x[y]) hslots
  unfold State.anchorSource
  cases b with
  | unbound | common mask out => rfl
  | national y r => simp only [hslot]
  | variant w r =>
    have := hvar w
    cases ht : t.variant w <;> cases hs : s.variant w <;> simp_all

theorem anchoring_congr (hslots : t.slots = s.slots)
    (hvar : ∀ w, (t.variant w).map VariantDef.slot = (s.variant w).map VariantDef.slot) (b : Binding) :
    t.anchoring b = s.anchoring b := by
  have hslot : ∀ y, t.slot y = s.slot y := fun y => congrArg (fun x : Vector (Option SlotDef) 24 => x[y]) hslots
  unfold State.anchoring
  cases b with
  | unbound | common mask out | national y r => rfl
  | variant w r =>
    have := hvar w
    cases ht : t.variant w <;> cases hs : s.variant w <;> simp_all

/-- A packet reports the arrival of a variant exactly where it is an anchor packet of it. -/
theorem anchoring_of_anchorSource (b : Binding) :
    s.anchoring b = match s.anchorSource b with
      | some (_, .variant v) => some v
      | some (_, .national) | none => none := by
  unfold State.anchoring State.anchorSource
  cases b with
  | unbound | common mask out => rfl
  | national y r =>
    dsimp only
    cases s.slot y with
    | none => rfl
    | some sd => by_cases h : sd.anchor = r <;> simp [h]
  | variant w r =>
    dsimp only
    cases s.variant w with
    | none => rfl
    | some d =>
      dsimp only
      cases s.slot d.slot with
      | none => rfl
      | some sd => by_cases h : sd.anchor = r <;> simp [h]

end Sys2Proof.Machine
end

section
/-!
PROOFS. The schedule at a mark: each cue on which a route waited for the source gets its outcome, and where no DAILY cue
falls due again at once, the event has no further cue to deal with (R98, R100, R102, R103, R123).
-/
namespace Sys2Proof.Machine

variable {s t : State} {c : Cue} {id : Nat} {g : RegionId} {sl : SlotId} {o : CueOutcome}

/-! ## ACTIVE cues that do not fall due again at once -/

/-- No ACTIVE cue falls due again at once when it completes (R103). -/
def State.activesWait (s : State) : Prop := ∀ c ∈ s.cues, c.state = .active → s.nextWaits c

theorem nextWaits_congr {c' : Cue} (hst : t.station = s.station) (hr : c'.rpt = c.rpt) (hd : c'.due = c.due)
    (h : s.nextWaits c) : t.nextWaits c' := by
  unfold State.nextWaits Cue.nextLate Cue.nextDay at *
  rwa [hst, hr, hd]

theorem nextWaits_of_unnumbered {c' : Cue} (hst : t.station = s.station) (he : c'.unnumbered = c.unnumbered)
    (h : s.nextWaits c) : t.nextWaits c' :=
  nextWaits_congr hst (congrArg Cue.rpt he :) (congrArg Cue.due he :) h

theorem SameSchedule.activesWait (h : SameSchedule s t) (hs : s.activesWait) : t.activesWait := by
  intro c hc ha
  exact nextWaits_congr h.station rfl rfl (hs c (h.cues ▸ hc) ha)

/-- A cue of the schedule after a completion is PENDING, or stood there before. -/
theorem mem_completeCue {y : Cue} (hy : y ∈ (completeCue c s).cues) :
    y.state = .pending ∨ ∃ x ∈ s.cues, x.unnumbered = y.unnumbered := by
  have hocc : y.unnumbered ∈ (completeCue c s).occurrences y.id := mem_cuesOf.2 ⟨y, hy, rfl, rfl⟩
  by_cases hid : c.id = y.id
  · rw [← hid] at hocc
    cases hr : c.rpt with
    | once =>
      rw [completeCue_once hr, removeCue_occurrences_self] at hocc
      exact absurd hocc (by simp)
    | daily =>
      have hself := enterCue_occurrences_self (c.waiting (nextOccurrence s.station c.due).1)
        (notifyBoth (.cueDone c (some (nextOccurrence s.station c.due).1)) s)
      rw [Cue.waiting_id] at hself
      rw [completeCue_daily hr, State.occurrences_falling, hself, List.mem_singleton] at hocc
      exact .inl (Cue.state_of_unnumbered hocc)
  · rw [completeCue_occurrences_ne hid] at hocc
    obtain ⟨x, hx, -, he⟩ := mem_cuesOf.1 hocc
    exact .inr ⟨x, hx, he⟩

/-- A completion that does not fall due again at once leaves the event nothing more to deal with. -/
theorem completeCue_waits (hs : s.activesWait) (hc : s.nextWaits c) :
    (completeCue c s).falling = s.falling ∧ (completeCue c s).activesWait := by
  refine ⟨?_, fun y hy ha => ?_⟩
  · cases hr : c.rpt with
    | once => rw [completeCue_once hr]; rfl
    | daily => rw [completeCue_daily hr, nextOccurrence_waits s c hr hc]; simp
  · rcases mem_completeCue hy with hp | ⟨x, hx, he⟩
    · exact absurd (ha.symm.trans hp) (by decide)
    · exact nextWaits_of_unnumbered (completeCue_only s c).station he.symm
        (hs x hx ((Cue.state_of_unnumbered he).trans ha))

/-- So does an outcome given. -/
theorem recordOutcome_waits (hs : s.activesWait) (id : Nat) (g : RegionId) (o : CueOutcome) :
    (recordOutcome id g o s).falling = s.falling ∧ (recordOutcome id g o s).activesWait := by
  cases hcue : s.cue id with
  | none => simpa [recordOutcome, hcue] using hs
  | some c =>
    obtain ⟨hmem, rfl⟩ := State.cue_some hcue
    cases ha : c.state with
    | pending => simpa [recordOutcome, hcue, ha] using hs
    | active =>
      rw [recordOutcome_active hcue ha]
      have hwaits := hs c hmem ha
      have hmid : ({ s with cues := mapCue c.id (fun _ => c.record g o) s.cues } : State).activesWait := by
        intro y hy hya
        rcases mem_mapCue hy with rfl | ⟨hy, -⟩
        · exact nextWaits_congr (c := c) rfl rfl rfl hwaits
        · exact hs y hy hya
      split
      · exact completeCue_waits hmid (nextWaits_congr (c := c) (s := s) rfl rfl rfl hwaits)
      · exact ⟨rfl, hmid⟩

theorem giveOutcome_waits (hs : s.activesWait) (g : RegionId) (x : Option Given) :
    (giveOutcome g x s).falling = s.falling ∧ (giveOutcome g x s).activesWait := by
  unfold giveOutcome
  split
  · exact recordOutcome_waits hs _ _ _
  · exact ⟨rfl, hs⟩
  · exact ⟨rfl, hs⟩

/-- A route event that ends no earlier wait moves in the schedule what its own outcome moves. -/
theorem commitRoute_gives (s : State) (g : RegionId) (sl : SlotId) (new : Route) (cause : RouteCause) (x : Option Given) :
    ∃ u, SameSchedule s u ∧ commitRoute g sl new cause x none s = giveOutcome g x u := by
  refine ⟨_, ?_, rfl⟩
  obtain ⟨h1, h2, h3, h4, h5⟩ := notifyRoute_sameSchedule g sl (s.route g sl) new cause x none (s.setRoute g sl new)
  exact ⟨h1, h2, h3, h4, h5⟩

theorem markRoute_waits (hs : s.activesWait) (x : Target) :
    (markRoute sl x s g).falling = s.falling ∧ (markRoute sl x s g).activesWait := by
  rcases markRoute_cases s sl x g with he | ⟨-, -, he⟩ <;> rw [he]
  · obtain ⟨u, hu, hgive⟩ := commitRoute_gives s g sl ((s.route g sl).marked x) .mark ((s.route g sl).markGiven x)
    obtain ⟨hf, hw⟩ := giveOutcome_waits (hu.activesWait hs) g ((s.route g sl).markGiven x)
    rw [hgive]
    exact ⟨hf.trans hu.falling, hw⟩
  · exact ⟨rfl, hs⟩

/-- Where no ACTIVE cue falls due again at once, a mark leaves the event nothing more to deal with. -/
theorem takeMark_falling (hs : s.activesWait) (x : Target) : (takeMark sl x s).falling = s.falling := by
  have h : (takeMark sl x s).falling = s.falling ∧ (takeMark sl x s).activesWait :=
    List.foldlRecOn (List.finRange 8) (markRoute sl x) (motive := fun u => u.falling = s.falling ∧ u.activesWait)
      ⟨rfl, hs⟩ fun u ⟨hf, hw⟩ g _ => ⟨(markRoute_waits hw x).1.trans hf, (markRoute_waits hw x).2⟩
  exact h.1

/-! ## One schedule in two states -/

theorem SameSchedule.notifyBoth (h : SameSchedule s t) (n m : Notice) : SameSchedule (notifyBoth n s) (notifyBoth m t) :=
  ⟨h.cues, h.insertion, h.changes, h.falling, h.station⟩

theorem SameSchedule.renumberFull (h : SameSchedule s t) : SameSchedule (renumberFull s) (renumberFull t) := by
  unfold Machine.renumberFull
  rw [h.insertion]
  split
  · exact ⟨congrArg (renumber 0) h.cues, congrArg List.length h.cues, h.changes, h.falling, h.station⟩
  · exact h

theorem SameSchedule.enterCue (h : SameSchedule s t) (c : Cue) : SameSchedule (enterCue c s) (enterCue c t) := by
  obtain ⟨hcues, hins, hchanges, hfalling, hstation⟩ := h.renumberFull
  unfold Machine.enterCue
  dsimp only
  rw [hcues, hins]
  exact ⟨rfl, rfl, congrArg (· + 1) hchanges, hfalling, hstation⟩

/-- A completion moves in the schedule what the schedule alone decides. -/
theorem SameSchedule.completeCue (h : SameSchedule s t) (c : Cue) : SameSchedule (completeCue c s) (completeCue c t) := by
  cases hr : c.rpt with
  | once =>
    rw [completeCue_once hr, completeCue_once hr]
    exact ⟨congrArg (withoutCue c.id) h.cues, h.insertion, congrArg (· + 1) h.changes, h.falling, h.station⟩
  | daily =>
    rw [completeCue_daily hr, completeCue_daily hr, h.station, h.falling]
    have henter := (h.notifyBoth (.cueDone c (some (nextOccurrence s.station c.due).1))
      (.cueDone c (some (nextOccurrence s.station c.due).1))).enterCue (c.waiting (nextOccurrence s.station c.due).1)
    exact ⟨henter.cues, henter.insertion, henter.changes, rfl, henter.station⟩

/-- So does an outcome. -/
theorem SameSchedule.recordOutcome (h : SameSchedule s t) (id : Nat) (g : RegionId) (o : CueOutcome) :
    SameSchedule (recordOutcome id g o s) (recordOutcome id g o t) := by
  have hcue : t.cue id = s.cue id := congrArg (List.find? _) h.cues
  unfold Machine.recordOutcome
  rw [hcue]
  cases s.cue id with
  | none => exact h
  | some c =>
    dsimp only
    cases c.state with
    | pending => exact h
    | active =>
      have hmap : SameSchedule { s with cues := mapCue id (fun _ => c.record g o) s.cues }
          { t with cues := mapCue id (fun _ => c.record g o) t.cues } :=
        ⟨congrArg (mapCue id fun _ => c.record g o) h.cues, h.insertion, h.changes, h.falling, h.station⟩
      dsimp only
      split
      · exact hmap.completeCue _
      · exact hmap

/-! ## Outcomes one after another -/

/-- The outcomes of a list are given one after another. -/
def giveAll (l : List (RegionId × Nat × CueOutcome)) (s : State) : State :=
  l.foldl (fun u x => recordOutcome x.2.1 x.1 x.2.2 u) s

/-- The ids of the cues stay distinct while a cue is entered. -/
theorem insertCue_ids_perm (c : Cue) (l : List Cue) : ((insertCue c l).map Cue.id).Perm (c.id :: l.map Cue.id) := by
  induction l with
  | nil => exact .refl _
  | cons x l ih =>
    unfold insertCue
    split
    · exact .refl _
    · exact (ih.cons x.id).trans (.swap _ _ _)

theorem withoutCue_ids_nodup {l : List Cue} (h : (l.map Cue.id).Nodup) (id : Nat) :
    ((withoutCue id l).map Cue.id).Nodup := h.sublist (List.filter_sublist.map _)

theorem insertCue_withoutCue_nodup {l : List Cue} (h : (l.map Cue.id).Nodup) {id : Nat} (hid : c.id = id) :
    ((insertCue c (withoutCue id l)).map Cue.id).Nodup := by
  rw [(insertCue_ids_perm c _).nodup_iff, List.nodup_cons]
  refine ⟨fun hmem => ?_, withoutCue_ids_nodup h id⟩
  obtain ⟨x, hx, he⟩ := List.mem_map.1 hmem
  simp [withoutCue, he, hid] at hx

/-- A completion keeps the ids distinct, and takes one insertion number at most. -/
theorem completeCue_numbers (h : (s.cues.map Cue.id).Nodup) (hi : s.insertion < 4294967295) (c : Cue) :
    ((completeCue c s).cues.map Cue.id).Nodup ∧ (completeCue c s).insertion ≤ s.insertion + 1 := by
  cases hr : c.rpt with
  | once =>
    rw [completeCue_once hr]
    exact ⟨withoutCue_ids_nodup h c.id, Nat.le_succ _⟩
  | daily =>
    rw [completeCue_daily hr,
      enterCue_enters (notifyBoth (.cueDone c (some (nextOccurrence s.station c.due).1)) s) _ hi]
    exact ⟨insertCue_withoutCue_nodup (c := { c.waiting _ with insertion := s.insertion }) h rfl, le_refl _⟩

theorem recordOutcome_numbers (h : (s.cues.map Cue.id).Nodup) (hi : s.insertion < 4294967295) (id : Nat) (g : RegionId)
    (o : CueOutcome) :
    ((recordOutcome id g o s).cues.map Cue.id).Nodup ∧ (recordOutcome id g o s).insertion ≤ s.insertion + 1 := by
  cases hcue : s.cue id with
  | none => simpa [recordOutcome, hcue] using h
  | some c =>
    obtain ⟨hmem, rfl⟩ := State.cue_some hcue
    cases ha : c.state with
    | pending => simpa [recordOutcome, hcue, ha] using h
    | active =>
      have hmap : ((mapCue c.id (fun _ => c.record g o) s.cues).map Cue.id).Nodup := by
        rwa [mapCue_ids c.id (c.record g o) rfl]
      rw [recordOutcome_active hcue ha]
      split
      · exact completeCue_numbers (s := { s with cues := mapCue c.id (fun _ => c.record g o) s.cues }) hmap hi _
      · exact ⟨hmap, Nat.le_succ _⟩

/-- An outcome for a cue that is not ACTIVE moves nothing. -/
theorem recordOutcome_pending (h : ∀ b ∈ s.cues, b.id = id → b.state = .pending) : recordOutcome id g o s = s := by
  cases hcue : s.cue id with
  | none => simp [recordOutcome, hcue]
  | some c =>
    obtain ⟨hmem, hid⟩ := State.cue_some hcue
    simp [recordOutcome, hcue, h c hmem hid]

/-- Outcomes given one after another are what the rules call so, while insertion numbers last (R100, R102, R103). -/
theorem giveAll_gives {l : List (RegionId × Nat × CueOutcome)} (h : (s.cues.map Cue.id).Nodup)
    (hi : s.insertion + l.length < 4294967295) (hw : s.activesWait) : GivesOutcomes l s (giveAll l s) := by
  induction l generalizing s with
  | nil => exact rfl
  | cons x l ih =>
    obtain ⟨g, id, o⟩ := x
    rw [List.length_cons] at hi
    have hnum := recordOutcome_numbers h (show s.insertion < 4294967295 by omega) id g o
    refine ⟨recordOutcome id g o s, ih hnum.1 (by have := hnum.2; omega) (recordOutcome_waits hw id g o).2, ?_,
      recordOutcome_pending⟩
    rintro b hb rfl ha
    exact recordOutcome_given s b g o hb h ha (fun _ => by omega) (hw b hb ha)

theorem giveOutcome_tells (r : Route) :
    giveOutcome g (r.waiter.map fun w => (o, w)) s = giveAll (r.tells g o).toList s := by
  unfold Route.tells
  cases hw : r.waiter with
  | none => simp [giveOutcome, giveAll]
  | some w => cases w <;> simp [giveOutcome, giveAll]

theorem SameSchedule.giveAll (h : SameSchedule s t) (l : List (RegionId × Nat × CueOutcome)) :
    SameSchedule (giveAll l s) (giveAll l t) := by
  induction l generalizing s t with
  | nil => exact h
  | cons x l ih => exact ih (h.recordOutcome _ _ _)

/-- The outcome that a mark brings on a route. -/
def Route.markTells (r : Route) (g : RegionId) (x : Target) : Option (RegionId × Nat × CueOutcome) :=
  if r.state.code = 1 ∧ r.state.target = some x then r.tells g .switched else none

/-- A mark moves in the schedule what the outcome of the route moves. -/
theorem markRoute_gives (s : State) (sl : SlotId) (x : Target) (g : RegionId) :
    SameSchedule (giveAll ((s.route g sl).markTells g x).toList s) (markRoute sl x s g) := by
  have hgiven : ∀ u, giveOutcome g ((s.route g sl).markGiven x) u = giveAll ((s.route g sl).markTells g x).toList u := by
    intro u
    unfold Route.markGiven Route.markTells
    split
    · exact giveOutcome_tells _
    · rfl
  rcases markRoute_cases s sl x g with he | ⟨-, hnone, he⟩
  · obtain ⟨u, hu, hgive⟩ := commitRoute_gives s g sl ((s.route g sl).marked x) .mark ((s.route g sl).markGiven x)
    rw [he, hgive, hgiven]
    exact hu.giveAll _
  · have : giveAll ((s.route g sl).markTells g x).toList s = s := by rw [← hgiven, hnone]; rfl
    rw [he, this]
    exact .refl s

theorem giveAll_append (l l' : List (RegionId × Nat × CueOutcome)) : giveAll (l ++ l') s = giveAll l' (giveAll l s) :=
  List.foldl_append

/-- The marks of some regions' routes move in the schedule what their outcomes move, region after region. -/
theorem foldl_markRoute_gives {l : List RegionId} (hl : l.Nodup) (x : Target) :
    SameSchedule (giveAll (l.filterMap fun g => (s.route g sl).markTells g x) s) (l.foldl (markRoute sl x) s) := by
  induction l generalizing s with
  | nil => exact .refl s
  | cons g l ih =>
    rw [List.nodup_cons] at hl
    have hroutes : (l.filterMap fun h => ((markRoute sl x s g).route h sl).markTells h x) =
        l.filterMap fun h => (s.route h sl).markTells h x := by
      refine List.filterMap_congr fun h hh => ?_
      have hne : (g, sl) ≠ (h, sl) := fun e => hl.1 (by rwa [(Prod.mk.inj e).1])
      rw [markRoute_route, if_neg hne]
    have hcons : ((g :: l).filterMap fun h => (s.route h sl).markTells h x) =
        ((s.route g sl).markTells g x).toList ++ l.filterMap fun h => (s.route h sl).markTells h x := by
      rw [List.filterMap_cons]
      cases (s.route g sl).markTells g x <;> rfl
    rw [hcons, giveAll_append, ← hroutes]
    exact ((markRoute_gives s sl x g).giveAll _).trans (ih hl.2)

theorem takeMark_gives (s : State) (sl : SlotId) (x : Target) :
    SameSchedule (giveAll (s.markedOutcomes sl x) s) (takeMark sl x s) :=
  foldl_markRoute_gives (List.nodup_finRange 8) x

theorem markedOutcomes_length (s : State) (sl : SlotId) (x : Target) : (s.markedOutcomes sl x).length ≤ 8 :=
  (List.length_filterMap_le _ _).trans (List.length_finRange).le

end Sys2Proof.Machine
end

section
/-!
PROOFS. The copies of one packet: the copies that the classifier makes are the entries that the rules give it (R57 to R59),
and what offering them one after another does to the queues, the routes' mark-pending flags and the reports (R59, R62,
R147).
-/
namespace Sys2Proof.Machine

variable {s t u w : State} {k : Component} {a : Arrived} {buf n : Nat} {g : RegionId} {sl : SlotId} {x : RegionCopy}
  {xs : List RegionCopy} {e : QEntry}

/-! ## Which copies a packet makes (R57, R58) -/

/-- A copy is the one that the rules give: of the component's class, for the route of the binding's slot, and with the entry
that its region gets. -/
def State.isCopy (s : State) (k : Component) (a : Arrived) (x : RegionCopy) : Prop :=
  x.cls = k.cls ∧ x.slot = s.slotOf k.binding ∧ ∀ buf, s.entryFor k a buf x.region = some (s.entryOf x buf a)

theorem mem_roleCopies {r : RoleId} {src : Source} (hx : x ∈ s.roleCopies k sl r src) :
    x.cls = k.cls ∧ x.slot = some sl ∧ ∀ buf, s.roleEntry k a buf x.region sl r src = some (s.entryOf x buf a) := by
  unfold State.roleCopies at hx
  unfold State.roleEntry State.entryOf State.takesMark
  cases hs : s.slot sl with
  | none => rw [hs] at hx; exact absurd hx (by simp)
  | some sd =>
    rw [hs] at hx
    dsimp only at hx ⊢
    change x ∈ (match sd.entry r with | none => [] | some e => _) at hx
    cases he : sd.entry r with
    | none => rw [he] at hx; exact absurd hx (by simp)
    | some f =>
      have hf : sd.roles.find? (fun e => decide (e.role = r)) = some f := he
      rw [he] at hx
      obtain ⟨h, hh, rfl⟩ := List.mem_map.1 hx
      simp only [State.running, List.mem_filter, List.mem_finRange, true_and, decide_eq_true_eq] at hh
      refine ⟨rfl, rfl, fun buf => ?_⟩
      rw [hf]
      exact if_pos hh

theorem exists_roleCopy {r : RoleId} {src : Source} (he : s.roleEntry k a buf g sl r src = some e) :
    ∃ x ∈ s.roleCopies k sl r src, x.region = g := by
  unfold State.roleEntry at he
  unfold State.roleCopies
  cases hs : s.slot sl with
  | none => simp [hs] at he
  | some sd =>
    rw [hs] at he
    dsimp only at he ⊢
    cases hf : sd.entry r with
    | none =>
      have hf' : sd.roles.find? (fun e => decide (e.role = r)) = none := hf
      simp [hf'] at he
    | some f =>
      have hf' : sd.roles.find? (fun e => decide (e.role = r)) = some f := hf
      have hg : (s.region g).clk.isSome ∧ (s.route g sl).current = src := by
        by_contra hno
        rw [hf'] at he
        exact absurd ((if_neg hno).symm.trans he) (by simp)
      exact ⟨_, List.mem_map.2 ⟨g, by simp [State.running, hg], rfl⟩, rfl⟩

theorem roleCopies_nodup (s : State) (k : Component) (sl : SlotId) (r : RoleId) (src : Source) :
    ((s.roleCopies k sl r src).map RegionCopy.region).Nodup := by
  unfold State.roleCopies
  split
  · exact List.nodup_nil
  · split
    · exact List.nodup_nil
    · rw [List.map_map]
      exact (((List.nodup_finRange 8).filter _).filter _).map fun _ _ e => e

/-- Every copy that a packet makes is the one that the rules give its region. -/
theorem mem_copies (hx : x ∈ s.copies k) : s.isCopy k a x := by
  unfold State.copies at hx
  unfold State.isCopy State.entryFor State.slotOf
  cases hb : k.binding with
  | unbound => simp [hb] at hx
  | common mask out =>
    rw [hb] at hx
    obtain ⟨h, hh, rfl⟩ := List.mem_map.1 hx
    simp only [State.running, List.mem_filter, List.mem_finRange, true_and] at hh
    exact ⟨rfl, rfl, fun buf => if_pos hh⟩
  | national sl r =>
    rw [hb] at hx
    exact mem_roleCopies hx
  | variant v r =>
    rw [hb] at hx
    dsimp only at hx ⊢
    cases hv : s.variant v with
    | none => simp [hv] at hx
    | some d =>
      rw [hv] at hx
      exact mem_roleCopies hx

/-- Every region that the rules give an entry has its copy. -/
theorem exists_copy (he : s.entryFor k a buf g = some e) : ∃ x ∈ s.copies k, x.region = g := by
  unfold State.entryFor at he
  unfold State.copies
  cases hb : k.binding with
  | unbound => simp [hb] at he
  | common mask out =>
    rw [hb] at he
    dsimp only at he ⊢
    have hg : (s.region g).clk.isSome ∧ mask.getLsbD g := by
      by_contra hno
      exact absurd ((if_neg hno).symm.trans he) (by simp)
    exact ⟨_, List.mem_map.2 ⟨g, by simp [State.running, hg], rfl⟩, rfl⟩
  | national sl r =>
    rw [hb] at he
    exact exists_roleCopy he
  | variant v r =>
    rw [hb] at he
    dsimp only at he ⊢
    cases hv : s.variant v with
    | none => simp [hv] at he
    | some d =>
      rw [hv] at he
      exact exists_roleCopy he

/-- A packet makes one copy for a region at most. -/
theorem copies_nodup (s : State) (k : Component) : ((s.copies k).map RegionCopy.region).Nodup := by
  unfold State.copies
  split
  · exact List.nodup_nil
  · rw [List.map_map]
    exact (((List.nodup_finRange 8).filter _).filter _).map fun _ _ e => e
  · exact roleCopies_nodup _ _ _ _ _
  · split
    · exact roleCopies_nodup _ _ _ _ _
    · exact List.nodup_nil

/-! ## Placing copies moves queues, mark-pending flags, the ring and the pool, with reports -/

/-- Only the regions, the routes, the capture ring and the pool may differ, and reports. -/
def OnlyPlaces (s t : State) : Prop :=
  OnlyReports { s with regions := t.regions, routes := t.routes, capture := t.capture, pool := t.pool } t

theorem OnlyReports.places (h : OnlyReports s t) : OnlyPlaces s t := by
  obtain ⟨hst, hmgmt, hcue⟩ := h
  refine ⟨?_, hmgmt, hcue⟩
  rw [hst]

theorem OnlyPlaces.trans (h : OnlyPlaces s t) (h' : OnlyPlaces t u) : OnlyPlaces s u := by
  obtain ⟨h1, h2, h3⟩ := h
  obtain ⟨g1, g2, g3⟩ := h'
  refine ⟨?_, h2.trans g2, h3.trans g3⟩
  rw [g1, h1]

/-! ## One copy joins its queue (R59, R147) -/

/-- Whether a copy that is offered joins its queue and takes its route's mark-pending flag. -/
def State.marksBy (s : State) (q : Packet) (x : RegionCopy) (g : RegionId) (sl : SlotId) : Bool :=
  decide (x.region = g ∧ x.slot = some sl) && (s.hasRoom x && s.takesMark x q)

theorem hasRoom_iff : s.hasRoom x = true ↔ (s.region x.region).room x.cls := by
  unfold State.hasRoom Region.room
  cases x.cls <;> exact decide_eq_true_iff

theorem joinQueue_region (x : RegionCopy) (e : QEntry) (s : State) (g : RegionId) :
    (joinQueue x e s).region g = if x.region = g then (s.region x.region).joined e x.cls else s.region g := by
  have hclear : (if e.setDisc then clearMark x s else s).region g = s.region g := by
    unfold clearMark
    split
    · split <;> rfl
    · rfl
  unfold joinQueue Region.joined
  dsimp only
  cases x.cls <;> simp only [State.setRegion_region, hclear]

theorem joinQueue_route (x : RegionCopy) (e : QEntry) (s : State) (g : RegionId) (sl : SlotId) :
    (joinQueue x e s).route g sl =
      { s.route g sl with
        markPending := (s.route g sl).markPending && !(decide (x.region = g ∧ x.slot = some sl) && e.setDisc) } := by
  have hclear : (if e.setDisc then clearMark x s else s).route g sl =
      { s.route g sl with
        markPending := (s.route g sl).markPending && !(decide (x.region = g ∧ x.slot = some sl) && e.setDisc) } := by
    unfold clearMark
    cases e.setDisc with
    | false => simp
    | true =>
      cases hs : x.slot with
      | none => simp
      | some y =>
        by_cases h : x.region = g ∧ y = sl
        · obtain ⟨rfl, rfl⟩ := h
          simp
        · simp [h]
  rw [← hclear]
  unfold joinQueue
  dsimp only
  cases x.cls <;> rfl

theorem joinQueue_only (x : RegionCopy) (e : QEntry) (s : State) : OnlyPlaces s (joinQueue x e s) := by
  have hclear : OnlyPlaces s (if e.setDisc then clearMark x s else s) := by
    unfold clearMark
    split
    · split
      · exact ⟨rfl, .refl _, .refl _⟩
      · exact ⟨rfl, .refl _, .refl _⟩
    · exact ⟨rfl, .refl _, .refl _⟩
  refine hclear.trans ?_
  unfold joinQueue
  dsimp only
  cases x.cls <;> exact ⟨rfl, .refl _, .refl _⟩

theorem joinQueue_reports (x : RegionCopy) (e : QEntry) (s : State) :
    (joinQueue x e s).detected = s.detected ∧ (joinQueue x e s).mgmt = s.mgmt := by
  unfold joinQueue clearMark
  dsimp only
  cases e.setDisc <;> cases x.slot <;> cases x.cls <;> exact ⟨rfl, rfl⟩

/-! ## Copies offered one after another -/

/-- CAPTURE_READY with one entry waits on the management link, or the lost flag stands for it (R180, R193). -/
def State.readyTold (s : State) : Prop := .captureReady 1 s.clock ∈ s.mgmt.notices ∨ s.mgmt.lost = true

/-- What offering some copies does, of distinct regions and with the queues as they stand before. -/
structure Offered (buf : Nat) (a : Arrived) (n : Nat) (w : State) (done : List RegionCopy) (acc : Nat × State) : Prop where
  count : acc.1 = n + done.countP w.hasRoom
  joined : ∀ x ∈ done, w.hasRoom x = true → acc.2.region x.region = (w.region x.region).joined (w.entryOf x buf a) x.cls
  left : ∀ g, (∀ x ∈ done, x.region = g → w.hasRoom x = false) → acc.2.region g = w.region g
  marks : ∀ g sl, acc.2.route g sl =
    { w.route g sl with markPending := (w.route g sl).markPending && !(done.any fun x => w.marksBy a.packet x g sl) }
  only : OnlyPlaces w acc.2
  overflow : ∀ x ∈ done, w.hasRoom x = false → acc.2.detected.has x.cls.overflow.cls = true
  flags : ∀ c, w.detected.has c = true → acc.2.detected.has c = true
  ready : w.readyTold → acc.2.readyTold
  stays : acc.2.pool = w.pool ∧ acc.2.capture = w.capture

theorem replaceWaiting_mem {new x : Notice} {q q' : List Notice} (h : replaceWaiting new q = some q')
    (hx : x ∈ q) (hne : new.sameKey x = false) : x ∈ q' := by
  induction q generalizing q' with
  | nil => exact absurd hx (by simp)
  | cons y q ih =>
    unfold replaceWaiting at h
    by_cases hy : new.sameKey y = true
    · rw [if_pos hy] at h
      obtain rfl := Option.some.inj h
      rcases List.mem_cons.1 hx with rfl | hx
      · exact absurd (hy.symm.trans hne) (by decide)
      · exact List.mem_cons_of_mem _ hx
    · rw [if_neg hy] at h
      obtain ⟨r, hr, rfl⟩ := Option.map_eq_some_iff.1 h
      rcases List.mem_cons.1 hx with rfl | hx
      · exact List.mem_cons_self ..
      · exact List.mem_cons_of_mem _ (ih hr hx)

/-- A notice stays while others of other keys are placed. -/
theorem LinkState.place_mem {l : LinkState} {new x : Notice} (hx : x ∈ l.notices) (hne : new.sameKey x = false) :
    x ∈ (l.place new).notices := by
  unfold LinkState.place
  split
  · next q hq => exact replaceWaiting_mem hq hx hne
  · split
    · exact List.mem_append_left _ hx
    · exact hx

theorem LinkState.place_lost {l : LinkState} {new : Notice} (h : l.lost = true) : (l.place new).lost = true := by
  unfold LinkState.place
  split
  · exact h
  · split
    · exact h
    · rfl

theorem raiseEvent_readyTold (c : Cause) (o : ObjRef) (h : s.readyTold) : (raiseEvent c o s).readyTold := by
  unfold State.readyTold raiseEvent LinkState.placeEvent at *
  dsimp only
  split
  · exact h.imp (fun hx => LinkState.place_mem hx rfl) LinkState.place_lost
  · exact h

theorem Offered.start (buf : Nat) (a : Arrived) (n : Nat) (w : State) : Offered buf a n w [] (n, w) :=
  ⟨by simp, fun _ h => absurd h (by simp), fun _ _ => rfl, fun g sl => by simp, (OnlyReports.refl w).places,
    fun _ h => absurd h (by simp), fun _ h => h, fun h => h, rfl, rfl⟩

/-- What a copy finds does not depend on the copies offered before it, as they are of other regions. -/
theorem Offered.untouched {done : List RegionCopy} {acc : Nat × State} (h : Offered buf a n w done acc)
    (hx : ∀ y ∈ done, y.region ≠ x.region) :
    acc.2.region x.region = w.region x.region ∧ acc.2.hasRoom x = w.hasRoom x ∧
      acc.2.entryOf x buf a = w.entryOf x buf a := by
  have hregion := h.left x.region fun y hy he => absurd he (hx y hy)
  have hroute : ∀ sl, acc.2.route x.region sl = w.route x.region sl := by
    intro sl
    have hany : (done.any fun y => w.marksBy a.packet y x.region sl) = false :=
      List.any_eq_false.2 fun y hy => by simp [State.marksBy, hx y hy]
    rw [h.marks, hany]
    simp
  have hroom : acc.2.hasRoom x = w.hasRoom x := by
    unfold State.hasRoom
    rw [hregion]
  have htakes : acc.2.takesMark x a.packet = w.takesMark x a.packet := by
    unfold State.takesMark
    simp only [hroute]
  exact ⟨hregion, hroom, by unfold State.entryOf; rw [htakes]⟩

theorem joinQueue_stays (x : RegionCopy) (e : QEntry) (s : State) :
    (joinQueue x e s).pool = s.pool ∧ (joinQueue x e s).capture = s.capture := by
  unfold joinQueue clearMark
  dsimp only
  cases e.setDisc <;> cases x.slot <;> cases x.cls <;> exact ⟨rfl, rfl⟩

/-- A copy that finds no room leaves the others as they are, and raises the event of its queue. -/
theorem Offered.dropped {done : List RegionCopy} {acc : Nat × State} (h : Offered buf a n w done acc)
    (hfit : w.hasRoom x = false) :
    Offered buf a n w (done ++ [x]) (acc.1, raiseEvent x.cls.overflow (.region x.region) acc.2) := by
  have hmark : ∀ g sl, w.marksBy a.packet x g sl = false := fun g sl => by simp [State.marksBy, hfit]
  refine ⟨by simp [h.count, hfit], ?_, fun g hg => h.left g fun y hy => hg y (by simp [hy]), fun g sl => ?_,
    h.only.trans (raiseEvent_only _ _ _).places, ?_, fun c hc => ?_, fun hr => raiseEvent_readyTold _ _ (h.ready hr),
    h.stays⟩
  · intro y hy hyroom
    rcases List.mem_append.1 hy with hy | hy
    · exact h.joined y hy hyroom
    · exact absurd hyroom (by rw [List.mem_singleton.1 hy, hfit]; decide)
  · simp only [List.any_append, List.any_cons, List.any_nil, hmark, Bool.or_false]
    exact h.marks g sl
  · intro y hy hyroom
    rw [raiseEvent_has, Bool.or_eq_true]
    rcases List.mem_append.1 hy with hy | hy
    · exact .inl (h.overflow y hy hyroom)
    · exact .inr (by simp [List.mem_singleton.1 hy])
  · rw [raiseEvent_has, h.flags c hc]
    rfl

/-- A copy that finds room joins its queue and takes its route's mark-pending flag. -/
theorem Offered.join {done : List RegionCopy} {acc : Nat × State} (h : Offered buf a n w done acc)
    (hx : ∀ y ∈ done, y.region ≠ x.region) (hregion : acc.2.region x.region = w.region x.region)
    (hfit : w.hasRoom x = true) :
    Offered buf a n w (done ++ [x]) (acc.1 + 1, joinQueue x (w.entryOf x buf a) acc.2) := by
  obtain ⟨hdet, hmgmt⟩ := joinQueue_reports x (w.entryOf x buf a) acc.2
  obtain ⟨hpool, hcapture⟩ := joinQueue_stays x (w.entryOf x buf a) acc.2
  have honly := joinQueue_only x (w.entryOf x buf a) acc.2
  have hclock : (joinQueue x (w.entryOf x buf a) acc.2).clock = acc.2.clock := (congrArg State.clock honly.1 :)
  refine ⟨by simp [h.count, hfit]; omega, ?_, fun g hg => ?_, fun g sl => ?_, h.only.trans honly, ?_, ?_, ?_,
    hpool.trans h.stays.1, hcapture.trans h.stays.2⟩
  · intro y hy hyroom
    dsimp only
    rw [joinQueue_region]
    rcases List.mem_append.1 hy with hy | hy
    · rw [if_neg fun e => hx y hy e.symm]
      exact h.joined y hy hyroom
    · rw [List.mem_singleton.1 hy, if_pos rfl, hregion]
  · have hne : x.region ≠ g := fun e => absurd (hg x (by simp) e) (by rw [hfit]; decide)
    dsimp only
    rw [joinQueue_region, if_neg hne]
    exact h.left g fun y hy => hg y (by simp [hy])
  · have hmark : (decide (x.region = g ∧ x.slot = some sl) && (w.entryOf x buf a).setDisc) = w.marksBy a.packet x g sl := by
      simp [State.marksBy, State.entryOf, hfit]
    dsimp only
    rw [joinQueue_route, hmark, h.marks]
    simp [Bool.and_assoc]
  · intro y hy hyroom
    dsimp only
    rw [hdet]
    rcases List.mem_append.1 hy with hy | hy
    · exact h.overflow y hy hyroom
    · exact absurd hyroom (by rw [List.mem_singleton.1 hy, hfit]; decide)
  · dsimp only
    rw [hdet]
    exact h.flags
  · intro hr
    unfold State.readyTold
    dsimp only
    rw [hmgmt, hclock]
    exact h.ready hr

theorem Offered.step {done : List RegionCopy} {acc : Nat × State} (h : Offered buf a n w done acc)
    (hx : ∀ y ∈ done, y.region ≠ x.region) : Offered buf a n w (done ++ [x]) (offerCopy buf a acc x) := by
  obtain ⟨hregion, hroom, hentry⟩ := h.untouched hx
  unfold offerCopy
  rw [hroom, hentry]
  cases hfit : w.hasRoom x with
  | false => exact h.dropped hfit
  | true => exact h.join hx hregion hfit

/-- Copies of distinct regions, offered one after another. -/
theorem foldl_offerCopy (hxs : (xs.map RegionCopy.region).Nodup) :
    Offered buf a n w xs (xs.foldl (offerCopy buf a) (n, w)) := by
  induction xs using List.reverseRecOn with
  | nil => exact .start buf a n w
  | append_singleton l x ih =>
    rw [List.map_append, List.nodup_append] at hxs
    rw [List.foldl_append, List.foldl_cons, List.foldl_nil]
    exact (ih hxs.1).step fun y hy => hxs.2.2 _ (List.mem_map_of_mem hy) _ (by simp)

end Sys2Proof.Machine
end

section
/-!
PROOFS. Placing a packet's copies (step 8): the capture copy, the buffer that holds the packet, and the whole as the rules
put it (R60 to R62, R147, R179 to R181).
-/
namespace Sys2Proof.Machine

variable {s t u w : State} {k : Component} {p : PortId} {a : Arrived} {buf n : Nat} {g : RegionId} {sl : SlotId}
  {x : RegionCopy} {xs : List RegionCopy} {e : QEntry} {cap : Option CapReason} {why : CapReason}

/-! ## The capture copy (R179 to R181) -/

/-- What offering the capture copy of a packet does to a state whose ring has room for it, or not. -/
structure OfferedFirst (buf : Nat) (p : PortId) (a : Arrived) (cap : Option CapReason) (s : State) (acc : Nat × State) :
    Prop where
  none : cap = none → acc = (0, s)
  kept : ∀ why, cap = some why → s.capture.length < 128 →
    acc.1 = 1 ∧ acc.2.capture = s.capture ++ [{ buf := buf, reason := why, port := p, arrival := a.arrival }]
  dropped : cap ≠ .none → 128 ≤ s.capture.length →
    acc.1 = 0 ∧ acc.2.capture = s.capture ∧ acc.2.detected.note = true
  ready : cap ≠ .none → s.capture = [] → acc.2.readyTold
  stays : acc.2.regions = s.regions ∧ acc.2.routes = s.routes ∧ acc.2.pool = s.pool
  only : OnlyPlaces s acc.2

theorem place_readyTold (l : LinkState) (n : Notice) (h : ∀ old, n.over old = n) :
    n ∈ (l.place n).notices ∨ (l.place n).lost = true := by
  have hmem : ∀ {q q' : List Notice}, replaceWaiting n q = some q' → n ∈ q' := by
    intro q
    induction q with
    | nil => intro q' hq; exact absurd hq (by simp [replaceWaiting])
    | cons y q ih =>
      intro q' hq
      unfold replaceWaiting at hq
      split at hq
      · obtain rfl := Option.some.inj hq
        simp [h]
      · obtain ⟨r, hr, rfl⟩ := Option.map_eq_some_iff.1 hq
        exact List.mem_cons_of_mem _ (ih hr)
  unfold LinkState.place
  split
  · next q hq => exact .inl (hmem hq)
  · split
    · exact .inl (by simp)
    · exact .inr rfl

theorem offerFirst_offered (buf : Nat) (p : PortId) (a : Arrived) (cap : Option CapReason) (s : State) :
    OfferedFirst buf p a cap s (offerFirst buf p a cap s) := by
  unfold offerFirst
  cases cap with
  | none =>
    exact ⟨fun _ => rfl, fun _ h => absurd h (by simp), fun h => absurd rfl h, fun h => absurd rfl h, ⟨rfl, rfl, rfl⟩,
      (OnlyReports.refl s).places⟩
  | some why =>
    dsimp only
    unfold offerCapture
    by_cases hroom : s.capture.length < 128
    · rw [if_pos (show s.capture.length < Config.captureCap from hroom)]
      by_cases hempty : s.capture = []
      · have hisempty : s.capture.isEmpty = true := by rw [hempty]; rfl
        dsimp only
        rw [if_pos hisempty]
        refine ⟨fun h => absurd h (by simp), fun _ h _ => ?_, fun _ h => absurd hroom (Nat.not_lt.2 h), fun _ _ => ?_,
          ⟨rfl, rfl, rfl⟩, ⟨rfl, LinkState.place_same _ _, .refl _⟩⟩
        · obtain rfl := Option.some.inj h
          exact ⟨rfl, rfl⟩
        · exact place_readyTold _ _ fun _ => rfl
      · have hisempty : s.capture.isEmpty = false := by simpa using hempty
        dsimp only
        rw [hisempty, if_neg Bool.false_ne_true]
        refine ⟨fun h => absurd h (by simp), fun _ h _ => ?_, fun _ h => absurd hroom (Nat.not_lt.2 h),
          fun _ h => absurd h hempty, ⟨rfl, rfl, rfl⟩, ⟨rfl, .refl _, .refl _⟩⟩
        obtain rfl := Option.some.inj h
        exact ⟨rfl, rfl⟩
    · rw [if_neg (show ¬ s.capture.length < Config.captureCap from hroom)]
      refine ⟨fun h => absurd h (by simp), fun _ _ h => absurd h hroom, fun _ _ => ⟨rfl, rfl, rfl⟩, fun _ h => ?_,
        ⟨rfl, rfl, rfl⟩, (raiseEvent_only s _ _).places⟩
      exact absurd (show s.capture.length < 128 by rw [h]; decide) hroom

/-! ## The packet's buffer (R60 to R62) -/

/-- A packet without a copy leaves nothing. -/
theorem placeCopies_none : placeCopies p a none [] s = s := rfl

theorem placeCopies_poolFull (h : cap ≠ none ∨ xs ≠ []) (hfull : 4096 ≤ s.pool.length) :
    placeCopies p a cap xs s = raiseEvent .poolEmpty (.port p) s := by
  have hcopies : ¬ (cap.isNone && xs.isEmpty) = true := by
    cases cap <;> cases xs <;> simp_all
  unfold placeCopies
  rw [if_neg hcopies, if_pos (show Config.poolCap ≤ s.pool.length from hfull)]

/-- The state after a packet's copies are offered, with the number of those that joined. -/
def offered (p : PortId) (a : Arrived) (cap : Option CapReason) (xs : List RegionCopy) (s : State) : Nat × State :=
  xs.foldl (offerCopy (freshBuffer s.pool) a) (offerFirst (freshBuffer s.pool) p a cap s)

theorem placeCopies_taken (h : cap ≠ none ∨ xs ≠ []) (hroom : s.pool.length < 4096) :
    placeCopies p a cap xs s =
      keepBuffer (freshBuffer s.pool) a.packet (offered p a cap xs s).1 (offered p a cap xs s).2 := by
  have hcopies : ¬ (cap.isNone && xs.isEmpty) = true := by
    cases cap <;> cases xs <;> simp_all
  unfold placeCopies
  rw [if_neg hcopies, if_neg (show ¬ Config.poolCap ≤ s.pool.length from Nat.not_le.2 hroom)]
  rfl

theorem keepBuffer_only (buf : Nat) (q : Packet) (n : Nat) (s : State) : OnlyPlaces s (keepBuffer buf q n s) := by
  unfold keepBuffer
  split
  · exact (OnlyReports.refl s).places
  · exact ⟨rfl, .refl _, .refl _⟩

/-- What a kept buffer is. -/
theorem keepBuffer_eq (buf : Nat) (q : Packet) (n : Nat) (s : State) :
    keepBuffer buf q n s =
      { s with pool := if n = 0 then s.pool else s.pool ++ [{ id := buf, packet := q, refs := n }] } := by
  unfold keepBuffer
  split <;> rfl

theorem offerCopy_only (buf : Nat) (a : Arrived) (acc : Nat × State) (x : RegionCopy) :
    OnlyPlaces acc.2 (offerCopy buf a acc x).2 := by
  unfold offerCopy
  split
  · exact joinQueue_only _ _ _
  · exact (raiseEvent_only _ _ _).places

theorem offered_only : OnlyPlaces s (offered p a cap xs s).2 :=
  List.foldlRecOn xs _ (motive := fun acc => OnlyPlaces s acc.2) (offerFirst_offered _ p a cap s).only
    fun acc hacc x _ => hacc.trans (offerCopy_only _ a acc x)

theorem placeCopies_only (p : PortId) (a : Arrived) (cap : Option CapReason) (xs : List RegionCopy) (s : State) :
    OnlyPlaces s (placeCopies p a cap xs s) := by
  by_cases hcopies : cap ≠ none ∨ xs ≠ []
  · by_cases hfull : 4096 ≤ s.pool.length
    · rw [placeCopies_poolFull hcopies hfull]
      exact (raiseEvent_only s _ _).places
    · rw [placeCopies_taken hcopies (Nat.not_le.1 hfull)]
      exact offered_only.trans (keepBuffer_only _ _ _ _)
  · obtain ⟨rfl, rfl⟩ : cap = none ∧ xs = [] := by simpa using hcopies
    exact (OnlyReports.refl s).places

/-! ## Placing the copies, as the rules put it -/

/-- The copies that join are told, region by region, by the entries that the rules give. -/
structure Joining (k : Component) (a : Arrived) (buf : Nat) (u : State) (joins : RegionId → Option QEntry) : Prop where
  entry : ∀ g e, joins g = some e ↔ u.entryFor k a buf g = some e ∧ (u.region g).room k.cls

theorem Joining.of_copy {joins : RegionId → Option QEntry} (h : Joining k a buf u joins) (hx : x ∈ u.copies k) :
    joins x.region = if u.hasRoom x then some (u.entryOf x buf a) else none := by
  obtain ⟨hcls, -, hentry⟩ := mem_copies (a := a) hx
  have hroom : u.hasRoom x = true ↔ (u.region x.region).room k.cls := hcls ▸ hasRoom_iff
  by_cases hfit : u.hasRoom x = true
  · rw [if_pos hfit]
    exact (h.entry _ _).2 ⟨hentry buf, hroom.1 hfit⟩
  · rw [if_neg hfit, Option.eq_none_iff_forall_ne_some]
    exact fun e he => hfit (hroom.2 ((h.entry _ _).1 he).2)

theorem Joining.copy {joins : RegionId → Option QEntry} (h : Joining k a buf u joins) (hj : joins g = some e) :
    ∃ x ∈ u.copies k, x.region = g ∧ u.hasRoom x = true ∧ e = u.entryOf x buf a := by
  obtain ⟨x, hx, rfl⟩ := exists_copy ((h.entry g e).1 hj).1
  rw [h.of_copy hx] at hj
  by_cases hfit : u.hasRoom x = true
  · rw [if_pos hfit] at hj
    exact ⟨x, hx, rfl, hfit, (Option.some.inj hj).symm⟩
  · rw [if_neg hfit] at hj
    exact absurd hj (by simp)

/-- As many copies join as regions get an entry. -/
theorem Joining.count {joins : RegionId → Option QEntry} (h : Joining k a buf u joins) :
    (u.copies k).countP u.hasRoom = (List.finRange 8).countP fun g => (joins g).isSome := by
  have hperm : (((u.copies k).filter u.hasRoom).map RegionCopy.region).Perm
      ((List.finRange 8).filter fun g => (joins g).isSome) := by
    refine (List.perm_ext_iff_of_nodup ?_ ((List.nodup_finRange 8).filter _)).2 fun g => ?_
    · exact (copies_nodup u k).sublist (List.filter_sublist.map _)
    · simp only [List.mem_map, List.mem_filter, List.mem_finRange, true_and, Option.isSome_iff_exists]
      constructor
      · rintro ⟨x, ⟨hx, hfit⟩, rfl⟩
        exact ⟨_, by rw [h.of_copy hx, if_pos hfit]⟩
      · rintro ⟨e, he⟩
        obtain ⟨x, hx, hg, hfit, -⟩ := h.copy he
        exact ⟨x, ⟨hx, hfit⟩, hg⟩
  rw [List.countP_eq_length_filter, List.countP_eq_length_filter, ← hperm.length_eq, List.length_map]

theorem hasRoom_congr (hr : w.regions = u.regions) : w.hasRoom = u.hasRoom := by
  funext x
  have : w.region x.region = u.region x.region := congrArg (fun v : Vector Region 8 => v[x.region]) hr
  unfold State.hasRoom
  rw [this]

theorem takesMark_congr (hr : w.routes = u.routes) : w.takesMark = u.takesMark := by
  funext x q
  have hroute : ∀ g sl, w.route g sl = u.route g sl := fun g sl => by unfold State.route; rw [hr]
  unfold State.takesMark
  simp only [hroute]

/-- The mark-pending flag of a route is taken by the copy of its region, where the route is of the binding's slot. -/
theorem Joining.marks {joins : RegionId → Option QEntry} (h : Joining k a buf u joins) (g : RegionId) (sl : SlotId) :
    ((u.copies k).any fun x => u.marksBy a.packet x g sl) =
      (decide (u.slotOf k.binding = some sl) && (joins g).any fun e => e.setDisc) := by
  rw [Bool.eq_iff_iff, List.any_eq_true, Bool.and_eq_true, decide_eq_true_eq, Option.any_eq_true]
  constructor
  · rintro ⟨x, hx, hmark⟩
    obtain ⟨⟨rfl, hslot⟩, hfit, htakes⟩ : (x.region = g ∧ x.slot = some sl) ∧ u.hasRoom x = true ∧
        u.takesMark x a.packet = true := by simpa [State.marksBy] using hmark
    refine ⟨(mem_copies (a := a) hx).2.1 ▸ hslot, u.entryOf x buf a, ?_, htakes⟩
    rw [h.of_copy hx, if_pos hfit]
  · rintro ⟨hslot, e, hj, hdisc⟩
    obtain ⟨x, hx, hg, hfit, rfl⟩ := h.copy hj
    refine ⟨x, hx, ?_⟩
    have htakes : u.takesMark x a.packet = true := hdisc
    have hxslot : x.slot = some sl := (mem_copies (a := a) hx).2.1.trans hslot
    simp [State.marksBy, hg, hxslot, hfit, htakes]

/-- The queues and the routes after the copies are offered, told by the entries that join. -/
structure JoinedBy (k : Component) (a : Arrived) (u : State) (joins : RegionId → Option QEntry) (n : Nat)
    (acc : Nat × State) : Prop where
  count : acc.1 = n + (List.finRange 8).countP fun g => (joins g).isSome
  joined : ∀ g e, joins g = some e → acc.2.region g = (u.region g).joined e k.cls
  left : ∀ g, joins g = none → acc.2.region g = u.region g
  marks : ∀ g sl, acc.2.route g sl = { u.route g sl with
    markPending := (u.route g sl).markPending &&
      !(decide (u.slotOf k.binding = some sl) && (joins g).any fun e => e.setDisc) }
  overflow : ∀ g e buf, u.entryFor k a buf g = some e → joins g = none → acc.2.detected.has k.cls.overflow.cls = true

/-- The capture copy comes first, and leaves what the region copies find. -/
theorem Offered.joinedBy {joins : RegionId → Option QEntry} {acc : Nat × State} (h : Offered buf a n w (u.copies k) acc)
    (hregions : w.regions = u.regions) (hroutes : w.routes = u.routes) (hj : Joining k a buf u joins) :
    JoinedBy k a u joins n acc := by
  have hfit := hasRoom_congr hregions
  have htakes := takesMark_congr hroutes
  have hregion : ∀ g, w.region g = u.region g := fun g => congrArg (fun v : Vector Region 8 => v[g]) hregions
  have hroute : ∀ g sl, w.route g sl = u.route g sl := fun g sl => by unfold State.route; rw [hroutes]
  have hentry : ∀ x, w.entryOf x buf a = u.entryOf x buf a := fun x => by unfold State.entryOf; rw [htakes]
  have hmarksBy : w.marksBy = u.marksBy := by funext q x g sl; unfold State.marksBy; rw [hfit, htakes]
  have hnofit : ∀ x ∈ u.copies k, joins x.region = none → w.hasRoom x = false := fun x hx hnone => by
    rw [hfit]
    by_contra hxfit
    have := hj.of_copy hx
    rw [hnone, if_pos (by simpa using hxfit)] at this
    exact absurd this (by simp)
  refine ⟨?_, fun g e he => ?_, fun g hnone => ?_, fun g sl => ?_, fun g e b he hnone => ?_⟩
  · rw [h.count, hfit, hj.count]
  · obtain ⟨x, hx, rfl, hxfit, rfl⟩ := hj.copy he
    rw [h.joined x hx (by rw [hfit]; exact hxfit), hregion, hentry, (mem_copies (a := a) hx).1]
  · exact (h.left g fun x hx hg => hnofit x hx (hg ▸ hnone)).trans (hregion g)
  · rw [h.marks, hroute, hmarksBy, hj.marks]
  · obtain ⟨x, hx, rfl⟩ := exists_copy he
    have hflag := h.overflow x hx (hnofit x hx hnone)
    rwa [(mem_copies (a := a) hx).1] at hflag

/-- The reason for which a component's packets are captured, where they are. -/
def Component.capReason (k : Component) : Option CapReason := if k.capture then some .component else none

theorem capReason_some (hc : k.capture = true) : k.capReason = some .component := if_pos hc

/-- The capture copy joins the ring where the component asks for it and the ring has room. -/
theorem OfferedFirst.of_component {acc : Nat × State} (h : OfferedFirst buf p a k.capReason u acc) {kept : Nat}
    (hkept : kept = if k.capture = true ∧ u.capture.length < 128 then 1 else 0) :
    acc.1 = kept ∧ acc.2.capture =
      if kept = 1 then u.capture ++ [{ buf := buf, reason := .component, port := p, arrival := a.arrival }]
      else u.capture := by
  rw [hkept]
  by_cases hc : k.capture = true
  · by_cases hring : u.capture.length < 128
    · rw [if_pos ⟨hc, hring⟩, if_pos rfl]
      exact h.kept _ (capReason_some hc) hring
    · obtain ⟨h1, h2, -⟩ := h.dropped (by simp [capReason_some hc]) (Nat.not_lt.1 hring)
      rw [if_neg fun h => hring h.2]
      exact ⟨h1, h2⟩
  · rw [h.none (if_neg hc), if_neg fun h => hc h.1]
    exact ⟨rfl, rfl⟩

/-- A component's packet that makes no copy leaves the state. -/
theorem placeCopies_noCopy (hc : k.capture = false) (hnone : ∀ g, u.entryFor k a 0 g = none) :
    placeCopies p a k.capReason (u.copies k) u = u := by
  have hxs : u.copies k = [] := by
    refine List.eq_nil_iff_forall_not_mem.2 fun x hx => ?_
    exact absurd ((hnone x.region).symm.trans ((mem_copies (a := a) hx).2.2 0)) (by simp)
  have hcap : k.capReason = none := if_neg (by simp [hc])
  rw [hxs, hcap]
  exact placeCopies_none

/-- A packet of a component is placed as the rules put it. -/
theorem placeCopies_placed (p : PortId) (a : Arrived) (k : Component) (u : State) :
    PlacedFrom p a k u (placeCopies p a k.capReason (u.copies k) u) := by
  refine ⟨placeCopies_noCopy, fun hcopy => ?_⟩
  have hcopies : k.capReason ≠ none ∨ u.copies k ≠ [] := by
    rcases hcopy with hc | ⟨g, e, he⟩
    · exact .inl (by simp [capReason_some hc])
    · obtain ⟨x, hx, -⟩ := exists_copy he
      exact .inr (List.ne_nil_of_mem hx)
  refine ⟨fun hfull => placeCopies_poolFull hcopies hfull, fun hroom => ⟨freshBuffer u.pool, freshBuffer_fresh _, ?_⟩⟩
  intro joins kept refs hjoins hkept hrefs
  have hfirst := offerFirst_offered (freshBuffer u.pool) p a k.capReason u
  have hoffer : Offered (freshBuffer u.pool) a (offerFirst (freshBuffer u.pool) p a k.capReason u).1
      (offerFirst (freshBuffer u.pool) p a k.capReason u).2 (u.copies k) (offered p a k.capReason (u.copies k) u) :=
    foldl_offerCopy (copies_nodup u k)
  rw [placeCopies_taken hcopies hroom]
  generalize offered p a k.capReason (u.copies k) u = acc at hoffer ⊢
  generalize offerFirst (freshBuffer u.pool) p a k.capReason u = first at hfirst hoffer
  obtain ⟨hregions, hroutes, hpool⟩ := hfirst.stays
  obtain ⟨hn, hcapture⟩ := hfirst.of_component hkept
  have hjoined := hoffer.joinedBy hregions hroutes ⟨hjoins⟩
  have honly := hfirst.only.trans hoffer.only
  have hacc : acc.1 = refs := by rw [hjoined.count, hn, hrefs]
  rw [hacc, keepBuffer_eq, hoffer.stays.1, hpool]
  refine ⟨fun g => ?_, hjoined.marks, hoffer.stays.2.trans hcapture, rfl, ?_, fun hc hring => ?_, fun hc hring => ?_,
    fun g e he hnone => ?_⟩
  · change acc.2.region g = _
    cases hjg : joins g with
    | some e => exact hjoined.joined g e hjg
    | none => exact hjoined.left g hjg
  · obtain ⟨hst, hmgmt, hcue⟩ := honly
    exact ⟨congrArg (fun v : State => { v with pool := if refs = 0 then u.pool else
      u.pool ++ [({ id := freshBuffer u.pool, packet := a.packet, refs := refs } : Buffer)] }) hst, hmgmt, hcue⟩
  · exact hoffer.flags .note (hfirst.dropped (by simp [capReason_some hc]) hring).2.2
  · have hready := hoffer.ready (hfirst.ready (by simp [capReason_some hc]) hring)
    have hclock : acc.2.clock = u.clock := (congrArg State.clock honly.1 :)
    unfold State.readyTold at hready
    rwa [hclock] at hready
  · have hflag := hjoined.overflow g e _ he hnone
    cases hk : k.cls with
    | essential => rw [hk] at hflag; exact hflag
    | expendable => rw [hk] at hflag; exact hflag

end Sys2Proof.Machine
end

section
/-!
PROOFS. The handling of a packet of a component: the continuity check and the meter, the reports of an anchor packet, and
the state in which the copies are made (R42, R52 to R56, R67).
-/
namespace Sys2Proof.Machine

variable {s t u m : State} {p : PortId} {a : Arrived} {rest : List Arrived} {c : ComponentId} {k : Component}
  {sl : SlotId} {v : VariantId} {d : VariantDef} {x : Target}

/-! ## The check and the meter together -/

/-- The state after the continuity check and the meter. -/
def metered (p : PortId) (a : Arrived) (c : ComponentId) (k : Component) (s : State) : State :=
  (meterPacket k a (checkContinuity p c k a.packet s)).2

/-- Only the ports, the meters and the variants may differ, and reports. -/
def OnlyChecks (s t : State) : Prop :=
  OnlyReports { s with ports := t.ports, meters := t.meters, variants := t.variants } t

theorem OnlyChecks.trans (h : OnlyChecks s t) (h' : OnlyChecks t u) : OnlyChecks s u := by
  obtain ⟨h1, h2, h3⟩ := h
  obtain ⟨g1, g2, g3⟩ := h'
  refine ⟨?_, h2.trans g2, h3.trans g3⟩
  rw [g1, h1]

theorem checked_only (p : PortId) (c : ComponentId) (k : Component) (q : Packet) (s : State) :
    checked p c k q s = { countNoted c k q s with ports := (checked p c k q s).ports } := by
  unfold checked
  split <;> rfl

theorem checkContinuity_checks : OnlyChecks (countNoted c k a.packet s) (checkContinuity p c k a.packet s) := by
  obtain ⟨hst, hmgmt, hcue⟩ := checkContinuity_only p c k a.packet s
  have hchecked := checked_only p c k a.packet s
  have hm : (checked p c k a.packet s).mgmt = (countNoted c k a.packet s).mgmt := (congrArg State.mgmt hchecked :)
  have hc : (checked p c k a.packet s).cueLink = (countNoted c k a.packet s).cueLink := (congrArg State.cueLink hchecked :)
  refine ⟨?_, by simpa only [hm] using hmgmt, by simpa only [hc] using hcue⟩
  rw [hst, hchecked]

theorem meterPacket_checks : OnlyChecks s (meterPacket k a s).2 := by
  obtain ⟨hst, hmgmt, hcue⟩ := meterPacket_only k a s
  refine ⟨?_, hmgmt, hcue⟩
  rw [hst]

theorem metered_only : OnlyChecks (countNoted c k a.packet s) (metered p a c k s) :=
  checkContinuity_checks.trans meterPacket_checks

/-- After a gap the port's CONTINUITY flag is set; nothing else of a port changes. -/
theorem metered_port (q : PortId) :
    (metered p a c k s).port q =
      if q = p ∧ isGap k.lastSeen a.packet then { s.port q with flags := { (s.port q).flags with continuity := true } }
      else s.port q := by
  have hm : (metered p a c k s).port q = (checkContinuity p c k a.packet s).port q :=
    (congrArg (fun x : State => x.port q) (meterPacket_only k a (checkContinuity p c k a.packet s)).1 :)
  have hc : (checkContinuity p c k a.packet s).port q = (checked p c k a.packet s).port q :=
    (congrArg (fun x : State => x.port q) (checkContinuity_only p c k a.packet s).1 :)
  rw [hm, hc]
  unfold checked
  cases isGap k.lastSeen a.packet with
  | false => simp [countNoted]
  | true =>
    rw [if_pos rfl]
    unfold gapFlagged countNoted
    by_cases hq : p = q
    · simp [hq]
    · simp [hq, Ne.symm hq]

theorem metered_variant (w : VariantId) :
    (metered p a c k s).variant w =
      if isGap k.lastSeen a.packet = true ∧ s.anchoring k.binding = some w then
        (s.variant w).map (VariantDef.gapped · s.clock)
      else s.variant w := by
  have hm : (metered p a c k s).variant w = (checkContinuity p c k a.packet s).variant w :=
    (congrArg (fun x : State => x.variant w) (meterPacket_only k a (checkContinuity p c k a.packet s)).1 :)
  rw [hm, checkContinuity_variant]

theorem checkContinuity_meters : (checkContinuity p c k a.packet s).meters = s.meters :=
  (congrArg State.meters (checkContinuity_only p c k a.packet s).1 :).trans
    (congrArg State.meters (checked_only p c k a.packet s) :)

theorem checkContinuity_meter (n : MeterId) : (checkContinuity p c k a.packet s).meter n = s.meter n := by
  unfold State.meter
  rw [checkContinuity_meters]

theorem metered_meter {n : MeterId} (h : k.meter ≠ some n ∨ (s.meter n).defn = none) :
    (metered p a c k s).meter n = s.meter n := by
  unfold metered
  rw [meterPacket_meter (by rwa [checkContinuity_meter]), checkContinuity_meter]

theorem checkContinuity_passes : (checkContinuity p c k a.packet s).passesMeter k a ↔ s.passesMeter k a := by
  unfold State.passesMeter
  simp only [checkContinuity_meter]

theorem metered_gap (h : isGap k.lastSeen a.packet = true) : (metered p a c k s).detected.note = true :=
  meterPacket_note (checkContinuity_detects h)

theorem metered_excess {n : MeterId} {e : MeterDef} (hm : k.meter = some n) (hd : (s.meter n).defn = some e)
    (hc : (e.refill a.arrival).credit < e.cost a.packet) (hk : k.cls = .essential) :
    (metered p a c k s).detected.note = true :=
  meterPacket_detects hm (by rw [checkContinuity_meter]; exact hd) hc hk

theorem gapped_slot (now : Clock) : (d.gapped now).slot = d.slot := by
  unfold VariantDef.gapped
  split <;> rfl

/-- A restart of the recovery timer leaves what an arrival and a recovery read of the variant, but for the timers. -/
theorem gapped_afterArrival (err : Bool) (now now' : Clock) :
    Route.afterArrival v (d.gapped now') err now = Route.afterArrival v d err now := by
  funext r
  unfold VariantDef.gapped
  split
  · rfl
  · rfl

/-- What the check and the meter leave for the reports: the slots, the routes, the schedule and the station time, and of each
variant all but its recovery timer. -/
structure ChecksOnly (s m : State) : Prop where
  slots : m.slots = s.slots
  routes : m.routes = s.routes
  clock : m.clock = s.clock
  schedule : SameSchedule s m
  variant : ∀ w, m.variant w = s.variant w ∨ m.variant w = (s.variant w).map (VariantDef.gapped · s.clock)

theorem metered_checks : ChecksOnly s (metered p a c k s) := by
  have h := (metered_only (p := p) (a := a) (c := c) (k := k) (s := s)).1
  refine ⟨(congrArg State.slots h :), (congrArg State.routes h :), (congrArg State.clock h :),
    ⟨(congrArg State.cues h :), (congrArg State.insertion h :), (congrArg State.changes h :), (congrArg State.falling h :),
      (congrArg State.station h :)⟩, fun w => ?_⟩
  rw [metered_variant]
  split
  · exact .inr rfl
  · exact .inl rfl

theorem ChecksOnly.variantSlot (h : ChecksOnly s m) (w : VariantId) :
    (m.variant w).map VariantDef.slot = (s.variant w).map VariantDef.slot := by
  rcases h.variant w with hw | hw
  · rw [hw]
  · rw [hw, Option.map_map]
    exact congrArg (fun f => (s.variant w).map f) (funext fun d => gapped_slot s.clock)

theorem ChecksOnly.anchorSource (h : ChecksOnly s m) (b : Binding) : m.anchorSource b = s.anchorSource b :=
  anchorSource_congr h.slots h.variantSlot b

theorem ChecksOnly.anchoring (h : ChecksOnly s m) (b : Binding) : m.anchoring b = s.anchoring b :=
  anchoring_congr h.slots h.variantSlot b

theorem ChecksOnly.route (h : ChecksOnly s m) (g : RegionId) (y : SlotId) : m.route g y = s.route g y := by
  unfold State.route
  rw [h.routes]

/-! ## The arrival report (R55, R87) -/

/-- How the arrival report of a packet moves the routes. -/
def State.arrivalRoute (s : State) (k : Component) (a : Arrived) (r : Route) : Route :=
  match s.anchoring k.binding with
  | none => r
  | some v =>
    match s.variant v with
    | none => r
    | some d => Route.afterArrival v d (errorFlag a.packet) s.clock r

theorem variant_of_anchoring {b : Binding} (h : s.anchoring b = some v) : ∃ d, s.variant v = some d := by
  unfold State.anchoring at h
  cases b with
  | unbound | common mask out | national y r => exact absurd h (by simp)
  | variant w r =>
    dsimp only at h
    cases hw : s.variant w with
    | none => simp [hw] at h
    | some d =>
      rw [hw] at h
      dsimp only at h
      split at h
      · split at h
        · exact ⟨d, Option.some.inj h ▸ hw⟩
        · exact absurd h (by simp)
      · exact absurd h (by simp)

/-- What the arrival report does after the check and the meter, said once. -/
structure ArrivalDone (s m : State) (k : Component) (a : Arrived) (u : State) : Prop where
  only : OnlyHealth m u
  route : ∀ g y, u.route g y = s.arrivalRoute k a (s.route g y)
  schedule : SameSchedule s u
  detected : u.detected = m.detected
  anchor : u.anchorSource k.binding = s.anchorSource k.binding
  none : s.anchoring k.binding = none → u = m

theorem arrived_slot (err gap : Bool) (now : Clock) : (d.arrived err gap now).slot = d.slot := by
  unfold VariantDef.arrived
  dsimp only
  split
  · split
    · rfl
    · split <;> rfl
  · rfl
  · rfl

theorem reportArrival_done (h : ChecksOnly s m) : ArrivalDone s m k a (reportArrival k.binding a.packet m) := by
  unfold reportArrival
  rw [h.anchoring]
  cases hanchor : s.anchoring k.binding with
  | none =>
    refine ⟨.refl m, fun g y => ?_, h.schedule, rfl, h.anchorSource _, fun _ => rfl⟩
    rw [h.route]
    simp [State.arrivalRoute, hanchor]
  | some v =>
    obtain ⟨d, hd⟩ := variant_of_anchoring hanchor
    obtain ⟨d', hd', hafter⟩ : ∃ d', m.variant v = some d' ∧
        Route.afterArrival v d' (errorFlag a.packet) = Route.afterArrival v d (errorFlag a.packet) := by
      rcases h.variant v with hw | hw
      · exact ⟨d, hw.trans hd, rfl⟩
      · exact ⟨_, by rw [hw, hd]; rfl, funext fun now => gapped_afterArrival _ now s.clock⟩
    have hmoves := anchorArrival_moves hd' (errorFlag a.packet)
    have honly := anchorArrival_only m v (errorFlag a.packet)
    refine ⟨honly, fun g y => ?_, h.schedule.trans hmoves.schedule, hmoves.detected, ?_,
      fun h => absurd (hanchor.symm.trans h) (by simp)⟩
    · dsimp only
      rw [hmoves.route, h.route, hafter, h.clock]
      simp [State.arrivalRoute, hanchor, hd]
    · have hslots : (anchorArrival v (errorFlag a.packet) m).slots = m.slots := (congrArg State.slots honly.1 :)
      refine (anchorSource_congr hslots (fun w => ?_) _).trans (h.anchorSource _)
      rw [hmoves.variant]
      split
      · next hv => rw [← hv, hd', Option.map_some, Option.map_some, arrived_slot]
      · rfl

/-! ## The mark report, and the state in which the copies are made (R56, R57) -/

/-- The state after the reports, in which the copies are made. -/
def reported (p : PortId) (a : Arrived) (c : ComponentId) (k : Component) (s : State) : State :=
  reportMark k.binding a.packet (reportArrival k.binding a.packet (metered p a c k s))

/-- Whether a packet is a mark (R56). -/
def marks (q : Packet) : Prop := entryFlag q = true ∧ errorFlag q = false

theorem reportMark_marks (h : m.anchorSource k.binding = some (sl, x)) (hq : marks a.packet) :
    reportMark k.binding a.packet m = takeMark sl x m := by
  unfold reportMark
  rw [h]
  simp [hq.1, hq.2]

theorem reportMark_skips (h : m.anchorSource k.binding = none ∨ ¬ marks a.packet) :
    reportMark k.binding a.packet m = m := by
  unfold reportMark
  split
  · next hs =>
    rcases h with h | h
    · exact absurd (hs.symm.trans h) (by simp)
    · refine if_neg fun he => h ?_
      simpa [marks] using he
  · rfl

theorem reportMark_only : OnlySwitching m (reportMark k.binding a.packet m) := by
  unfold reportMark
  split
  · split
    · exact takeMark_only _ _ _
    · exact .refl m
  · exact .refl m

theorem reportMark_detected : (reportMark k.binding a.packet m).detected = m.detected := by
  unfold reportMark
  split
  · split
    · exact takeMark_detected _
    · rfl
  · rfl

theorem reported_only : OnlyHealth (metered p a c k s) (reported p a c k s) :=
  (reportArrival_done metered_checks).only.trans reportMark_only.health

theorem reported_detected : (reported p a c k s).detected = (metered p a c k s).detected :=
  reportMark_detected.trans (reportArrival_done metered_checks).detected

theorem anchorSource_ne_none {b : Binding} : s.anchoring b ≠ none → s.anchorSource b ≠ none := by
  rw [anchoring_of_anchorSource]
  intro h hno
  rw [hno] at h
  exact h rfl

/-- A packet that is an anchor packet of nothing reports nothing. -/
theorem reported_none (h : s.anchorSource k.binding = none) : reported p a c k s = metered p a c k s := by
  have hdone := reportArrival_done (k := k) (a := a) (metered_checks (p := p) (a := a) (c := c) (k := k) (s := s))
  have hanchor : s.anchoring k.binding = none := by
    by_contra hne
    exact anchorSource_ne_none hne h
  unfold reported
  rw [reportMark_skips (.inl (hdone.anchor.trans h)), hdone.none hanchor]

/-- A packet that is no mark moves no cue. -/
theorem reported_unmarked (h : ¬ marks a.packet) : SameSchedule s (reported p a c k s) := by
  unfold reported
  rw [reportMark_skips (.inr h)]
  exact (reportArrival_done metered_checks).schedule

/-- Where no ACTIVE cue falls due again at once, the reports leave the event nothing more to deal with. -/
theorem reported_falling (h : s.anchorSource k.binding ≠ none → s.activesWait) :
    (reported p a c k s).falling = s.falling := by
  have hdone := reportArrival_done (k := k) (a := a) (metered_checks (p := p) (a := a) (c := c) (k := k) (s := s))
  by_cases hq : marks a.packet
  · cases hs : s.anchorSource k.binding with
    | none =>
      rw [reported_none hs]
      exact metered_checks.schedule.falling
    | some y =>
      obtain ⟨sl, x⟩ := y
      unfold reported
      rw [reportMark_marks (hdone.anchor.trans hs) hq,
        takeMark_falling (hdone.schedule.activesWait (h (by simp [hs])))]
      exact hdone.schedule.falling
  · exact (reported_unmarked hq).falling

/-- A mark reaches the routes of its slot as the arrival report leaves them. -/
theorem reported_marked (hs : s.anchorSource k.binding = some (sl, x)) (g : RegionId) (y : SlotId) :
    (reported p a c k s).route g y =
      if y = sl ∧ entryFlag a.packet = true ∧ errorFlag a.packet = false then (s.arrivalRoute k a (s.route g y)).marked x
      else s.arrivalRoute k a (s.route g y) := by
  have hdone := reportArrival_done (k := k) (a := a) (metered_checks (p := p) (a := a) (c := c) (k := k) (s := s))
  rw [← hdone.route]
  unfold reported
  by_cases hq : marks a.packet
  · rw [reportMark_marks (hdone.anchor.trans hs) hq, takeMark_route]
    simp only [and_iff_left (show entryFlag a.packet = true ∧ errorFlag a.packet = false from hq)]
  · rw [reportMark_skips (.inr hq), if_neg fun h => hq h.2]

/-- How the routes stand when the copies are made: as the arrival report leaves them, and then the mark (R56, R123). -/
theorem reported_route (g : RegionId) (y : SlotId) : (reported p a c k s).route g y = s.reportedRoute k a g y := by
  unfold State.reportedRoute
  cases hs : s.anchorSource k.binding with
  | none =>
    rw [reported_none hs]
    exact metered_checks.route g y
  | some z =>
    obtain ⟨sl, x⟩ := z
    have hanchor := anchoring_of_anchorSource (s := s) k.binding
    rw [hs] at hanchor
    rw [reported_marked hs]
    unfold State.arrivalRoute
    rw [hanchor]
    cases x with
    | national => rfl
    | variant v =>
      dsimp only
      cases s.variant v <;> rfl

/-! ## The handling as a whole -/

theorem handleMatched_passes (h : s.passesMeter k a) :
    handleMatched p a c k s =
      placeCopies p a k.capReason ((reported p a c k s).copies k) (reported p a c k s) := by
  unfold handleMatched
  dsimp only
  rw [if_pos (meterPacket_fst.2 (checkContinuity_passes.2 h))]
  rfl

theorem handleMatched_fails (h : ¬ s.passesMeter k a) : handleMatched p a c k s = metered p a c k s := by
  unfold handleMatched
  dsimp only
  rw [if_neg fun hp => h (checkContinuity_passes.1 (meterPacket_fst.1 hp))]
  rfl

/-- The arbiter's packet of a component is handled for that component (R41, R42, R50). -/
theorem State.takesFor.handles (h : State.takesFor s p a rest c k) :
    handlePacket p a (served p rest s) = handleMatched p a c k (served p rest s) := by
  obtain ⟨-, hnull, hadm, hmatch⟩ := h
  have hadm' : ((served p rest s).port p).admission = .admitted := by rw [served_port]; exact hadm
  have hmatch' : (served p rest s).matching p (ident a.packet) = some (c, k) := (matching_congr rfl).trans hmatch
  unfold handlePacket
  rw [hadm', hmatch']
  exact if_neg hnull

theorem State.takesFor.exec_take (h : State.takesFor s p a rest c k) :
    exec .classifierTake s = .next (settle (handleMatched p a c k (served p rest s))) := by
  rw [exec_classifierTake h.1, h.handles]

end Sys2Proof.Machine
end

section
/-!
PROOFS. The classifier: the ports served in turn, the component that a packet belongs to, its continuity check, its reports
and its copies (R41, R42, R50 to R53, R56 to R62, R123).
-/
namespace Sys2Proof.Machine

variable {s t u w m : State} {p : PortId} {a : Arrived} {rest : List Arrived} {c : ComponentId} {k : Component}
  {sl : SlotId} {v : VariantId} {d : VariantDef} {x : Target} {g : RegionId} {cap : Option CapReason}
  {xs : List RegionCopy}

/-! ## What the handling of a packet may change (R42) -/

theorem OnlyHandling.trans (h : OnlyHandling s t) (h' : OnlyHandling t u) : OnlyHandling s u := by
  obtain ⟨hst, hmgmt, hcue, hport, hcomp, hregion, hmeter⟩ := h
  obtain ⟨gst, gmgmt, gcue, gport, gcomp, gregion, gmeter⟩ := h'
  refine ⟨?_, hmgmt.trans gmgmt, hcue.trans gcue, fun p => ?_, fun c => ⟨fun hc => (gcomp c).1 ((hcomp c).1 hc), fun k hk => ?_⟩,
    fun g => ?_, fun m hm => ?_⟩
  · rw [gst, hst]
  · rw [gport p, hport p]
  · obtain ⟨n, hn⟩ := (hcomp c).2 k hk
    obtain ⟨n', hn'⟩ := (gcomp c).2 _ hn
    exact ⟨n', hn'⟩
  · rw [gregion g, hregion g]
  · have htm := hmeter m hm
    rw [gmeter m (by rw [htm]; exact hm), htm]

theorem OnlyHealth.handling (h : OnlyHealth s t) : OnlyHandling s t := by
  obtain ⟨hst, hmgmt, hcue⟩ := h
  have hport : ∀ p, t.port p = s.port p := fun p => (congrArg (fun x : State => x.port p) hst :)
  have hcomp : ∀ c, t.component c = s.component c := fun c => (congrArg (fun x : State => x.component c) hst :)
  have hregion : ∀ g, t.region g = s.region g := fun g => (congrArg (fun x : State => x.region g) hst :)
  have hmeter : ∀ m, t.meter m = s.meter m := fun m => (congrArg (fun x : State => x.meter m) hst :)
  refine ⟨?_, hmgmt, hcue, fun p => ?_, fun c => ⟨fun hc => ?_, fun k hk => ⟨k.lastSeen, ?_⟩⟩, fun g => ?_,
    fun m _ => hmeter m⟩
  · rw [hst]
  · rw [hport]
  · rw [hcomp, hc]
  · rw [hcomp, hk]
  · rw [hregion]

/-- Placing copies moves of a region its two queues alone. -/
theorem OnlyPlaces.handling (h : OnlyPlaces s t)
    (hregion : ∀ g, t.region g = { s.region g with mainQ := (t.region g).mainQ, expQ := (t.region g).expQ }) :
    OnlyHandling s t := by
  obtain ⟨hst, hmgmt, hcue⟩ := h
  have hport : ∀ p, t.port p = s.port p := fun p => (congrArg (fun x : State => x.port p) hst :)
  have hcomp : ∀ c, t.component c = s.component c := fun c => (congrArg (fun x : State => x.component c) hst :)
  have hmeter : ∀ m, t.meter m = s.meter m := fun m => (congrArg (fun x : State => x.meter m) hst :)
  refine ⟨?_, hmgmt, hcue, fun p => ?_, fun c => ⟨fun hc => ?_, fun k hk => ⟨k.lastSeen, ?_⟩⟩, hregion, fun m _ => hmeter m⟩
  · rw [hst]
  · rw [hport]
  · rw [hcomp, hc]
  · rw [hcomp, hk]

theorem OnlyPlaces.component (h : OnlyPlaces s t) (c : ComponentId) : t.component c = s.component c :=
  (congrArg (fun x : State => x.component c) h.1 :)

theorem OnlyPlaces.sameSchedule (h : OnlyPlaces s t) : SameSchedule s t :=
  ⟨(congrArg State.cues h.1 :), (congrArg State.insertion h.1 :), (congrArg State.changes h.1 :),
    (congrArg State.falling h.1 :), (congrArg State.station h.1 :)⟩

/-! ## What offered copies leave of a region and of a route -/

/-- Of each region only the queues move, and of each route only its mark-pending flag. -/
def QueuesAndMarks (s t : State) : Prop :=
  (∀ g, t.region g = { s.region g with mainQ := (t.region g).mainQ, expQ := (t.region g).expQ }) ∧
    ∀ g y, t.route g y = { s.route g y with markPending := (t.route g y).markPending }

theorem QueuesAndMarks.of_same (hr : t.regions = s.regions) (ho : t.routes = s.routes) : QueuesAndMarks s t := by
  have hregion : ∀ g, t.region g = s.region g := fun g => by unfold State.region; rw [hr]
  have hroute : ∀ g y, t.route g y = s.route g y := fun g y => by unfold State.route; rw [ho]
  exact ⟨fun g => by rw [hregion], fun g y => by rw [hroute]⟩

theorem QueuesAndMarks.trans (h : QueuesAndMarks s t) (h' : QueuesAndMarks t u) : QueuesAndMarks s u :=
  ⟨fun g => by rw [h'.1 g, h.1 g], fun g y => by rw [h'.2 g y, h.2 g y]⟩

theorem offerCopy_queues (buf : Nat) (acc : Nat × State) (y : RegionCopy) :
    QueuesAndMarks acc.2 (offerCopy buf a acc y).2 := by
  unfold offerCopy
  split
  · refine ⟨fun g => ?_, fun g z => ?_⟩
    · dsimp only
      rw [joinQueue_region]
      split
      · next hg =>
        rw [← hg]
        unfold Region.joined
        cases y.cls <;> rfl
      · rfl
    · dsimp only
      rw [joinQueue_route]
  · exact .of_same rfl rfl

theorem placeCopies_queues (p : PortId) (a : Arrived) (cap : Option CapReason) (xs : List RegionCopy) (s : State) :
    QueuesAndMarks s (placeCopies p a cap xs s) := by
  by_cases hcopies : cap ≠ none ∨ xs ≠ []
  · by_cases hfull : 4096 ≤ s.pool.length
    · rw [placeCopies_poolFull hcopies hfull]
      exact .of_same rfl rfl
    · rw [placeCopies_taken hcopies (Nat.not_le.1 hfull), keepBuffer_eq]
      have hfirst := (offerFirst_offered (freshBuffer s.pool) p a cap s).stays
      exact List.foldlRecOn xs _ (motive := fun acc => QueuesAndMarks s acc.2) (.of_same hfirst.1 hfirst.2.1)
        fun acc hacc y _ => hacc.trans (offerCopy_queues _ acc y)
  · obtain ⟨rfl, rfl⟩ : cap = none ∧ xs = [] := by simpa using hcopies
    exact .of_same rfl rfl

theorem placeCopies_handling : OnlyHandling s (placeCopies p a cap xs s) :=
  (placeCopies_only p a cap xs s).handling (placeCopies_queues p a cap xs s).1

/-- The check and the meter change no more than the handling may. -/
theorem metered_handling (hk : s.component c = some k) : OnlyHandling s (metered p a c k s) := by
  have honly := metered_only (p := p) (a := a) (c := c) (k := k) (s := s)
  obtain ⟨hst, hmgmt, hcue⟩ := honly
  have hcomp : ∀ e, (metered p a c k s).component e = (countNoted c k a.packet s).component e :=
    fun e => (congrArg (fun x : State => x.component e) hst :)
  have hregion : ∀ g, (metered p a c k s).region g = s.region g :=
    fun g => (congrArg (fun x : State => x.region g) hst :)
  have hnoted : ∀ e, (countNoted c k a.packet s).component e =
      if c = e then some { k with lastSeen := some (continuity a.packet) } else s.component e :=
    fun e => State.setComponent_component s c _ e
  refine ⟨?_, hmgmt, hcue, fun q => ?_, fun e => ?_, fun g => by rw [hregion], fun m hm => metered_meter (.inr hm)⟩
  · rw [hst]
    rfl
  · rw [metered_port]
    split <;> rfl
  · rw [hcomp, hnoted]
    by_cases he : c = e
    · subst he
      rw [if_pos rfl]
      refine ⟨fun h => absurd (hk.symm.trans h) (by simp), fun f hf => ?_⟩
      obtain rfl := Option.some.inj (hk.symm.trans hf)
      exact ⟨_, rfl⟩
    · rw [if_neg he]
      exact ⟨id, fun f hf => ⟨f.lastSeen, hf⟩⟩

theorem handleMatched_handling (hk : s.component c = some k) : OnlyHandling s (handleMatched p a c k s) := by
  by_cases hpass : s.passesMeter k a
  · rw [handleMatched_passes hpass]
    exact ((metered_handling hk).trans reported_only.handling).trans placeCopies_handling
  · rw [handleMatched_fails hpass]
    exact metered_handling hk

theorem applyPolicy_handling (pol : Policy) (why : CapReason) : OnlyHandling s (applyPolicy pol why p a s) := by
  unfold applyPolicy
  cases pol with
  | discard => exact (OnlyHealth.refl s).handling
  | capture => exact placeCopies_handling

theorem handlePacket_handling : OnlyHandling s (handlePacket p a s) := by
  unfold handlePacket
  split
  · split
    · exact (OnlyHealth.refl s).handling
    · exact applyPolicy_handling _ _
  · split
    · exact (OnlyHealth.refl s).handling
    · split
      · exact applyPolicy_handling _ _
      · next hmatch => exact handleMatched_handling (component_of_matching hmatch)

/-- Settles O17: the arbiter's search finds the first port in turn with a packet, and each step of the handling keeps to
what R42 lets it change. -/
theorem classifierServesPortsInTurn : Obligations.ClassifierServesPortsInTurn := by
  refine ⟨fun s hempty => ?_, fun p a rest s hs => ⟨_, exec_classifierTake hs, ?_⟩⟩
  · have hnone : s.nextPort = none := List.find?_eq_none.2 fun p _ => by simp [hempty p]
    have htake : takePacket s = s := by
      unfold takePacket
      rw [hnone]
    exact congrArg Host.Outcome.next htake
  · exact handlePacket_handling.trans (settle_only _).health.handling

/-! ## The component that a packet belongs to (R50, R52) -/

theorem handleMatched_component (e : ComponentId) :
    (handleMatched p a c k s).component e =
      if e = c then some { k with lastSeen := some (continuity a.packet) } else s.component e := by
  have hmetered : (metered p a c k s).component e = (countNoted c k a.packet s).component e :=
    (congrArg (fun x : State => x.component e) (metered_only (p := p) (a := a) (c := c) (k := k) (s := s)).1 :)
  have hnoted : (countNoted c k a.packet s).component e =
      if e = c then some { k with lastSeen := some (continuity a.packet) } else s.component e := by
    rw [countNoted, State.setComponent_component]
    simp only [eq_comm]
  rw [← hnoted, ← hmetered]
  by_cases hpass : s.passesMeter k a
  · rw [handleMatched_passes hpass, (placeCopies_only _ _ _ _ _).component, reported_only.component]
  · rw [handleMatched_fails hpass]

/-- Settles O19: the search over the component table finds the best candidate, and the continuity check notes the packet's
count in it. -/
theorem matchingPicksTheMostSpecificEntry : Obligations.MatchingPicksTheMostSpecificEntry := by
  refine ⟨fun p i s => ⟨matching_none_iff, fun c k => ?_⟩, fun p a rest c k s h => ⟨_, h.exec_take, fun e => ?_⟩⟩
  · rw [matching_some_iff]
    constructor
    · rintro ⟨-, ⟨hk, hport, hident⟩, hmost⟩
      exact ⟨hk, hport, hident, fun d e hd hp hi => hmost d (by simp) e ⟨hd, hp, hi⟩⟩
    · rintro ⟨hk, hport, hident, hmost⟩
      exact ⟨by simp, ⟨hk, hport, hident⟩, fun d _ e ⟨hd, hp, hi⟩ => hmost d e hd hp hi⟩
  · rw [(settle_only _).health.component, handleMatched_component]
    rfl

/-! ## The continuity check alone (R52, R53) -/

theorem isGap_true {q : Packet} {n : Continuity} (hd : discFlag q = false) (hn : continuity q ≠ n)
    (hp : carriesPayload q = true → continuity q ≠ n + 1) : isGap (some n) q = true := by
  unfold isGap
  by_cases hc : carriesPayload q = true
  · simp [hd, hc, hn]
    exact hp hc
  · simp [hd, hc, hn]

theorem isGap_false {last : Option Continuity} {q : Packet}
    (h : last = none ∨ discFlag q = true ∨ last = some (continuity q) ∨
      (carriesPayload q = true ∧ ∃ n, last = some n ∧ continuity q = n + 1)) : isGap last q = false := by
  unfold isGap
  rcases h with rfl | hd | rfl | ⟨hc, n, rfl, hn⟩
  · rfl
  · cases last <;> simp [hd]
  · simp
  · simp [hc, hn]

/-- The handling of a packet of an UNBOUND component without meter or capture flag is its continuity check. -/
theorem handleMatched_unbound (hb : k.binding = .unbound) (hm : k.meter = none) (hc : k.capture = false) :
    handleMatched p a c k s = checkContinuity p c k a.packet s := by
  have hpass : s.passesMeter k a := .inr fun m d h => absurd (hm.symm.trans h) (by simp)
  have hmetered : metered p a c k s = checkContinuity p c k a.packet s := by
    unfold metered meterPacket
    rw [hm]
  have hanchor : s.anchorSource k.binding = none := by rw [hb]; rfl
  have hcopies : ∀ y : State, y.copies k = [] := fun y => by unfold State.copies; rw [hb]
  have hcap : k.capReason = none := if_neg (by simp [hc])
  rw [handleMatched_passes hpass, hcopies, hcap, reported_none hanchor, hmetered]
  exact placeCopies_none

theorem checkContinuity_falling : (checkContinuity p c k a.packet s).falling = s.falling :=
  (congrArg State.falling (checkContinuity_checks (p := p) (a := a) (c := c) (k := k) (s := s)).1 :)

/-- Settles O20: the packet is handled by its continuity check, and each count is a gap or is none. -/
theorem continuityGapIsReported : Obligations.ContinuityGapIsReported := by
  intro p a rest c k s u v hf htake hb hm hc hu hv
  subst hu
  have hexec : exec .classifierTake s = .next (checkContinuity p c k a.packet (served p rest s)) := by
    rw [htake.exec_take, handleMatched_unbound hb hm hc, settle_nil]
    exact checkContinuity_falling.trans hf
  rw [hexec]
  refine ⟨fun n hlast hdisc hn hp => congrArg _ ?_, fun hsteady => congrArg _ (checkContinuity_steady (isGap_false hsteady))⟩
  have hgap : isGap k.lastSeen a.packet = true := hlast ▸ isGap_true hdisc hn hp
  have hflags : ((countNoted c k a.packet (served p rest s)).port p).flags = (s.port p).flags := by
    change ((served p rest s).port p).flags = _
    rw [served_port]
  have hv' : gapFlagged p (countNoted c k a.packet (served p rest s)) = v := hv.symm
  rw [checkContinuity_gap hgap, hb]
  unfold gapReported
  rw [raiseFlag_continuity, hflags, hv']
  rfl

/-! ## Reports and copies (R53, R56 to R62) -/

theorem OnlyChecks.reports (h : OnlyChecks s m) (hv : m.variants = s.variants) :
    OnlyReports { s with ports := m.ports, meters := m.meters } m := by
  obtain ⟨hst, hmgmt, hcue⟩ := h
  refine ⟨?_, hmgmt, hcue⟩
  rw [hst, hv]

theorem OnlyChecks.health (h : OnlyChecks s m) (h' : OnlyHealth m u) :
    OnlyHealth { s with ports := u.ports, meters := u.meters } u := by
  obtain ⟨h1, h2, h3⟩ := h
  obtain ⟨g1, g2, g3⟩ := h'
  refine ⟨?_, h2.trans g2, h3.trans g3⟩
  rw [g1, h1]

theorem metered_variants (h : s.anchoring k.binding = none) : (metered p a c k s).variants = s.variants := by
  refine Vector.ext fun i hi => ?_
  have := metered_variant (p := p) (a := a) (c := c) (k := k) (s := s) ⟨i, hi⟩
  rw [h, if_neg fun hv => absurd hv.2 (by simp)] at this
  exact this

/-- The state in which the copies of the arbiter's packet are made is the one that the rules put. -/
theorem reported_reportedBy (hpass : s.passesMeter k a) :
    ReportedBy p a rest c k s (reported p a c k (served p rest s)) := by
  have hchecks := metered_only (p := p) (a := a) (c := c) (k := k) (s := served p rest s)
  have honly := reported_only (p := p) (a := a) (c := c) (k := k) (s := served p rest s)
  refine ⟨hchecks.health honly, fun q => (honly.port q).trans (metered_port q), fun hgap => ?_, fun m hm => ?_,
    fun m d hm hd hc => ?_, fun g y => reported_route g y, fun hq => ?_, fun hs => ?_⟩
  · rw [reported_detected]
    exact metered_gap hgap
  · have : (reported p a c k (served p rest s)).meter m = (metered p a c k (served p rest s)).meter m :=
      (congrArg (fun x : State => x.meter m) honly.1 :)
    rw [this]
    exact metered_meter (.inl hm)
  · rw [reported_detected]
    refine metered_excess (s := served p rest s) hm hd hc ?_
    rcases hpass with hk | hle
    · exact hk
    · exact absurd (hle m d hm hd) (Nat.not_le.2 hc)
  · have hunmarked : ¬ marks a.packet := by
      rintro ⟨hentry, herr⟩
      rcases hq with h | h
      · exact absurd (hentry.symm.trans h) (by decide)
      · exact absurd (herr.symm.trans h) (by decide)
    have hsame := reported_unmarked (p := p) (c := c) (k := k) (s := served p rest s) hunmarked
    exact ⟨hsame.cues, hsame.insertion, hsame.changes⟩
  · have hanchor : (served p rest s).anchoring k.binding = none := by
      by_contra hne
      exact anchorSource_ne_none hne hs
    rw [reported_none (s := served p rest s) hs]
    exact hchecks.reports (metered_variants hanchor)

/-- The placed packet of the arbiter, where no cue of the event falls due again. -/
theorem State.takesFor.placed (h : State.takesFor s p a rest c k) (hf : s.falling = [])
    (hw : s.anchorSource k.binding ≠ none → s.activesWait) (hpass : s.passesMeter k a) :
    exec .classifierTake s =
      .next (placeCopies p a k.capReason ((reported p a c k (served p rest s)).copies k)
        (reported p a c k (served p rest s))) := by
  rw [h.exec_take, handleMatched_passes (s := served p rest s) hpass, settle_nil]
  rw [(placeCopies_only _ _ _ _ _).sameSchedule.falling]
  exact (reported_falling (s := served p rest s) hw).trans hf

theorem State.dailiesWait.actives (h : s.dailiesWait) : s.activesWait := fun c hc _ => h c hc

/-- Settles O22: a packet that its meter discards stops at the meter; any other is reported, and its copies are placed in
the state that the reports leave. -/
theorem packetsAreQueuedForTheirRegions : Obligations.PacketsAreQueuedForTheirRegions := by
  intro p a rest c k s hf htake hdaily
  refine ⟨fun hfail => ?_, fun hpass => ?_⟩
  · have hchecks := (metered_only (p := p) (a := a) (c := c) (k := k) (s := served p rest s)).1
    refine ⟨metered p a c k (served p rest s), ?_, (congrArg State.regions hchecks :), (congrArg State.routes hchecks :),
      (congrArg State.pool hchecks :), (congrArg State.capture hchecks :)⟩
    rw [htake.exec_take, handleMatched_fails (s := served p rest s) hfail, settle_nil]
    exact metered_checks.schedule.falling.trans hf
  · exact ⟨_, _, htake.placed hf (fun h => (hdaily h).actives) hpass, reported_reportedBy hpass, placeCopies_placed p a k _⟩

/-! ## A mark (R123) -/

/-- The routes that a mark of a source reaches in its slot: those that wait for it. -/
def Route.waitsForMark (r : Route) (x : Target) : Prop :=
  (∃ cue d, r.state = .pendingSplice x cue d) ∨ ∃ v d, x = .variant v ∧ r.state = .returning v d

theorem Route.marked_waiting {r : Route} (h : r.waitsForMark x) : r.marked x = r.switchTo x := by
  unfold Route.marked
  rcases h with ⟨cue, d, hs⟩ | ⟨v, d, rfl, hs⟩
  · rw [hs]
    exact if_pos rfl
  · rw [hs]
    exact if_pos rfl

theorem Route.marked_other {r : Route} (h : ¬ r.waitsForMark x) : r.marked x = r := by
  unfold Route.marked
  split
  · next y cue d hs => exact if_neg fun e : y = x => h (.inl ⟨cue, d, e ▸ hs⟩)
  · next v d hs => exact if_neg fun e => h (.inr ⟨v, d, e, hs⟩)
  all_goals rfl

/-- The arrival of a variant that is HEALTHY moves no route. -/
theorem arrivalRoute_fit (hs : s.anchorSource k.binding = some (sl, x)) (hx : s.fit x = true) (r : Route) :
    s.arrivalRoute k a r = r := by
  have hanchor := anchoring_of_anchorSource (s := s) k.binding
  rw [hs] at hanchor
  unfold State.arrivalRoute
  rw [hanchor]
  cases x with
  | national => rfl
  | variant v =>
    dsimp only
    cases hv : s.variant v with
    | none => rfl
    | some d =>
      have hhealth : d.health = .healthy := by simpa [State.fit, State.healthy, hv] using hx
      exact if_neg fun h => absurd (hhealth.symm.trans h.1) (by decide)

/-- Settles O40: the mark switches the routes of its slot that wait, each with its outcome, and the copies that follow move
mark-pending flags alone. -/
theorem marksSwitchWaitingRoutes : Obligations.MarksSwitchWaitingRoutes := by
  intro p a rest c k sl x s hf htake hpass hs hx hdaily hentry herr
  have hq : marks a.packet := ⟨hentry, herr⟩
  refine ⟨_, htake.placed hf (fun _ => hdaily.actives) hpass, fun hids hins => ?_, fun g y => ?_⟩
  · have hdone := reportArrival_done (k := k) (a := a)
      (metered_checks (p := p) (a := a) (c := c) (k := k) (s := served p rest s))
    have hmarked : ((reportArrival k.binding a.packet (metered p a c k (served p rest s))).markedOutcomes sl x) =
        s.markedOutcomes sl x := by
      unfold State.markedOutcomes
      refine List.filterMap_congr fun g _ => ?_
      rw [hdone.route, arrivalRoute_fit (s := served p rest s) hs hx]
      rfl
    have hgives := takeMark_gives (reportArrival k.binding a.packet (metered p a c k (served p rest s))) sl x
    rw [hmarked] at hgives
    have hfrom : SameSchedule s (reportArrival k.binding a.packet (metered p a c k (served p rest s))) := by
      obtain ⟨h1, h2, h3, h4, h5⟩ := hdone.schedule
      exact ⟨h1, h2, h3, h4, h5⟩
    have hsame := (hfrom.giveAll (s.markedOutcomes sl x)).trans hgives
    rw [← reportMark_marks (hdone.anchor.trans hs) hq] at hsame
    have hplaced := hsame.trans (placeCopies_only p a k.capReason
      ((reported p a c k (served p rest s)).copies k) (reported p a c k (served p rest s))).sameSchedule
    have hlen := markedOutcomes_length s sl x
    exact ⟨_, giveAll_gives hids (by omega) hdaily.actives, hplaced.cues, hplaced.insertion, hplaced.changes⟩
  · have hroute := (placeCopies_queues p a k.capReason
      ((reported p a c k (served p rest s)).copies k) (reported p a c k (served p rest s))).2 g y
    rw [reported_marked (s := served p rest s) hs, arrivalRoute_fit (s := served p rest s) hs hx] at hroute
    generalize placeCopies p a _ _ _ = t at hroute ⊢
    generalize (t.route g y).markPending = mp at hroute
    refine ⟨mp, fun h => ?_, fun h => ?_⟩
    · rw [hroute, if_pos ⟨h.1, hq⟩]
      exact congrArg (fun r : Route => { r with markPending := mp }) (Route.marked_waiting h.2)
    · rw [hroute]
      by_cases hy : y = sl
      · rw [if_pos ⟨hy, hq⟩]
        exact congrArg (fun r : Route => { r with markPending := mp }) (Route.marked_other fun ha => h ⟨hy, ha⟩)
      · rw [if_neg fun e => hy e.1]
        rfl

end Sys2Proof.Machine
end

section
/-!
PROOFS. What a rewriting of registrations does to a region and to the regions together (R47, R157, R158).
-/
namespace Sys2Proof.Machine

variable {s : State} {r : Region} {own : RegEntry → Bool} {want : List Registration} {e : RegEntry} {g : RegionId}

/-! ## One region -/

theorem foldl_register_only (want : List Registration) (r : Region) :
    want.foldl Region.register r =
      { r with registry := (want.foldl Region.register r).registry, drains := (want.foldl Region.register r).drains } := by
  induction want generalizing r with
  | nil => rfl
  | cons x want ih =>
    rw [List.foldl_cons, ih, Region.register_only]

/-- A rewriting changes the registry and the drain records alone. -/
theorem Region.rewrite_only (r : Region) (own : RegEntry → Bool) (want : List Registration) :
    r.rewrite own want =
      { r with registry := (r.rewrite own want).registry, drains := (r.rewrite own want).drains } := by
  unfold Region.rewrite
  rw [foldl_register_only]
  rfl

theorem Region.rewrite_queues (r : Region) (own : RegEntry → Bool) (want : List Registration) :
    (r.rewrite own want).mainQ = r.mainQ ∧ (r.rewrite own want).expQ = r.expQ :=
  ⟨(congrArg Region.mainQ (r.rewrite_only own want) :), (congrArg Region.expQ (r.rewrite_only own want) :)⟩

/-- Nothing asked for: the writer's registrations are given up. -/
theorem Region.rewrite_nil (r : Region) (own : RegEntry → Bool) : r.rewrite own [] = r.without own := by
  have hown : (fun e => own e && !RegEntry.among e []) = own := by
    funext e
    simp [RegEntry.among]
  unfold Region.rewrite
  rw [hown, Region.giveUp_eq]
  rfl

/-- The registrations of a list, of which each identifier has one definer: every entry is kept, and the identifiers that are
new start with last count 15 and nothing owed. -/
theorem mem_foldl_register (hwant : ∀ x ∈ want, ∀ y ∈ want, x.1 = y.1 → x = y) (r : Region) :
    e ∈ (want.foldl Region.register r).registry ↔
      e ∈ r.registry ∨
        ((e.ident, e.definer) ∈ want ∧ (∀ y ∈ r.registry, y.ident ≠ e.ident) ∧ e.last = 15 ∧ e.owed = false) := by
  induction want generalizing r with
  | nil => simp
  | cons x want ih =>
    rw [List.foldl_cons, ih (fun a ha b hb => hwant a (by simp [ha]) b (by simp [hb])), Region.mem_register]
    constructor
    · rintro ((he | ⟨hnew, rfl⟩) | ⟨hmem, hnew, hlast, howed⟩)
      · exact .inl he
      · exact .inr ⟨by simp, hnew, rfl, rfl⟩
      · exact .inr ⟨by simp [hmem], fun y hy => hnew y ((r.mem_register y x).2 (.inl hy)), hlast, howed⟩
    · rintro (he | ⟨hmem, hnew, hlast, howed⟩)
      · exact .inl (.inl he)
      · by_cases hid : x.1 = e.ident
        · obtain rfl : x = (e.ident, e.definer) := hwant x (by simp) _ hmem hid
          refine .inl (.inr ⟨hnew, ?_⟩)
          rw [← hlast, ← howed]
        · refine .inr ⟨?_, fun y hy => ?_, hlast, howed⟩
          · rcases List.mem_cons.1 hmem with h | h
            · exact absurd (congrArg Prod.fst h).symm hid
            · exact h
          · rcases (r.mem_register y x).1 hy with hy | ⟨-, rfl⟩
            · exact hnew y hy
            · exact hid

theorem mem_giveUp (which : RegEntry → Bool) (r : Region) :
    e ∈ (r.giveUp which).registry ↔ e ∈ r.registry ∧ which e = false := by
  simp [Region.giveUp]

theorem among_iff : e.among want = true ↔ (e.ident, e.definer) ∈ want := by
  simp [RegEntry.among]

/-- Where every identifier asked for has one definer, and none of them stands in the registry with another, a rewriting is
what the rules say. -/
theorem Region.rewrite_registers (hwant : ∀ x ∈ want, ∀ y ∈ want, x.1 = y.1 → x = y)
    (hfree : ∀ x ∈ want, ∀ e ∈ r.registry, e.ident = x.1 → e.definer = x.2) :
    Registers own want r (r.rewrite own want) := by
  refine ⟨r.rewrite_only own want, fun e => ?_⟩
  unfold Region.rewrite
  rw [mem_foldl_register hwant, mem_giveUp]
  have hkept : (own e && !e.among want) = false ↔ own e = false ∨ (e.ident, e.definer) ∈ want := by
    rw [← among_iff (want := want)]
    cases own e <;> cases e.among want <;> simp
  have hnew : (e.ident, e.definer) ∈ want →
      ((∀ y ∈ (r.giveUp fun e => own e && !e.among want).registry, y.ident ≠ e.ident) ↔
        ∀ y ∈ r.registry, y.ident ≠ e.ident) := by
    intro hmem
    constructor
    · intro h y hy hid
      have hdef := hfree _ hmem y hy hid
      have hamong : y.among want = true := among_iff.2 (by rw [hid, hdef]; exact hmem)
      exact h y ((mem_giveUp _ r).2 ⟨hy, by simp [hamong]⟩) hid
    · exact fun h y hy => h y ((mem_giveUp _ r).1 hy).1
  rw [hkept]
  constructor
  · rintro (h | ⟨hmem, h, hrest⟩)
    · exact .inl h
    · exact .inr ⟨hmem, (hnew hmem).1 h, hrest⟩
  · rintro (h | ⟨hmem, h, hrest⟩)
    · exact .inl h
    · exact .inr ⟨hmem, (hnew hmem).2 h, hrest⟩

/-- What is asked for counts as a set. -/
theorem Registers.congr {want' : List Registration} {r' : Region} (h : Registers own want r r')
    (hw : ∀ x, x ∈ want' ↔ x ∈ want) : Registers own want' r r' := by
  refine ⟨h.1, fun e => ?_⟩
  rw [h.2, hw]

/-! ## The regions together -/

theorem foldl_rewrite_region (want : RegionId → List Registration) {l : List RegionId} (hl : l.Nodup) (s : State) :
    (l.foldl (fun t g => t.setRegion g ((t.region g).rewrite own (want g))) s).region g =
      if g ∈ l then (s.region g).rewrite own (want g) else s.region g := by
  induction l generalizing s with
  | nil => simp
  | cons h l ih =>
    rw [List.nodup_cons] at hl
    rw [List.foldl_cons, ih hl.2, State.setRegion_region]
    by_cases hg : h = g
    · subst hg
      simp [hl.1]
    · simp [hg, Ne.symm hg]

theorem foldl_rewrite_only (own : RegEntry → Bool) (want : RegionId → List Registration) (l : List RegionId) (s : State) :
    l.foldl (fun t g => t.setRegion g ((t.region g).rewrite own (want g))) s =
      { s with regions := (l.foldl (fun t g => t.setRegion g ((t.region g).rewrite own (want g))) s).regions } :=
  List.foldlRecOn l _ (motive := fun t : State => t = { s with regions := t.regions }) rfl fun t ht g _ =>
    congrArg (fun u : State => { u with regions := (t.setRegion g ((t.region g).rewrite own (want g))).regions }) ht

/-- Every region's registrations are rewritten, and nothing else changes. -/
theorem rewriteAll_only (own : RegEntry → Bool) (want : RegionId → List Registration) (s : State) :
    rewriteAll own want s = { s with regions := (rewriteAll own want s).regions } := foldl_rewrite_only own want _ s

theorem rewriteAll_region (own : RegEntry → Bool) (want : RegionId → List Registration) (s : State) (g : RegionId) :
    (rewriteAll own want s).region g = (s.region g).rewrite own (want g) := by
  unfold rewriteAll
  rw [foldl_rewrite_region want (List.nodup_finRange 8) s, if_pos (List.mem_finRange g)]

/-! ## The registration test (R157) -/

/-- A region takes what is asked for where no other definer holds an identifier of it and there is room. -/
theorem testAll_none (hfree : ∀ x ∈ want, ∀ e ∈ r.registry, e.ident = x.1 → e.definer = x.2)
    (hroom : r.registry.length + want.length ≤ 192) : r.testAll own want = none := by
  have hconflict : want.findSome? r.conflict = none := by
    refine List.findSome?_eq_none_iff.2 fun x hx => ?_
    unfold Region.conflict
    split
    · next e he =>
      obtain ⟨hmem, hid⟩ := r.lookup_some _ _ he
      exact if_pos (hfree x hx e hmem hid)
    · rfl
  have hlen : (r.registry.filter fun e => !(own e && !e.among want)).length + (r.missing want).length ≤ 192 := by
    have h1 := List.length_filter_le (fun e => !(own e && !e.among want)) r.registry
    have h2 : (r.missing want).length ≤ want.length := List.length_filter_le _ _
    omega
  unfold Region.testAll
  rw [hconflict]
  exact if_pos hlen

/-- The first region that refuses decides. -/
theorem findSome?_finRange {n : Nat} {β : Type} {f : Fin n → Option β} {i : Fin n} {b : β} (hi : f i = some b)
    (hbefore : ∀ j < i, f j = none) : (List.finRange n).findSome? f = some b := by
  obtain ⟨pre, post, hl⟩ := List.append_of_mem (List.mem_finRange i)
  have hsorted := List.pairwise_lt_finRange n
  rw [hl] at hsorted ⊢
  refine List.findSome?_eq_some_iff.2 ⟨pre, i, post, rfl, hi, fun j hj => hbefore j ?_⟩
  exact (List.pairwise_append.1 hsorted).2.2 j hj i (by simp)

theorem regRefusal_none {want : RegionId → List Registration} (h : ∀ g, (s.region g).testAll own (want g) = none) :
    s.regRefusal own want = none :=
  List.findSome?_eq_none_iff.2 fun g _ => by rw [h g]; rfl

theorem regRefusal_some {want : RegionId → List Registration} {why : RegRefusal}
    (hg : (s.region g).testAll own (want g) = some why) (hbefore : ∀ h < g, (s.region h).testAll own (want h) = none) :
    s.regRefusal own want = some (g, why) :=
  findSome?_finRange (by rw [hg]; rfl) fun h hh => by rw [hbefore h hh]; rfl

end Sys2Proof.Machine
end

section
/-!
PROOFS. The three requests of the component table: the body that COMPONENT_WRITE reads, its refusals in their order, and what
a write, a clear and a read leave (R45 to R49, R157, R158).
-/
namespace Sys2Proof.Machine

variable {s : State} {c : ComponentId} {k : Component} {g : RegionId}

/-! ## A request that its block refuses -/

/-- A request row refuses a body that its reader takes and its block does not accept. -/
theorem refuses_of_serve {α : Type} {l : Link} {kind : Byte} {body : List Byte} {r : Result} {refs : List ObjRef}
    {m : List Byte → Bool} {p : List Byte → Option α} {run : α → State → Answer} {a : α}
    (hx : ∀ t, exec (commandOf l kind) t = .next (serve l kind m p run t)) (hc : canTake l s)
    (hm : l = .management ∨ m body = false) (hp : p body = some a) (hr : run a s = .refused r refs) :
    Refuses l kind body s r refs := by
  intro tag
  have hs := serve_received s l { kind := kind, tag := tag, body := body } m p run hc
  rw [hx, hs]
  rcases hm with rfl | hm <;> simp [answerRequest, *]

/-! ## The body of COMPONENT_WRITE (R45, R200) -/

/-- The entry that a COMPONENT_WRITE writes: its match identifier masked, and nothing last seen. -/
def Component.written (k : Component) : Component := { k with ident := k.ident &&& k.mask, lastSeen := none }

theorem rBinding_eBinding {b : Binding} (h : b = .unbound ∨ ∃ mask out, b = .common mask out) :
    rBinding (eBinding b) = some (b, []) := by
  rcases h with rfl | ⟨mask, out, rfl⟩
  · rfl
  · have hident := rIdent_e2 out []
    rw [List.append_nil] at hident
    have hthen : rThen rByte rIdent ([mask] ++ e2 out.toNat) = some ((mask, out), []) :=
      rThen_some _ _ _ (e2 out.toNat) [] mask out rfl hident
    have hbytes : eBinding (.common mask out) = 1 :: ([mask] ++ e2 out.toNat) := rfl
    rw [hbytes]
    unfold rBinding
    dsimp only
    rw [if_neg (by decide), if_pos rfl, hthen]
    rfl

theorem released_iff : k.released = true ↔ k.binding = .unbound ∨ ∃ mask out, k.binding = .common mask out := by
  unfold Component.released
  cases k.binding <;> simp

/-- A COMPONENT_WRITE reads as the entry that it writes. -/
theorem readAll_componentRequest (c : ComponentId) (hk : k.released = true) :
    readAll rComponentWrite (componentRequest c k) = some (c, k.written) := by
  have hcls : [CompClass.essential, .expendable][k.cls.code]? = some k.cls ∧ k.cls.code < 256 := by
    cases k.cls <;> exact ⟨rfl, by decide⟩
  have hmeter : ∀ rest, rOpt (rIndex 32) (eOpt (fun m : MeterId => e1 m) k.meter ++ rest) = some (k.meter, rest) := by
    intro rest
    cases k.meter with
    | none => exact rOpt_none _ _ _
    | some m => exact rOpt_some _ _ _ _ (rIndex_e1 m (by decide) _)
  have hflag : ∀ (b : Bool) rest, rFlag (e1 b.toNat ++ rest) = some (b, rest) := rFlag_eFlag
  refine readAll_some _ _ _ ?_
  simp only [rComponentWrite, componentRequest, List.append_assoc]
  rw [rThen_some _ _ _ _ _ _ _ (rIndex_e1 c (by decide) _)
    (rThen_some _ _ _ _ _ _ _ (rIndex_e1 k.port (by decide) _)
      (rThen_some _ _ _ _ _ _ _ (rIdent_e2 k.ident _)
        (rThen_some _ _ _ _ _ _ _ (rIdent_e2 k.mask _)
          (rThen_some _ _ _ _ _ _ _ (rEnum_e1 _ k.cls.code k.cls _ hcls.2 hcls.1)
            (rThen_some _ _ _ _ _ _ _ (hflag k.clockBearing _)
              (rThen_some _ _ _ _ _ _ _ (hmeter _)
                (rThen_some _ _ _ _ _ _ _ (hflag k.capture _)
                  (rBinding_eBinding (released_iff.1 hk)))))))))]
  rfl

/-! ## The refusals of COMPONENT_WRITE (R45) -/

theorem meterNamed_iff : s.meterNamed k = true ↔ ∀ m, k.meter = some m → (s.meter m).defn ≠ none := by
  unfold State.meterNamed
  cases k.meter with
  | none => simp
  | some m => simp [Option.isSome_iff_ne_none]

/-- Under the full mask an identifier is masked to itself. -/
theorem nullMatch_iff :
    (decide (k.written.mask = fullMask) && isNull k.written.ident) = true ↔ k.mask = 0x1FFF ∧ k.ident = 8191 := by
  unfold isNull
  rw [Bool.and_eq_true, decide_eq_true_iff, decide_eq_true_iff]
  change k.mask = 0x1FFF ∧ k.ident &&& k.mask = 8191 ↔ _
  refine and_congr_right fun hm => ?_
  have hall : k.ident &&& k.mask = k.ident := by
    rw [hm]
    exact BitVec.and_allOnes
  rw [hall]

theorem sameMatch_iff :
    s.sameMatch c k = true ↔
      ∃ d e, d ≠ c ∧ s.component d = some e ∧ e.port = k.port ∧ e.mask = k.mask ∧ e.ident = k.ident := by
  unfold State.sameMatch
  rw [List.any_eq_true]
  refine exists_congr fun d => ?_
  cases hd : s.component d with
  | none => simp
  | some e => simp

theorem commonOk_iff :
    k.commonOk = true ↔ ∀ mask out, k.binding = .common mask out → k.mask = 0x1FFF ∧ mask ≠ 0 ∧ out ≠ 8191 := by
  unfold Component.commonOk
  cases k.binding with
  | common mask out =>
    unfold isNull
    have hfull : (k.mask = fullMask) = (k.mask = 0x1FFF) := rfl
    simp only [Bool.and_eq_true, decide_eq_true_eq, hfull]
    simp [and_assoc]
  | unbound | national sl r | variant v r => simp

theorem componentReleased_iff : s.componentReleased c = true ↔ ∀ e, s.component c = some e → e.released = true := by
  unfold State.componentReleased
  cases s.component c <;> simp

/-- A write passes the BAD_FIELD cases of R45. -/
structure State.writable (s : State) (c : ComponentId) (k : Component) : Prop where
  meter : s.meterNamed k = true
  nonnull : (decide (k.mask = fullMask) && isNull k.ident) = false
  alone : s.sameMatch c k = false
  common : k.commonOk = true

/-- The BAD_FIELD cases of R45, as the rules put them. -/
theorem written_writable_iff :
    s.writable c k.written ↔
      (∀ m, k.meter = some m → (s.meter m).defn ≠ none) ∧ ¬(k.mask = 0x1FFF ∧ k.ident = 8191) ∧
        (∀ d e, d ≠ c → s.component d = some e →
          ¬(e.port = k.port ∧ e.mask = k.mask ∧ e.ident = k.ident &&& k.mask)) ∧
        ∀ mask out, k.binding = .common mask out → k.mask = 0x1FFF ∧ mask ≠ 0 ∧ out ≠ 8191 := by
  rw [← meterNamed_iff, ← nullMatch_iff, ← commonOk_iff, Bool.not_eq_true]
  have halone : s.sameMatch c k.written = false ↔ ∀ d e, d ≠ c → s.component d = some e →
      ¬(e.port = k.port ∧ e.mask = k.mask ∧ e.ident = k.ident &&& k.mask) := by
    rw [← Bool.not_eq_true, sameMatch_iff]
    exact ⟨fun h d e hd he heq => h ⟨d, e, hd, he, heq⟩, fun h ⟨d, e, hd, he, heq⟩ => h d e hd he heq⟩
  rw [← halone]
  exact ⟨fun ⟨h1, h2, h3, h4⟩ => ⟨h1, h2, h3, h4⟩, fun ⟨h1, h2, h3, h4⟩ => ⟨h1, h2, h3, h4⟩⟩

theorem doComponentWrite_badField (h : ¬ s.writable c k) : doComponentWrite (c, k) s = .refused .badField [] := by
  unfold doComponentWrite
  dsimp only
  by_cases hmeter : s.meterNamed k = true
  · rw [hmeter]
    by_cases hnull : (decide (k.mask = fullMask) && isNull k.ident) = true
    · rw [hnull]
      rfl
    · by_cases hsame : s.sameMatch c k = true
      · rw [hsame, Bool.eq_false_iff.2 hnull]
        rfl
      · by_cases hcommon : k.commonOk = true
        · exact absurd ⟨hmeter, Bool.eq_false_iff.2 hnull, Bool.eq_false_iff.2 hsame, hcommon⟩ h
        · rw [Bool.eq_false_iff.2 hnull, Bool.eq_false_iff.2 hsame, Bool.eq_false_iff.2 hcommon]
          rfl
  · rw [Bool.eq_false_iff.2 hmeter]
    rfl

/-- A write that passes the BAD_FIELD cases is refused IN_USE for a bound entry, or else by the registration test. -/
theorem doComponentWrite_writable (h : s.writable c k) :
    doComponentWrite (c, k) s =
      if !s.componentReleased c then .refused .inUse []
      else
        match s.regRefusal (ownComponent c) (k.binding.registrations c) with
        | some (g, why) => .refused why.result (why.refs g)
        | none =>
          .ok (eComponent (some k))
            (rewriteAll (ownComponent c) (k.binding.registrations c) (s.setComponent c (some k))) := by
  obtain ⟨hmeter, hnull, hsame, hcommon⟩ := h
  unfold doComponentWrite
  dsimp only
  rw [hmeter, hnull, hsame, hcommon]
  rfl

theorem doComponentWrite_bound (h : s.writable c k) (hb : s.componentReleased c = false) :
    doComponentWrite (c, k) s = .refused .inUse [] := by
  rw [doComponentWrite_writable h, hb]
  rfl

theorem doComponentWrite_refused (h : s.writable c k) (hb : s.componentReleased c = true) {why : RegRefusal}
    (hr : s.regRefusal (ownComponent c) (k.binding.registrations c) = some (g, why)) :
    doComponentWrite (c, k) s = .refused why.result (why.refs g) := by
  rw [doComponentWrite_writable h, hb, hr]
  rfl

theorem doComponentWrite_ok (h : s.writable c k) (hb : s.componentReleased c = true)
    (hr : s.regRefusal (ownComponent c) (k.binding.registrations c) = none) :
    doComponentWrite (c, k) s =
      .ok (eComponent (some k))
        (rewriteAll (ownComponent c) (k.binding.registrations c) (s.setComponent c (some k))) := by
  rw [doComponentWrite_writable h, hb, hr]
  rfl

/-! ## The registrations of a COMMON binding (R47) -/

theorem mem_registrations {b : Binding} {x : Registration} :
    x ∈ b.registrations c g ↔ x.2 = .component c ∧ ∃ mask, b = .common mask x.1 ∧ mask.getLsbD g = true := by
  unfold Binding.registrations
  cases b with
  | common mask out =>
    dsimp only
    split
    · next hg =>
      rw [List.mem_singleton]
      constructor
      · rintro rfl
        exact ⟨rfl, mask, rfl, hg⟩
      · rintro ⟨hx, mask', hb, -⟩
        obtain ⟨rfl, rfl⟩ := Binding.common.inj hb
        exact Prod.ext rfl hx
    · next hg =>
      refine ⟨fun h => absurd h (by simp), fun ⟨_, mask', hb, hg'⟩ => ?_⟩
      obtain ⟨rfl, -⟩ := Binding.common.inj hb
      exact absurd hg' hg
  | unbound | national sl r | variant v r => simp

theorem registrations_length (b : Binding) (c : ComponentId) (g : RegionId) : (b.registrations c g).length ≤ 1 := by
  unfold Binding.registrations
  split
  · split <;> simp
  all_goals simp

theorem registrations_unique (b : Binding) (c : ComponentId) (g : RegionId) :
    ∀ x ∈ b.registrations c g, ∀ y ∈ b.registrations c g, x.1 = y.1 → x = y := fun _ hx _ hy h =>
  Prod.ext h ((mem_registrations.1 hx).1.trans (mem_registrations.1 hy).1.symm)

/-! ## What the refusing region is (R45, R157) -/

theorem registrations_common {mask : RegionMask} {out : Ident} (hb : k.binding = .common mask out)
    (hg : mask.getLsbD g = true) : k.binding.registrations c g = [(out, .component c)] := by
  unfold Binding.registrations
  rw [hb]
  exact if_pos hg

theorem testAll_conflict {r : Region} {own : RegEntry → Bool} {x : Registration} {e : RegEntry}
    (he : r.registry.find? (fun y => y.ident == x.1) = some e) (hd : e.definer ≠ x.2) :
    r.testAll own [x] = some (.conflict e.definer) := by
  have hlookup : r.lookup x.1 = some e := he
  have hconflict : r.conflict x = some e.definer := by
    unfold Region.conflict
    rw [hlookup]
    exact if_neg hd
  unfold Region.testAll
  rw [List.findSome?_cons, hconflict]

theorem testAll_full {r : Region} {own : RegEntry → Bool} {x : Registration} (hlen : r.registry.length = 192)
    (hnew : ∀ e ∈ r.registry, e.ident ≠ x.1 ∧ own e = false) : r.testAll own [x] = some .full := by
  have hlookup : r.lookup x.1 = none := (r.lookup_none x.1).2 fun e he => (hnew e he).1
  have hconflict : r.conflict x = none := by
    unfold Region.conflict
    rw [hlookup]
  have hkept : (r.registry.filter fun e => !(own e && !e.among [x])) = r.registry :=
    List.filter_eq_self.2 fun e he => by simp [(hnew e he).2]
  have hmissing : r.missing [x] = [x] := List.filter_eq_self.2 fun y hy => by
    rw [List.mem_singleton.1 hy, hlookup]
    rfl
  unfold Region.testAll
  rw [List.findSome?_cons, hconflict, List.findSome?_nil, hkept, hmissing]
  dsimp only
  refine if_neg ?_
  rw [hlen, List.length_singleton]
  decide

/-- A region with room that does not hold the identifier takes the registration. -/
theorem testAll_common {mask : RegionMask} {out : Ident} {own : RegEntry → Bool} {h : RegionId}
    (hb : k.binding = .common mask out) (hlen : (s.region h).registry.length < 192)
    (hnew : ∀ e ∈ (s.region h).registry, e.ident ≠ out) :
    (s.region h).testAll own (k.binding.registrations c h) = none := by
  refine testAll_none (fun x hx e he hid => ?_) ?_
  · obtain ⟨-, mask', hb', -⟩ := mem_registrations.1 hx
    obtain ⟨-, hout⟩ := Binding.common.inj (hb.symm.trans hb')
    exact absurd (hid.trans hout.symm) (hnew e he)
  · have := registrations_length k.binding c h
    omega

/-! ## COMPONENT_WRITE -/

/-- A COMPONENT_WRITE that nothing refuses writes the entry and its registrations. -/
theorem componentWrite_answers {want : RegionId → List (Ident × Definer)} (hc : canTake .management s)
    (hk : k.released = true) (hw : s.writable c k.written) (hb : s.componentReleased c = true)
    (hwant : ∀ g x, x ∈ want g ↔ x.2 = .component c ∧ ∃ mask, k.binding = .common mask x.1 ∧ mask.getLsbD g = true)
    (hroom : ∀ g, (s.region g).registry.length + (want g).length ≤ 192)
    (hfree : ∀ g, ∀ x ∈ want g, ∀ e ∈ (s.region g).registry, e.ident = x.1 → e.definer = .component c) :
    ∃ t, Answers .management 0x0D (componentRequest c k) s (eComponent (some k.written)) t ∧
      t = { s.setComponent c (some k.written) with regions := t.regions } ∧
      ∀ g, Registers (fun e => decide (e.definer = .component c)) (want g) (s.region g) (t.region g) := by
  have hmem : ∀ g x, x ∈ k.binding.registrations c g ↔ x ∈ want g := fun g x => mem_registrations.trans (hwant g x).symm
  have hdefiner : ∀ g, ∀ x ∈ k.binding.registrations c g, ∀ e ∈ (s.region g).registry, e.ident = x.1 → e.definer = x.2 :=
    fun g x hx e he hid => (hfree g x ((hmem g x).1 hx) e he hid).trans (mem_registrations.1 hx).1.symm
  have hlen : ∀ g, (k.binding.registrations c g).length ≤ (want g).length := fun g => by
    have h1 := registrations_length k.binding c g
    rcases List.eq_nil_or_concat (k.binding.registrations c g) with hnil | ⟨l, x, hl⟩
    · simp [hnil]
    · have hx : x ∈ want g := (hmem g x).1 (by simp [hl])
      have := List.length_pos_of_mem hx
      omega
  have hnone : s.regRefusal (ownComponent c) (k.written.binding.registrations c) = none :=
    regRefusal_none fun g => testAll_none (hdefiner g) ((Nat.add_le_add_left (hlen g) _).trans (hroom g))
  refine ⟨_, answers_of_serve (fun _ => rfl) hc (.inl rfl) (readAll_componentRequest c hk)
    (doComponentWrite_ok hw hb hnone), rewriteAll_only _ _ _, fun g => ?_⟩
  rw [rewriteAll_region]
  exact (Region.rewrite_registers (registrations_unique _ c g) (hdefiner g)).congr fun x => (hmem g x).symm

/-- Settles O25: the body reads as the entry it writes, the refusals come in R45's order, and the registration test is met
in the first region that refuses. -/
theorem componentWriteDefinesAnEntry : Obligations.ComponentWriteDefinesAnEntry := by
  refine ⟨?answered, fun c k s hc hk => ⟨?badField, ?later⟩⟩
  case answered =>
    rintro c k w want s hc hk rfl hmeter hnull halone hcommon hreleased hwant hroom hfree
    exact componentWrite_answers hc hk (written_writable_iff.2 ⟨hmeter, hnull, halone, hcommon⟩)
      (componentReleased_iff.2 hreleased) hwant hroom hfree
  case badField =>
    intro h
    refine refuses_of_serve (fun _ => rfl) hc (.inl rfl) (readAll_componentRequest c hk)
      (doComponentWrite_badField fun hw => ?_)
    obtain ⟨hmeter, hnull, halone, hcommon⟩ := written_writable_iff.1 hw
    rcases h with ⟨m, hm, hundef⟩ | hfull | ⟨d, e, hd, he, heq⟩ | ⟨mask, out, hb, hbad⟩
    · exact hmeter m hm hundef
    · exact hnull hfull
    · exact halone d e hd he heq
    · obtain ⟨h1, h2, h3⟩ := hcommon mask out hb
      rcases hbad with h | h | h
      · exact h h1
      · exact h2 h
      · exact h3 h
  case later =>
    intro hmeter hnull halone hcommon
    have hw : s.writable c k.written := written_writable_iff.2 ⟨hmeter, hnull, halone, hcommon⟩
    refine ⟨fun ⟨e, he, hbound⟩ => ?_, fun mask out g hb hg hreleased hbefore => ?_⟩
    · have hno : s.componentReleased c = false := by
        rw [Bool.eq_false_iff]
        exact fun h => absurd (componentReleased_iff.1 h e he) (by simp [hbound])
      exact refuses_of_serve (fun _ => rfl) hc (.inl rfl) (readAll_componentRequest c hk) (doComponentWrite_bound hw hno)
    · have hyes := componentReleased_iff.2 hreleased
      have hwants : k.written.binding.registrations c g = [(out, .component c)] := registrations_common (k := k) hb hg
      have hfirst : ∀ h < g, (s.region h).testAll (ownComponent c) (k.written.binding.registrations c h) = none :=
        fun h hh => testAll_common (k := k) hb (hbefore h hh).1 (hbefore h hh).2
      refine ⟨fun e he hd => ?_, fun hlen hnew => ?_⟩
      · exact refuses_of_serve (fun _ => rfl) hc (.inl rfl) (readAll_componentRequest c hk)
          (doComponentWrite_refused hw hyes (why := .conflict e.definer)
            (regRefusal_some (by rw [hwants]; exact testAll_conflict he hd) hfirst))
      · refine refuses_of_serve (fun _ => rfl) hc (.inl rfl) (readAll_componentRequest c hk)
          (doComponentWrite_refused hw hyes (why := .full) (regRefusal_some ?_ hfirst))
        rw [hwants]
        exact testAll_full hlen fun e he => ⟨(hnew e he).1, decide_eq_false (hnew e he).2⟩

/-! ## COMPONENT_CLEAR and COMPONENT_READ (R48, R49) -/

theorem readAll_componentId (c : ComponentId) : readAll (rIndex 256) (e1 c) = some c :=
  readAll_some _ _ _ (by simpa using rIndex_e1 c (by decide) [])

theorem doComponentClear_bound (hb : s.componentReleased c = false) : doComponentClear c s = .refused .inUse [] := by
  unfold doComponentClear
  rw [hb]
  rfl

theorem doComponentClear_ok (hb : s.componentReleased c = true) :
    doComponentClear c s = .ok [] (rewriteAll (ownComponent c) (fun _ => []) (s.setComponent c none)) := by
  unfold doComponentClear
  rw [hb]
  rfl

/-- Settles O26: a clear by whether the entry is bound, and a read of the entry as it stands. -/
theorem componentClearAndRead : Obligations.ComponentClearAndRead := by
  refine fun c s => ⟨fun hc hreleased => ?clear, fun hc ⟨e, he, hbound⟩ => ?bound, fun l hc => ?read⟩
  case clear =>
    refine ⟨_, answers_of_serve (fun _ => rfl) hc (.inl rfl) (readAll_componentId c)
      (doComponentClear_ok (componentReleased_iff.2 hreleased)), rewriteAll_only _ _ _, fun g => ?_⟩
    rw [rewriteAll_region, Region.rewrite_nil]
    rfl
  case bound =>
    have hno : s.componentReleased c = false := by
      rw [Bool.eq_false_iff]
      exact fun h => absurd (componentReleased_iff.1 h e he) (by simp [hbound])
    exact refuses_of_serve (fun _ => rfl) hc (.inl rfl) (readAll_componentId c) (doComponentClear_bound hno)
  case read => exact answers_of_serve (fun _ => rfl) hc (.inr rfl) (readAll_componentId c) rfl

end Sys2Proof.Machine
end

section
/-!
PROOFS. What leaves the packet pool, the capture ring and the queues alone: the links and the requests, the switch schedule
and the routes, the tables and registrations, the carousels, the ports and the feeds (R60, R63).
-/
namespace Sys2Proof.Machine

variable {s t : State}

/-! ## Links, replies and reports -/

theorem setLink_samePool (l : Link) (k : LinkState) : SamePool s (s.setLink l k) :=
  .of_regions (by simp) (by simp) (by simp)

theorem raiseEvent_samePool (c : Cause) (o : ObjRef) : SamePool s (raiseEvent c o s) := .of_regions rfl rfl rfl

theorem notifyMgmt_samePool (n : Notice) : SamePool s (notifyMgmt n s) := .of_regions rfl rfl rfl

theorem notifyPort_samePool (p : PortId) : SamePool s (notifyPort p s) := notifyMgmt_samePool _

theorem addReply_samePool (l : Link) (f : Frame) (body : List Byte) : SamePool s (addReply l f body s) :=
  setLink_samePool _ _

theorem refuse_samePool (l : Link) (f : Frame) (r : Result) (refs : List ObjRef) : SamePool s (refuse l f r refs s) :=
  (addReply_samePool l f _).trans (raiseEvent_samePool _ _)

theorem acceptItem_samePool (l : Link) (x : RxItem) : SamePool s (acceptItem l s x) := by
  cases x with
  | discarded => exact raiseEvent_samePool _ _
  | good f =>
    change SamePool s (acceptFrame l f s)
    unfold acceptFrame
    split
    · exact setLink_samePool _ _
    · split
      · exact refuse_samePool _ _ _ _
      · exact raiseEvent_samePool _ _

theorem closeGap_samePool (l : Link) : SamePool s (closeGap l s) := by
  unfold closeGap
  split
  · exact (setLink_samePool l _).trans (raiseEvent_samePool _ _)
  · exact .refl s

theorem receiveByte_samePool (l : Link) (b : Byte) : SamePool s (receiveByte l b s) :=
  ((closeGap_samePool l).trans (setLink_samePool l _)).trans (.foldl (fun _ x => acceptItem_samePool l x) _ _)

theorem beginSend_samePool (l : Link) : SamePool s (beginSend l s) := by
  unfold beginSend
  dsimp only
  split
  · exact .refl s
  · split
    · exact setLink_samePool _ _
    · split
      · exact setLink_samePool _ _
      · exact .refl s

theorem takeRequest_samePool {l : Link} {f : Frame} (h : takeRequest l s = some (f, t)) : SamePool s t := by
  unfold takeRequest at h
  split at h
  · exact absurd h (by simp)
  · split at h
    · exact absurd h (by simp)
    · obtain ⟨-, rfl⟩ := Prod.mk.inj (Option.some.inj h)
      exact setLink_samePool _ _

theorem refuseUnsupported_samePool (l : Link) : SamePool s (refuseUnsupported l s) := by
  unfold refuseUnsupported
  split
  · exact .refl s
  · next h =>
    split
    · exact .refl s
    · exact (takeRequest_samePool h).trans (refuse_samePool _ _ _ _)

/-! ## Answers -/

/-- The state that an answer leaves, where it is not a refusal, has a property. -/
def Answer.Leaves (P : State → Prop) : Answer → Prop
  | .refused _ _ => True
  | .ok _ t => P t

/-- A request row keeps the counts of the pool true where its block does. -/
theorem serve_poolOk {α : Type} {l : Link} {kind : Byte} {m : List Byte → Bool} {p : List Byte → Option α}
    {run : α → State → Answer} (hrun : ∀ x t, t.poolOk → (run x t).Leaves State.poolOk) (hs : s.poolOk) :
    (serve l kind m p run s).poolOk := by
  unfold serve
  split
  · exact hs
  · next f u htake =>
    have hu := (takeRequest_samePool htake).poolOk hs
    split
    · rcases answerRequest_cases u l m p run f with ⟨r, refs, he⟩ | ⟨x, body, v, -, hx, he⟩
      · rw [he]
        exact (refuse_samePool _ _ _ _).poolOk hu
      · have hv := hrun x u hu
        rw [hx] at hv
        rw [he]
        exact (addReply_samePool _ _ _).poolOk hv
    · exact hs

/-- So does one whose block leaves the pool, the ring and the queues alone. -/
theorem serve_samePool {α : Type} {l : Link} {kind : Byte} {m : List Byte → Bool} {p : List Byte → Option α}
    {run : α → State → Answer} (hrun : ∀ x t, (run x t).Leaves (SamePool t)) (hs : s.poolOk) :
    (serve l kind m p run s).poolOk := by
  refine serve_poolOk (fun x t ht => ?_) hs
  have hleaves := hrun x t
  cases hx : run x t with
  | refused r refs => trivial
  | ok body u =>
    rw [hx] at hleaves
    exact SamePool.poolOk hleaves ht

/-! ## The general requests, the time, the ports and the feeds -/

theorem doTimeSet_samePool (n : Nat) (s : State) : (doTimeSet n s).Leaves (SamePool s) :=
  SamePool.trans (t := { s with offset := some (offsetFor s.clock n), falling := pendingCues s })
    (.of_regions rfl rfl rfl) (settle_only _).samePool

theorem doReportSet_samePool (x : Link × Byte) (s : State) : (doReportSet x s).Leaves (SamePool s) :=
  setLink_samePool _ _

theorem doStatusClear_samePool (b : Byte) (s : State) : (doStatusClear b s).Leaves (SamePool s) :=
  SamePool.of_regions rfl rfl rfl

theorem doReset_samePool (x : Unit) (s : State) : (doReset x s).Leaves (SamePool s) := SamePool.of_regions rfl rfl rfl

theorem clockTick_samePool : SamePool s (clockTick s) := .of_regions rfl rfl rfl

theorem clockWrap_samePool : SamePool s (clockWrap s) := by
  unfold clockWrap
  split
  · exact clockTick_samePool
  · exact .refl s

theorem setPort_samePool (p : PortId) (x : Port) : SamePool s (s.setPort p x) := .of_regions rfl rfl rfl

theorem raiseFlag_samePool (p : PortId) (f : PortFlags → PortFlags) : SamePool s (raiseFlag p f s) := by
  unfold raiseFlag
  dsimp only
  split
  · exact setPort_samePool _ _
  · exact (setPort_samePool p _).trans (notifyPort_samePool _)

theorem clearLastSeen_samePool (p : PortId) : SamePool s (clearLastSeen p s) := .of_regions rfl rfl rfl

theorem portLost_samePool (p : PortId) (c : HealthCause) : SamePool s (portLost p c s) := (portLost_only s p c).samePool

theorem settle_samePool : SamePool s (settle s) := (settle_only s).samePool

theorem loseSync_samePool (p : PortId) : SamePool s (loseSync p s) :=
  ((((setPort_samePool p _).trans (clearLastSeen_samePool p)).trans (raiseEvent_samePool _ _)).trans
    (portLost_samePool p _)).trans ((notifyPort_samePool p).trans settle_samePool)

theorem offerFifo_samePool (p : PortId) (q : Packet) : SamePool s (offerFifo p q s) := by
  unfold offerFifo
  dsimp only
  split
  · exact (setPort_samePool p _).trans (raiseFlag_samePool _ _)
  · exact raiseFlag_samePool _ _

theorem gatherByte_samePool (p : PortId) (bad left : Nat) (q : Option Packet) (b : Byte) :
    SamePool s (gatherByte p bad left q b s) := by
  unfold gatherByte
  dsimp only
  split
  · split
    · exact (setPort_samePool p _).trans (offerFifo_samePool p _)
    · exact setPort_samePool _ _
  · exact setPort_samePool _ _

theorem lineByte_samePool (p : PortId) (b : Byte) : SamePool s (lineByte p b s) := by
  unfold lineByte
  split
  · exact .refl s
  · split
    · exact setPort_samePool _ _
    · exact .refl s
  · unfold verifySync
    split
    · split
      · exact (setPort_samePool p _).trans (notifyPort_samePool _)
      · exact setPort_samePool _ _
    · exact setPort_samePool _ _
  · exact setPort_samePool _ _
  · unfold lockedSync
    split
    · exact setPort_samePool _ _
    · split
      · exact setPort_samePool _ _
      · exact loseSync_samePool _
  · exact gatherByte_samePool _ _ _ _ _

theorem doPortStart_samePool (p : PortId) (s : State) : (doPortStart p s).Leaves (SamePool s) := by
  unfold doPortStart
  split
  · exact (setPort_samePool p _).trans (notifyPort_samePool _)
  · exact SamePool.refl s

theorem doPortStop_samePool (p : PortId) (s : State) : (doPortStop p s).Leaves (SamePool s) := by
  change SamePool s (stopPort p s)
  unfold stopPort
  dsimp only
  refine SamePool.trans ?_ settle_samePool
  have hlost : ∀ u : State, SamePool u (if (s.port p).isLocked then portLost p .portLost (clearLastSeen p u) else u) := by
    intro u
    split
    · exact (clearLastSeen_samePool p).trans (portLost_samePool p _)
    · exact .refl u
  split
  · exact (setPort_samePool p _).trans (hlost _)
  · exact ((setPort_samePool p _).trans (hlost _)).trans (notifyPort_samePool p)

theorem doPortConfig_samePool (x : PortConfig) (s : State) : (doPortConfig x s).Leaves (SamePool s) :=
  (setPort_samePool x.port _).trans (configPort_only x s).samePool

theorem doPortClear_samePool (x : PortId × Byte) (s : State) : (doPortClear x s).Leaves (SamePool s) :=
  setPort_samePool _ _

theorem doFeedBind_samePool (x : FeedId × Option RegionId) (s : State) : (doFeedBind x s).Leaves (SamePool s) := by
  change SamePool s (bindFeed x.1 x.2 s)
  unfold bindFeed
  split
  · exact .refl s
  · exact .of_regions rfl rfl rfl

theorem idleFeed_samePool (fd : FeedId) : SamePool s (idleFeed fd s) := by
  unfold idleFeed
  split
  · exact .of_regions rfl rfl rfl
  · exact .refl s

/-! ## The component table, the meters, the slots and the variants -/

theorem setRewrite_samePool (g : RegionId) (own : RegEntry → Bool) (want : List Registration) :
    SamePool s (s.setRegion g ((s.region g).rewrite own want)) :=
  .setRegion s g ((s.region g).rewrite_queues own want).1 ((s.region g).rewrite_queues own want).2

theorem rewriteAll_samePool (own : RegEntry → Bool) (want : RegionId → List Registration) :
    SamePool s (rewriteAll own want s) := .foldl (fun _ g => setRewrite_samePool g own (want g)) _ _

theorem setComponent_samePool (c : ComponentId) (x : Option Component) : SamePool s (s.setComponent c x) :=
  .of_regions rfl rfl rfl

theorem doComponentWrite_samePool (x : ComponentId × Component) (s : State) :
    (doComponentWrite x s).Leaves (SamePool s) := by
  by_cases hw : s.writable x.1 x.2
  · rw [doComponentWrite_writable (c := x.1) (k := x.2) hw]
    split
    · trivial
    · split
      · trivial
      · exact (setComponent_samePool x.1 _).trans (rewriteAll_samePool _ _)
  · rw [doComponentWrite_badField (c := x.1) (k := x.2) hw]
    trivial

theorem doComponentClear_samePool (c : ComponentId) (s : State) : (doComponentClear c s).Leaves (SamePool s) := by
  unfold doComponentClear
  split
  · trivial
  · exact (setComponent_samePool c _).trans (rewriteAll_samePool _ _)

theorem doMeterWrite_samePool (x : MeterWrite) (s : State) : (doMeterWrite x s).Leaves (SamePool s) :=
  SamePool.of_regions rfl rfl rfl

theorem doMeterRead_samePool (x : MeterId × Bool) (s : State) : (doMeterRead x s).Leaves (SamePool s) := by
  change SamePool s (if x.2 then s.setMeter x.1 { s.meter x.1 with excess := false } else s)
  split
  · exact .of_regions rfl rfl rfl
  · exact .refl s

theorem refreshMeter_samePool (m : MeterId) : SamePool s (refreshMeter m s) := by
  unfold refreshMeter
  split
  · split
    · exact .of_regions rfl rfl rfl
    · exact .refl s
  · exact .refl s

theorem bindComponent_samePool (b : Binding) (c : ComponentId) : SamePool s (bindComponent b c s) := by
  unfold bindComponent
  split
  · exact setComponent_samePool _ _
  · exact .refl s

theorem bindRole_samePool (sl : SlotId) (e : SlotRole) : SamePool s (bindRole sl s e) := by
  unfold bindRole
  split
  · exact bindComponent_samePool _ _
  · exact .refl s

theorem unbindNational_samePool (sl : SlotId) : SamePool s (unbindNational sl s) := .of_regions rfl rfl rfl

theorem setSlot_samePool (sl : SlotId) (d : Option SlotDef) : SamePool s (s.setSlot sl d) := .of_regions rfl rfl rfl

theorem doSlotWrite_samePool (x : SlotId × SlotDef) (s : State) : (doSlotWrite x s).Leaves (SamePool s) := by
  unfold doSlotWrite
  dsimp only
  split
  · trivial
  · split
    · trivial
    · split
      · trivial
      · exact (((unbindNational_samePool x.1).trans (.foldl (fun _ e => bindRole_samePool x.1 e) _ _)).trans
          (setSlot_samePool x.1 _)).trans (rewriteAll_samePool _ _)

theorem doSlotClear_samePool (sl : SlotId) (s : State) : (doSlotClear sl s).Leaves (SamePool s) := by
  unfold doSlotClear
  split
  · trivial
  · exact ((unbindNational_samePool sl).trans (setSlot_samePool sl _)).trans (rewriteAll_samePool _ _)

theorem unbindVariant_samePool (v : VariantId) : SamePool s (unbindVariant v s) := .of_regions rfl rfl rfl

theorem doVariantWrite_samePool (x : VariantId × VariantDef) (s : State) : (doVariantWrite x s).Leaves (SamePool s) := by
  unfold doVariantWrite
  dsimp only
  split
  · trivial
  · split
    · trivial
    · split
      · trivial
      · split
        · trivial
        · have hbound : SamePool s
              (x.2.comps.foldl (fun t y => bindComponent (.variant x.1 y.1) y.2 t) (unbindVariant x.1 s)) :=
            (unbindVariant_samePool x.1).trans (.foldl (fun _ (y : RoleId × ComponentId) => bindComponent_samePool (.variant x.1 y.1) y.2) _ _)
          exact hbound.trans (.of_regions rfl rfl rfl)

theorem doVariantClear_samePool (v : VariantId) (s : State) : (doVariantClear v s).Leaves (SamePool s) := by
  unfold doVariantClear
  split
  · trivial
  · exact (unbindVariant_samePool v).trans (.of_regions rfl rfl rfl)

/-! ## The schedule, the routes, the tally lines and the claims -/

theorem falling_samePool (l : List Nat) : SamePool s { s with falling := l } := .of_regions rfl rfl rfl

theorem fallNow_samePool (id : Nat) : SamePool s (fallNow id s) := (falling_samePool [id]).trans settle_samePool

theorem doCueAdd_samePool (x : CueAdd) (s : State) : (doCueAdd x s).Leaves (SamePool s) := by
  unfold doCueAdd
  split
  · trivial
  · dsimp only
    split
    · trivial
    · split
      · trivial
      · split
        · trivial
        · split
          · trivial
          · split
            · trivial
            · unfold addCue
              split
              · exact (enterCue_only s _).samePool
              · split
                · exact (enterCue_only s _).samePool.trans (fallNow_samePool _)
                · exact (enterCue_only s _).samePool

theorem cueDue_samePool : SamePool s (cueDue s) := by
  unfold cueDue
  split
  · exact fallNow_samePool _
  · exact .refl s

theorem cancelCue_only (c : Cue) (s : State) : OnlySwitching s (cancelCue c s) := by
  unfold cancelCue
  dsimp only
  refine OnlySwitching.trans ?_ (notifyBoth_only _ _).switching
  split
  · exact removeCue_only s _
  · exact (removeCue_only s _).trans (foldl_switching _ _ (fun t g => cancelRoute_only t _ _ g) _)

theorem doCueCancel_samePool (x : Nat × Nat) (s : State) : (doCueCancel x s).Leaves (SamePool s) := by
  unfold doCueCancel
  split
  · trivial
  · split
    · trivial
    · exact (cancelCue_only _ s).samePool

theorem doCueConfirm_samePool (x : Nat × Nat) (s : State) : (doCueConfirm x s).Leaves (SamePool s) := by
  unfold doCueConfirm
  split
  · trivial
  · split
    · trivial
    · split
      · trivial
      · split
        · trivial
        · exact ((foldl_switching _ _ (fun t g => confirmRoute_only t _ _ g) _).trans (settle_only _)).samePool

theorem doCueList_samePool (x : CueSelect) (s : State) : (doCueList x s).Leaves (SamePool s) := by
  unfold doCueList
  split
  · split
    · exact SamePool.refl s
    · trivial
  · exact SamePool.refl s

theorem routeExpires_samePool (g : RegionId) (sl : SlotId) : SamePool s (routeExpires g sl s) := by
  unfold routeExpires
  split
  · exact ((expireRoute_only s g sl).trans (settle_only _)).samePool
  · exact .refl s

theorem doRouteTake_samePool (x : RouteTake) (s : State) : (doRouteTake x s).Leaves (SamePool s) := by
  unfold doRouteTake
  split
  · trivial
  · split
    · trivial
    · exact ((foldl_switching _ _ (fun t g => reach_only t g _ _) _).trans (settle_only _)).samePool

theorem doRouteHold_samePool (x : RouteMask) (s : State) : (doRouteHold x s).Leaves (SamePool s) := by
  unfold doRouteHold
  split
  · trivial
  · exact ((foldl_switching _ _ (fun t g => holdRoute_only t _ g) _).trans (settle_only _)).samePool

theorem doRouteFree_samePool (x : RouteMask) (s : State) : (doRouteFree x s).Leaves (SamePool s) := by
  unfold doRouteFree
  split
  · trivial
  · exact (foldl_switching _ _ (fun t g => freeRoute_only t _ g) _).samePool

theorem doRouteRead_samePool (x : RegionId × Option SlotId) (s : State) : (doRouteRead x s).Leaves (SamePool s) := by
  unfold doRouteRead
  split <;> exact SamePool.refl s

theorem doTallyBind_samePool (x : TallyId × Option (RegionId × SlotId)) (s : State) :
    (doTallyBind x s).Leaves (SamePool s) := SamePool.of_regions rfl rfl rfl

theorem setClaims_samePool (o : Option Nat) (l : List RegionId) (s : State) :
    SamePool s (l.foldl (fun t g => t.setClaim g o) s) :=
  .foldl (f := fun t g => t.setClaim g o) (fun _ _ => .of_regions rfl rfl rfl) l s

theorem doClaim_samePool (x : RegionMask × Nat) (s : State) : (doClaim x s).Leaves (SamePool s) := by
  unfold doClaim
  split
  · trivial
  · exact setClaims_samePool _ _ _

theorem doUnclaim_samePool (x : RegionMask × Nat) (s : State) : (doUnclaim x s).Leaves (SamePool s) :=
  setClaims_samePool _ _ _

theorem doClaimBreak_samePool (x : RegionMask) (s : State) : (doClaimBreak x s).Leaves (SamePool s) :=
  setClaims_samePool _ _ _

/-! ## The regions' settings and the carousels -/

theorem doRegionConfig_samePool (x : RegionConfig) (s : State) : (doRegionConfig x s).Leaves (SamePool s) := by
  have hqueues : ∀ r : Region, (x.apply r).mainQ = r.mainQ ∧ (x.apply r).expQ = r.expQ := by
    intro r
    unfold RegionConfig.apply Region.withRate
    split <;> exact ⟨rfl, rfl⟩
  exact SamePool.setRegion s x.region (hqueues _).1 (hqueues _).2

theorem doRegionRead_samePool (x : RegionId × Option Ident) (s : State) : (doRegionRead x s).Leaves (SamePool s) := by
  unfold doRegionRead
  split <;> exact SamePool.refl s

theorem setCarousel_samePool (k : CarouselId) (c : Carousel) : SamePool s (s.setCarousel k c) := .of_regions rfl rfl rfl

theorem registerLive_samePool (k : CarouselId) (l : List Packet) (g : Option RegionId) :
    SamePool s (registerLive k l g s) := by
  unfold registerLive
  split
  · exact setRewrite_samePool _ _ _
  · exact .refl s

theorem swapEffect_samePool (k : CarouselId) : SamePool s (swapEffect k s) :=
  (setCarousel_samePool k _).trans (registerLive_samePool _ _ _)

theorem settleSwap_samePool (k : CarouselId) : SamePool s (settleSwap k s) := by
  unfold settleSwap
  split
  · exact swapEffect_samePool k
  · exact .refl s

theorem endCycle_samePool (k : CarouselId) : SamePool s (endCycle k s) :=
  (setCarousel_samePool k _).trans (settleSwap_samePool k)

theorem finishCycle_samePool (k : CarouselId) : SamePool s (finishCycle k s) := by
  have hswap : SamePool s (settleSwap k (s.setCarousel k { s.carousel k with cursor := none })) :=
    (setCarousel_samePool k _).trans (settleSwap_samePool k)
  refine hswap.trans ?_
  unfold finishCycle
  dsimp only
  split
  · exact setCarousel_samePool _ _
  · split
    · exact (setCarousel_samePool k _).trans (raiseEvent_samePool _ _)
    all_goals exact .refl _

theorem advanceCursor_samePool (k : CarouselId) : SamePool s (advanceCursor k s) := by
  unfold advanceCursor
  dsimp only
  split
  · exact .refl s
  · split
    · exact setCarousel_samePool _ _
    · exact finishCycle_samePool _

theorem intervalReached_samePool (k : CarouselId) : SamePool s (intervalReached k s) := by
  unfold intervalReached
  dsimp only
  split
  · split <;> exact setCarousel_samePool _ _
  · exact .refl s

theorem doCarouselConfig_samePool (x : CarouselConfig) (s : State) : (doCarouselConfig x s).Leaves (SamePool s) := by
  unfold doCarouselConfig
  dsimp only
  split
  · exact setCarousel_samePool _ _
  · split
    · trivial
    · split
      · trivial
      · exact ((setRewrite_samePool _ _ _).trans (registerLive_samePool _ _ _)).trans (setCarousel_samePool _ _)

theorem doCarouselAppend_samePool (x : CarouselAppend) (s : State) : (doCarouselAppend x s).Leaves (SamePool s) := by
  unfold doCarouselAppend
  dsimp only
  split
  · trivial
  · split
    · trivial
    · exact setCarousel_samePool _ _

theorem takeSwap_samePool (k : CarouselId) : SamePool s (takeSwap k s) := by
  unfold takeSwap
  split
  · exact setCarousel_samePool _ _
  · exact swapEffect_samePool k

theorem doCarouselSwap_samePool (k : CarouselId) (s : State) : (doCarouselSwap k s).Leaves (SamePool s) := by
  unfold doCarouselSwap
  dsimp only
  split
  · trivial
  · split
    · trivial
    · split
      · trivial
      · split
        · trivial
        · exact (setRewrite_samePool _ _ _).trans (takeSwap_samePool k)

theorem doCarouselStart_samePool (k : CarouselId) (s : State) : (doCarouselStart k s).Leaves (SamePool s) := by
  unfold doCarouselStart
  dsimp only
  split
  · trivial
  · split
    · trivial
    · split
      · exact SamePool.refl s
      · exact setCarousel_samePool _ _

theorem doCarouselStop_samePool (k : CarouselId) (s : State) : (doCarouselStop k s).Leaves (SamePool s) := by
  change SamePool s (if (s.carousel k).state = .idle then s else stopCarousel k s)
  split
  · exact .refl s
  · exact (setCarousel_samePool k _).trans (endCycle_samePool k)

theorem doCarouselClear_samePool (k : CarouselId) (s : State) : (doCarouselClear k s).Leaves (SamePool s) := by
  unfold doCarouselClear
  dsimp only
  split
  · trivial
  · exact (setCarousel_samePool k _).trans (registerLive_samePool _ _ _)

end Sys2Proof.Machine
end

section
/-!
PROOFS. What moves references: copies that join, entries that are begun, discarded or flushed, and the capture ring; and every
step of the part, by its commands (R60 to R63, R146, R148, R183).
-/
namespace Sys2Proof.Machine

variable {s t u : State} {p : PortId} {a : Arrived} {buf n : Nat} {g : RegionId} {x : RegionCopy} {e : QEntry}
  {cap : Option CapReason} {xs : List RegionCopy}

/-! ## Copies that join (R60 to R62) -/

theorem count_cons_eq_add (b n : Nat) (l : List Nat) : (b :: l).count n = l.count n + if n = b then 1 else 0 := by
  rw [List.count_cons]
  by_cases h : n = b
  · simp [h]
  · simp [h, Ne.symm h]

theorem Region.refsTo_eq (r : Region) (n : Nat) :
    r.refsTo n = (r.mainQ.map QEntry.buf).count n + (r.expQ.map QEntry.buf).count n := by
  rw [Region.refsTo, List.map_append, List.count_append]

theorem Region.joined_refsTo (r : Region) (e : QEntry) (cls : CompClass) (n : Nat) :
    (r.joined e cls).refsTo n = r.refsTo n + if n = e.buf then 1 else 0 := by
  rw [Region.refsTo_eq, Region.refsTo_eq]
  unfold Region.joined
  cases cls with
  | essential =>
    dsimp only
    rw [List.map_append, List.count_append, List.map_singleton, count_cons_eq_add, List.count_nil]
    omega
  | expendable =>
    dsimp only
    rw [List.map_append, List.count_append, List.map_singleton, count_cons_eq_add, List.count_nil]
    omega

theorem clearMark_samePool (x : RegionCopy) : SamePool s (clearMark x s) := by
  unfold clearMark
  split
  · exact .of_regions rfl rfl rfl
  · exact .refl s

/-- A copy that joins names its buffer once more. -/
theorem joinQueue_refsTo (x : RegionCopy) (e : QEntry) (s : State) (n : Nat) :
    (joinQueue x e s).refsTo n = s.refsTo n + if n = e.buf then 1 else 0 := by
  have hclear : SamePool s (if e.setDisc then clearMark x s else s) := by
    split
    · exact clearMark_samePool x
    · exact .refl s
  have hjoin : joinQueue x e s =
      (if e.setDisc then clearMark x s else s).setRegion x.region ((s.region x.region).joined e x.cls) := by
    unfold joinQueue Region.joined
    cases x.cls <;> rfl
  have hset := State.refsTo_setRegion (if e.setDisc then clearMark x s else s) x.region
    ((s.region x.region).joined e x.cls) n
  have hregion : ((if e.setDisc then clearMark x s else s).region x.region).refsTo n = (s.region x.region).refsTo n := by
    unfold Region.refsTo
    rw [(hclear.queues _).1, (hclear.queues _).2]
  rw [hjoin]
  rw [Region.joined_refsTo, hregion, hclear.refsTo] at hset
  omega

/-- Offered copies name the packet's buffer as often as they join, and leave the pool. -/
structure NamesBuffer (buf : Nat) (s : State) (acc : Nat × State) : Prop where
  pool : acc.2.pool = s.pool
  refs : ∀ n, acc.2.refsTo n = s.refsTo n + if n = buf then acc.1 else 0

theorem NamesBuffer.offerCopy {acc : Nat × State} (h : NamesBuffer buf s acc) (x : RegionCopy) :
    NamesBuffer buf s (offerCopy buf a acc x) := by
  unfold Machine.offerCopy
  split
  · refine ⟨(joinQueue_stays _ _ _).1.trans h.pool, fun n => ?_⟩
    have hbuf : (acc.2.entryOf x buf a).buf = buf := rfl
    dsimp only
    rw [joinQueue_refsTo, h.refs, hbuf]
    split <;> omega
  · exact ⟨h.pool, h.refs⟩

theorem offerFirst_names (buf : Nat) (p : PortId) (a : Arrived) (cap : Option CapReason) (s : State) :
    NamesBuffer buf s (offerFirst buf p a cap s) := by
  have hfirst := offerFirst_offered buf p a cap s
  obtain ⟨hregions, -, hpool⟩ := hfirst.stays
  have hregion : ∀ g, (offerFirst buf p a cap s).2.region g = s.region g := fun g => by
    unfold State.region
    rw [hregions]
  refine ⟨hpool, fun n => ?_⟩
  unfold State.refsTo
  simp only [hregion]
  cases cap with
  | none => simp [hfirst.none rfl]
  | some why =>
    by_cases hroom : s.capture.length < 128
    · obtain ⟨h1, h2⟩ := hfirst.kept why rfl hroom
      rw [h1, h2, List.map_append, List.count_append, List.map_singleton, count_cons_eq_add, List.count_nil]
      dsimp only
      omega
    · obtain ⟨h1, h2, -⟩ := hfirst.dropped (by simp) (Nat.not_lt.1 hroom)
      rw [h1, h2]
      simp

/-- A packet's copies take a buffer with a reference for each that joins, or none. -/
theorem placeCopies_poolOk (hs : s.poolOk) : (placeCopies p a cap xs s).poolOk := by
  by_cases hcopies : cap ≠ none ∨ xs ≠ []
  · by_cases hfull : 4096 ≤ s.pool.length
    · rw [placeCopies_poolFull hcopies hfull]
      exact (raiseEvent_samePool _ _).poolOk hs
    · rw [placeCopies_taken hcopies (Nat.not_le.1 hfull), keepBuffer_eq]
      have hnames : NamesBuffer (freshBuffer s.pool) s (offered p a cap xs s) :=
        List.foldlRecOn xs _ (motive := NamesBuffer (freshBuffer s.pool) s) (offerFirst_names _ p a cap s)
          fun acc hacc x _ => hacc.offerCopy x
      generalize offered p a cap xs s = acc at hnames
      rw [poolOk_iff] at hs ⊢
      have hrefs : ∀ l : List Buffer, ({ acc.2 with pool := l } : State).refsTo = acc.2.refsTo := fun _ => rfl
      rw [hrefs]
      dsimp only
      by_cases hzero : acc.1 = 0
      · rw [if_pos hzero, hnames.pool]
        exact hs.congr fun n => by rw [hnames.refs, hzero]; simp
      · rw [if_neg hzero, hnames.pool]
        exact (hs.take (Nat.not_le.1 hfull) (freshBuffer_fresh s.pool) a.packet hzero).congr hnames.refs
  · obtain ⟨rfl, rfl⟩ : cap = none ∧ xs = [] := by simpa using hcopies
    exact hs

theorem OnlyChecks.samePool (h : OnlyChecks s t) : SamePool s t :=
  .of_regions (congrArg State.pool h.1 :) (congrArg State.capture h.1 :) (congrArg State.regions h.1 :)

theorem handleMatched_poolOk {c : ComponentId} {k : Component} (hs : s.poolOk) : (handleMatched p a c k s).poolOk := by
  have hmetered : SamePool s (metered p a c k s) := (setComponent_samePool c _).trans metered_only.samePool
  by_cases hpass : s.passesMeter k a
  · rw [handleMatched_passes hpass]
    exact placeCopies_poolOk ((hmetered.trans reported_only.samePool).poolOk hs)
  · rw [handleMatched_fails hpass]
    exact hmetered.poolOk hs

theorem handlePacket_poolOk (hs : s.poolOk) : (handlePacket p a s).poolOk := by
  have hpolicy : ∀ pol why, (applyPolicy pol why p a s).poolOk := by
    intro pol why
    cases pol with
    | discard => exact hs
    | capture => exact placeCopies_poolOk hs
  unfold handlePacket
  split
  · split
    · exact hs
    · exact hpolicy _ _
  · split
    · exact hs
    · split
      · exact hpolicy _ _
      · exact handleMatched_poolOk hs

theorem takePacket_poolOk (hs : s.poolOk) : (takePacket s).poolOk := by
  unfold takePacket
  split
  · exact hs
  · split
    · exact hs
    · refine settle_samePool.poolOk (handlePacket_poolOk (SamePool.poolOk ?_ hs))
      exact .of_regions rfl rfl rfl

/-! ## Entries that leave their queues (R63, R146, R148) -/

theorem Region.owe_queues (r : Region) (i : Ident) : (r.owe i).mainQ = r.mainQ ∧ (r.owe i).expQ = r.expQ := by
  unfold Region.owe
  split <;> exact ⟨rfl, rfl⟩

theorem Region.oweAll_queues (r : Region) (es : List QEntry) :
    (r.oweAll es).mainQ = r.mainQ ∧ (r.oweAll es).expQ = r.expQ :=
  List.foldlRecOn es _ (motive := fun x : Region => x.mainQ = r.mainQ ∧ x.expQ = r.expQ) ⟨rfl, rfl⟩
    fun x ⟨hmain, hexp⟩ e _ => by
      split
      · exact ⟨(x.owe_queues e.out).1.trans hmain, (x.owe_queues e.out).2.trans hexp⟩
      · exact ⟨hmain, hexp⟩

theorem Region.note_queues (r : Region) (i : Ident) (last : Continuity) (paid : Bool) :
    (r.note i last paid).mainQ = r.mainQ ∧ (r.note i last paid).expQ = r.expQ := by
  unfold Region.note
  split <;> exact ⟨rfl, rfl⟩

theorem Region.begun_queues (r : Region) (e : QEntry) (q : Packet) :
    (r.begun e q).mainQ = r.mainQ ∧ (r.begun e q).expQ = r.expQ := r.note_queues _ _ _

theorem count_takeWhile_drop (f : QEntry → Bool) (l : List QEntry) (n : Nat) :
    ((l.takeWhile f).map QEntry.buf).count n + ((l.drop (l.takeWhile f).length).map QEntry.buf).count n =
      (l.map QEntry.buf).count n := by
  have hsplit : l.takeWhile f ++ l.drop (l.takeWhile f).length = l := by
    obtain ⟨rest, hrest⟩ := List.takeWhile_prefix (l := l) f
    have hdrop : l.drop (l.takeWhile f).length = rest := by
      generalize l.takeWhile f = pre at hrest ⊢
      rw [← hrest, List.drop_left]
    rw [hdrop, hrest]
  rw [← List.count_append, ← List.map_append, hsplit]

theorem foldl_raiseEvent_samePool {α : Type} (c : Cause) (o : ObjRef) (l : List α) (s : State) :
    SamePool s (l.foldl (fun u _ => raiseEvent c o u) s) := .foldl (fun _ _ => raiseEvent_samePool c o) l s

/-- The entries that a slot instant discards give up their references. -/
theorem discardLate_poolOk (g : RegionId) (now : Clock) (hs : s.poolOk) : (discardLate g now s).poolOk := by
  refine ((foldl_raiseEvent_samePool _ _ _ _).trans (foldl_raiseEvent_samePool _ _ _ _)).poolOk
    (releaseAll_setRegion_poolOk hs fun n => ?_)
  have hqueues := Region.oweAll_queues ({ s.region g with
    mainQ := (s.region g).mainQ.drop ((s.region g).late now).length
    expQ := (s.region g).expQ.drop ((s.region g).aged now).length }) ((s.region g).late now ++ (s.region g).aged now)
  have hmain : ((s.region g).dropLate now).mainQ = (s.region g).mainQ.drop ((s.region g).late now).length := hqueues.1
  have hexp : ((s.region g).dropLate now).expQ = (s.region g).expQ.drop ((s.region g).aged now).length := hqueues.2
  have hlate := count_takeWhile_drop (fun e => decide (msTicks (s.region g).delayMs < e.residence now))
    (s.region g).mainQ n
  have haged := count_takeWhile_drop (fun e => decide (msTicks (s.region g).ageMs < e.residence now))
    (s.region g).expQ n
  rw [Region.refsTo_eq, Region.refsTo_eq, hmain, hexp, List.map_append, List.count_append]
  unfold Region.late Region.aged
  omega

/-- An entry that is begun gives up its reference. -/
theorem releaseOne_poolOk {r : Region} (hs : s.poolOk)
    (hleft : ∀ n, r.refsTo n + (if n = e.buf then 1 else 0) = (s.region g).refsTo n) :
    (releaseAll [e] (s.setRegion g r)).poolOk :=
  releaseAll_setRegion_poolOk hs fun n => by
    rw [← hleft n, List.map_singleton, count_cons_eq_add, List.count_nil, Nat.zero_add]

/-- What is chosen from the queues stands at their heads. -/
theorem chooseQueued_cases (r : Region) :
    (∃ e rest, r.mainQ = e :: rest ∧ r.chooseQueued = .main e rest) ∨
      (∃ e rest, r.expQ = e :: rest ∧ r.chooseQueued = .expendable e rest) ∨ r.chooseQueued = .null := by
  unfold Region.chooseQueued
  cases r.mainQ with
  | cons e rest => exact .inl ⟨e, rest, rfl, rfl⟩
  | nil =>
    cases r.expQ with
    | cons e rest => exact .inr (.inl ⟨e, rest, rfl, rfl⟩)
    | nil => exact .inr (.inr rfl)

theorem choose_cases (s : State) (g : RegionId) :
    (∃ k q, s.choose g = .carousel k q) ∨ s.choose g = (s.region g).chooseQueued := by
  unfold State.choose
  dsimp only
  split
  · exact .inr rfl
  · split
    · next k q _ => exact .inl ⟨k, q, rfl⟩
    · exact .inr rfl

/-- The packet chosen gives up its reference where it stood in a queue. -/
theorem beginChoice_poolOk (g : RegionId) (now : Clock) (hs : s.poolOk) :
    (beginChoice g now s (s.choose g)).2.poolOk := by
  rcases choose_cases s g with ⟨k, q, he⟩ | he <;> rw [he]
  · have hqueues := (s.region g).note_queues (ident q) ((s.region g).nextCount (ident q) (carriesPayload q)) false
    exact ((SamePool.setRegion s g (x := { (s.region g).note (ident q)
      ((s.region g).nextCount (ident q) (carriesPayload q)) false with lastBegun := .carousel, lastCarousel := some k })
      hqueues.1 hqueues.2).trans (advanceCursor_samePool k)).poolOk hs
  · rcases chooseQueued_cases (s.region g) with ⟨e, rest, hq, hc⟩ | ⟨e, rest, hq, hc⟩ | hc <;> rw [hc]
    · have hqueues := Region.begun_queues { s.region g with mainQ := rest } e (bufferPacket s.pool e.buf)
      refine releaseOne_poolOk hs fun n => ?_
      rw [Region.refsTo_eq, Region.refsTo_eq, hq]
      dsimp only
      rw [hqueues.1, hqueues.2, List.map_cons, count_cons_eq_add]
      dsimp only
      omega
    · have hqueues := Region.begun_queues { s.region g with expQ := rest } e (bufferPacket s.pool e.buf)
      refine releaseOne_poolOk hs fun n => ?_
      rw [Region.refsTo_eq, Region.refsTo_eq, hq]
      dsimp only
      rw [hqueues.1, hqueues.2, List.map_cons, count_cons_eq_add]
      dsimp only
      omega
    · exact (SamePool.setRegion s g (x := { s.region g with lastBegun := .null }) rfl rfl).poolOk hs

theorem sendPacket_samePool (g : RegionId) (now : Clock) (c : SlotClock) (q : Packet) :
    SamePool s (sendPacket g now c q s) :=
  (SamePool.setRegion s g (x := (s.region g).stepped (c.step (s.region g).rate) (decide ((s.region g).lastBegun = .null)))
    rfl rfl).trans (.of_regions rfl rfl rfl)

theorem rebase_samePool (g : RegionId) (now : Clock) : SamePool s (s.setRegion g ((s.region g).rebase now)) := by
  have hqueues : ((s.region g).rebase now).mainQ = (s.region g).mainQ ∧ ((s.region g).rebase now).expQ = (s.region g).expQ := by
    unfold Region.rebase
    split <;> exact ⟨rfl, rfl⟩
  exact .setRegion s g hqueues.1 hqueues.2

theorem slotInstant_poolOk (g : RegionId) (hs : s.poolOk) : (slotInstant g s).poolOk := by
  unfold slotInstant
  split
  · have hbegun := beginChoice_poolOk g s.clock (discardLate_poolOk g s.clock ((rebase_samePool g s.clock).poolOk hs))
    dsimp only
    split
    · exact (sendPacket_samePool g _ _ _).poolOk hbegun
    · exact hbegun
  · exact hs

theorem startRegion_poolOk (g : RegionId) (hs : s.poolOk) : (startRegion g s).poolOk := by
  refine slotInstant_poolOk g (SamePool.poolOk ?_ hs)
  exact (SamePool.setRegion s g (x := { s.region g with clk := some (SlotClock.at s.clock), nulls := [] }) rfl rfl).trans
    (.of_regions rfl rfl rfl)

/-- A region that stops flushes its queues, and their entries give up their references. -/
theorem stopRegion_poolOk (g : RegionId) (hs : s.poolOk) : (stopRegion g s).poolOk := by
  have hflush : (releaseAll ((s.region g).mainQ ++ (s.region g).expQ) (s.setRegion g (s.region g).stopped)).poolOk :=
    releaseAll_setRegion_poolOk hs fun n => by
      change 0 + _ = _
      rw [Nat.zero_add]
      rfl
  refine SamePool.poolOk (.foldl (fun t k => ?_) _ _) hflush
  split
  · exact endCycle_samePool k
  · exact .refl t

/-! ## The commands that move references -/

theorem doCaptureRelease_poolOk (n : Nat) (s : State) (hs : s.poolOk) : (doCaptureRelease n s).Leaves State.poolOk :=
  releaseCapture_poolOk (s := s) (clamp 0 s.capture.length n) hs

theorem doRegionStart_poolOk (g : RegionId) (s : State) (hs : s.poolOk) : (doRegionStart g s).Leaves State.poolOk := by
  unfold doRegionStart
  split
  · exact hs
  · exact startRegion_poolOk g hs

theorem doRegionStop_poolOk (g : RegionId) (s : State) (hs : s.poolOk) : (doRegionStop g s).Leaves State.poolOk := by
  unfold doRegionStop
  split
  · exact hs
  · exact stopRegion_poolOk g hs

theorem frameDone_poolOk (l : Link) (hs : s.poolOk) : (frameDone l s).poolOk := by
  unfold frameDone
  split
  · exact hs
  · split
    · exact resetPart_poolOk _ _
    · exact (setLink_samePool l _).poolOk hs

theorem resetTaken_poolOk (hs : s.poolOk) : (if s.sendsResetReply then resetPart .request s else s).poolOk := by
  split
  · exact resetPart_poolOk _ _
  · exact hs

/-! ## Every step (R60, R63) -/

/-- Every command completes, and keeps the counts of the pool true. -/
theorem exec_poolOk (i : Instr) (hs : s.poolOk) : ∃ t, exec i s = .next t ∧ t.poolOk := by
  cases i with
  | powerOnReset => exact ⟨_, rfl, resetPart_poolOk _ s⟩
  | resetTakesEffect => exact ⟨_, rfl, resetTaken_poolOk hs⟩
  | linkByteReceived l b => exact ⟨_, rfl, (receiveByte_samePool l b).poolOk hs⟩
  | frameGapTimeout l => exact ⟨_, rfl, (closeGap_samePool l).poolOk hs⟩
  | frameSendBegin l => exact ⟨_, rfl, (beginSend_samePool l).poolOk hs⟩
  | frameSent l => exact ⟨_, rfl, frameDone_poolOk l hs⟩
  | unsupportedKind l => exact ⟨_, rfl, (refuseUnsupported_samePool l).poolOk hs⟩
  | identify l => exact ⟨_, rfl, serve_samePool (fun _ t => SamePool.refl t) hs⟩
  | statusRead l => exact ⟨_, rfl, serve_samePool (fun _ t => SamePool.refl t) hs⟩
  | statusClear l => exact ⟨_, rfl, serve_samePool doStatusClear_samePool hs⟩
  | reportSet l => exact ⟨_, rfl, serve_samePool doReportSet_samePool hs⟩
  | reset l => exact ⟨_, rfl, serve_samePool doReset_samePool hs⟩
  | timeSet l => exact ⟨_, rfl, serve_samePool doTimeSet_samePool hs⟩
  | timeRead l => exact ⟨_, rfl, serve_samePool (fun _ t => SamePool.refl t) hs⟩
  | localClockWrap => exact ⟨_, rfl, clockWrap_samePool.poolOk hs⟩
  | portStart l => exact ⟨_, rfl, serve_samePool doPortStart_samePool hs⟩
  | portStop l => exact ⟨_, rfl, serve_samePool doPortStop_samePool hs⟩
  | portConfig l => exact ⟨_, rfl, serve_samePool doPortConfig_samePool hs⟩
  | portClear l => exact ⟨_, rfl, serve_samePool doPortClear_samePool hs⟩
  | portRead l => exact ⟨_, rfl, serve_samePool (fun _ t => SamePool.refl t) hs⟩
  | portLineByte p b => exact ⟨_, rfl, (lineByte_samePool p b).poolOk hs⟩
  | classifierTake => exact ⟨_, rfl, takePacket_poolOk hs⟩
  | componentWrite l => exact ⟨_, rfl, serve_samePool doComponentWrite_samePool hs⟩
  | componentClear l => exact ⟨_, rfl, serve_samePool doComponentClear_samePool hs⟩
  | componentRead l => exact ⟨_, rfl, serve_samePool (fun _ t => SamePool.refl t) hs⟩
  | meterWrite l => exact ⟨_, rfl, serve_samePool doMeterWrite_samePool hs⟩
  | meterRead l => exact ⟨_, rfl, serve_samePool doMeterRead_samePool hs⟩
  | meterIdleRefresh m => exact ⟨_, rfl, (refreshMeter_samePool m).poolOk hs⟩
  | slotWrite l => exact ⟨_, rfl, serve_samePool doSlotWrite_samePool hs⟩
  | slotClear l => exact ⟨_, rfl, serve_samePool doSlotClear_samePool hs⟩
  | slotRead l => exact ⟨_, rfl, serve_samePool (fun _ t => SamePool.refl t) hs⟩
  | variantWrite l => exact ⟨_, rfl, serve_samePool doVariantWrite_samePool hs⟩
  | variantClear l => exact ⟨_, rfl, serve_samePool doVariantClear_samePool hs⟩
  | variantRead l => exact ⟨_, rfl, serve_samePool (fun _ t => SamePool.refl t) hs⟩
  | starvationExpiry v => exact ⟨_, rfl, (starvationExpires_only s v).samePool.poolOk hs⟩
  | recoveryExpiry v => exact ⟨_, rfl, (recoveryExpires_only s v).samePool.poolOk hs⟩
  | cueAdd l => exact ⟨_, rfl, serve_samePool doCueAdd_samePool hs⟩
  | cueFallsDue => exact ⟨_, rfl, cueDue_samePool.poolOk hs⟩
  | cueCancel l => exact ⟨_, rfl, serve_samePool doCueCancel_samePool hs⟩
  | cueConfirm l => exact ⟨_, rfl, serve_samePool doCueConfirm_samePool hs⟩
  | cueList l => exact ⟨_, rfl, serve_samePool doCueList_samePool hs⟩
  | routeDeadline g sl => exact ⟨_, rfl, (routeExpires_samePool g sl).poolOk hs⟩
  | routeTake l => exact ⟨_, rfl, serve_samePool doRouteTake_samePool hs⟩
  | routeHold l => exact ⟨_, rfl, serve_samePool doRouteHold_samePool hs⟩
  | routeFree l => exact ⟨_, rfl, serve_samePool doRouteFree_samePool hs⟩
  | routeRead l => exact ⟨_, rfl, serve_samePool doRouteRead_samePool hs⟩
  | tallyBind l => exact ⟨_, rfl, serve_samePool doTallyBind_samePool hs⟩
  | claim l => exact ⟨_, rfl, serve_samePool doClaim_samePool hs⟩
  | unclaim l => exact ⟨_, rfl, serve_samePool doUnclaim_samePool hs⟩
  | claimBreak l => exact ⟨_, rfl, serve_samePool doClaimBreak_samePool hs⟩
  | claimRead l => exact ⟨_, rfl, serve_samePool (fun _ t => SamePool.refl t) hs⟩
  | regionConfig l => exact ⟨_, rfl, serve_samePool doRegionConfig_samePool hs⟩
  | regionStart l => exact ⟨_, rfl, serve_poolOk doRegionStart_poolOk hs⟩
  | regionStop l => exact ⟨_, rfl, serve_poolOk doRegionStop_poolOk hs⟩
  | regionRead l => exact ⟨_, rfl, serve_samePool doRegionRead_samePool hs⟩
  | slotInstant g => exact ⟨_, rfl, slotInstant_poolOk g hs⟩
  | feedBind l => exact ⟨_, rfl, serve_samePool doFeedBind_samePool hs⟩
  | carouselConfig l => exact ⟨_, rfl, serve_samePool doCarouselConfig_samePool hs⟩
  | carouselAppend l => exact ⟨_, rfl, serve_samePool doCarouselAppend_samePool hs⟩
  | carouselSwap l => exact ⟨_, rfl, serve_samePool doCarouselSwap_samePool hs⟩
  | carouselStart l => exact ⟨_, rfl, serve_samePool doCarouselStart_samePool hs⟩
  | carouselIntervalDeadline k => exact ⟨_, rfl, (intervalReached_samePool k).poolOk hs⟩
  | carouselStop l => exact ⟨_, rfl, serve_samePool doCarouselStop_samePool hs⟩
  | carouselClear l => exact ⟨_, rfl, serve_samePool doCarouselClear_samePool hs⟩
  | carouselRead l => exact ⟨_, rfl, serve_samePool (fun _ t => SamePool.refl t) hs⟩
  | captureRead l => exact ⟨_, rfl, serve_samePool (fun _ t => SamePool.refl t) hs⟩
  | captureRelease l => exact ⟨_, rfl, serve_poolOk doCaptureRelease_poolOk hs⟩
  | feedGoesIdle fd => exact ⟨_, rfl, (idleFeed_samePool fd).poolOk hs⟩

theorem exec_keeps_poolOk {i : Instr} (hs : s.poolOk) (h : exec i s = .next t) : t.poolOk := by
  obtain ⟨u, hu, hok⟩ := exec_poolOk i hs
  rw [hu] at h
  exact Host.Outcome.next.inj h ▸ hok

/-- Settles O57: a command, an event of the part's own and a tick each keep the counts of the pool true. -/
theorem stepKeepsPoolCountsTrue : Obligations.StepKeepsPoolCountsTrue := by
  intro s t hs hstep
  unfold step at hstep
  split at hstep
  · unfold idle at hstep
    split at hstep
    · next x hx =>
      by_cases hdue : dueEvents s = []
      · exact absurd ((nextEvent_none hdue).symm.trans hx) (by simp)
      · obtain ⟨e, -, races, he⟩ := nextEvent_some hdue
        obtain rfl := Option.some.inj (he.symm.trans hx)
        have hraces : SamePool s { s with races := races } := .of_regions rfl rfl rfl
        exact exec_keeps_poolOk (hraces.poolOk hs) hstep
    · exact Host.Outcome.next.inj hstep ▸ clockTick_samePool.poolOk hs
  · next rest _ =>
    have hpending : SamePool s { s with pending := rest } := .of_regions rfl rfl rfl
    exact exec_keeps_poolOk (hpending.poolOk hs) hstep

end Sys2Proof.Machine
end

section
/-!
PROOFS. A property of the state through a request row and through a step; and what leaves the meters alone: the links, the
ports and the feeds, the tables, the carousels and the regions.
-/
namespace Sys2Proof.Machine

variable {s t : State} {P : State → Prop}

/-! ## A property that every command keeps -/

theorem Answer.Leaves.unless {c : Prop} [Decidable c] {r : Result} {refs : List ObjRef} {x : Answer} (h : x.Leaves P) :
    (if c then .refused r refs else x : Answer).Leaves P := by
  split
  · trivial
  · exact h

theorem Answer.Leaves.mono {Q : State → Prop} {x : Answer} (h : x.Leaves P) (hPQ : ∀ t, P t → Q t) : x.Leaves Q := by
  cases x with
  | refused r refs => trivial
  | ok body t => exact hPQ t h

/-- Taking a request changes its link alone. -/
theorem takeRequest_some {l : Link} {f : Frame} (h : takeRequest l s = some (f, t)) : ∃ k, t = s.setLink l k := by
  unfold takeRequest at h
  split at h
  · exact absurd h (by simp)
  · split at h
    · exact absurd h (by simp)
    · obtain ⟨-, rfl⟩ := Prod.mk.inj (Option.some.inj h)
      exact ⟨_, rfl⟩

/-- A request row keeps a property on which links and events have no bearing, where its block keeps it. -/
theorem serve_keeps {α : Type} {l : Link} {kind : Byte} {m : List Byte → Bool} {p : List Byte → Option α}
    {run : α → State → Answer} (hlink : ∀ t l k, P t → P (t.setLink l k))
    (hevent : ∀ t c o, P t → P (raiseEvent c o t)) (hrun : ∀ x t, P t → (run x t).Leaves P)
    (hs : P s) : P (serve l kind m p run s) := by
  unfold serve
  split
  · exact hs
  · next f u htake =>
    obtain ⟨k, rfl⟩ := takeRequest_some htake
    have hu : P (s.setLink l k) := hlink _ _ _ hs
    split
    · rcases answerRequest_cases (s.setLink l k) l m p run f with ⟨r, refs, he⟩ | ⟨x, body, v, -, hx, he⟩
      · rw [he]
        exact hevent _ _ _ (hlink _ _ _ hu)
      · have hv := hrun x _ hu
        rw [hx] at hv
        rw [he]
        exact hlink _ _ _ hv
    · exact hs

/-- A property that every command and every tick keep, and on which the queue of commands and the counter of free choices
have no bearing, every step keeps. -/
theorem step_keeps (hexec : ∀ i s t, P s → exec i s = .next t → P t) (htick : ∀ s, P s → P (clockTick s))
    (hraces : ∀ s n, P s → P { s with races := n }) (hpending : ∀ s l, P s → P { s with pending := l }) (hs : P s)
    (hstep : step s = .next t) : P t := by
  unfold step at hstep
  split at hstep
  · by_cases hdue : dueEvents s = []
    · rw [idle, nextEvent_none hdue] at hstep
      exact Host.Outcome.next.inj hstep ▸ htick s hs
    · obtain ⟨e, -, n, he⟩ := nextEvent_some hdue
      rw [idle, he] at hstep
      exact hexec _ _ _ (hraces s n hs) hstep
  · exact hexec _ _ _ (hpending s _ hs) hstep

/-! ## The links leave the meters alone -/

theorem OnlyHealth.meters (h : OnlyHealth s t) : t.meters = s.meters := (congrArg State.meters h.1 :)

theorem OnlySwitching.meters (h : OnlySwitching s t) : t.meters = s.meters := h.health.meters

theorem foldl_meters {α : Type} {f : State → α → State} (h : ∀ t x, (f t x).meters = t.meters) (l : List α) (s : State) :
    (l.foldl f s).meters = s.meters :=
  List.foldlRecOn l f (motive := fun t => t.meters = s.meters) rfl fun t ht x _ => (h t x).trans ht

@[simp] theorem notifyPort_meters (p : PortId) : (notifyPort p s).meters = s.meters := rfl

@[simp] theorem addReply_meters (l : Link) (f : Frame) (body : List Byte) : (addReply l f body s).meters = s.meters := by
  simp [addReply]

@[simp] theorem refuse_meters (l : Link) (f : Frame) (r : Result) (refs : List ObjRef) :
    (refuse l f r refs s).meters = s.meters := by
  simp [refuse]

theorem acceptItem_meters (l : Link) (x : RxItem) : (acceptItem l s x).meters = s.meters := by
  cases x with
  | discarded => rfl
  | good f =>
    change (acceptFrame l f s).meters = s.meters
    unfold acceptFrame
    split
    · simp
    · split <;> simp

@[simp] theorem closeGap_meters (l : Link) : (closeGap l s).meters = s.meters := by
  unfold closeGap
  split <;> simp

theorem receiveByte_meters (l : Link) (b : Byte) : (receiveByte l b s).meters = s.meters := by
  simp [receiveByte, foldl_meters fun t x => acceptItem_meters (s := t) l x]

theorem beginSend_meters (l : Link) : (beginSend l s).meters = s.meters := by
  unfold beginSend
  dsimp only
  split
  · rfl
  · split
    · simp
    · split <;> simp

theorem refuseUnsupported_meters (l : Link) : (refuseUnsupported l s).meters = s.meters := by
  unfold refuseUnsupported
  split
  · rfl
  · next h =>
    split
    · rfl
    · obtain ⟨k, rfl⟩ := takeRequest_some h
      simp

/-! ## The ports and the feeds leave the meters alone -/

@[simp] theorem settle_meters : (settle s).meters = s.meters := (settle_only s).meters

@[simp] theorem portLost_meters (p : PortId) (c : HealthCause) : (portLost p c s).meters = s.meters :=
  (portLost_only s p c).meters

@[simp] theorem clearLastSeen_meters (p : PortId) : (clearLastSeen p s).meters = s.meters := rfl

@[simp] theorem raiseFlag_meters (p : PortId) (f : PortFlags → PortFlags) : (raiseFlag p f s).meters = s.meters := by
  unfold raiseFlag
  dsimp only
  split <;> simp

theorem offerFifo_meters (p : PortId) (q : Packet) : (offerFifo p q s).meters = s.meters := by
  unfold offerFifo
  dsimp only
  split <;> simp

theorem gatherByte_meters (p : PortId) (bad left : Nat) (q : Option Packet) (b : Byte) :
    (gatherByte p bad left q b s).meters = s.meters := by
  unfold gatherByte
  dsimp only
  split
  · split
    · simp [offerFifo_meters]
    · simp
  · simp

theorem lockedSync_meters (p : PortId) (bad : Nat) (b : Byte) : (lockedSync p bad b s).meters = s.meters := by
  unfold lockedSync
  split
  · simp
  · split
    · simp
    · simp [loseSync]

theorem verifySync_meters (p : PortId) (good : Nat) (b : Byte) : (verifySync p good b s).meters = s.meters := by
  unfold verifySync
  split
  · split <;> simp
  · simp

theorem lineByte_meters (p : PortId) (b : Byte) : (lineByte p b s).meters = s.meters := by
  unfold lineByte
  split
  · rfl
  · split <;> simp
  · exact verifySync_meters _ _ _
  · simp
  · exact lockedSync_meters _ _ _
  · exact gatherByte_meters _ _ _ _ _

theorem stopPort_meters (p : PortId) : (stopPort p s).meters = s.meters := by
  unfold stopPort
  dsimp only
  rw [settle_meters]
  split <;> split <;> simp

theorem configPort_meters (x : PortConfig) : (configPort x s).meters = s.meters := (configPort_only x s).meters

theorem bindFeed_meters (fd : FeedId) (x : Option RegionId) : (bindFeed fd x s).meters = s.meters := by
  unfold bindFeed
  split <;> simp

theorem idleFeed_meters (fd : FeedId) : (idleFeed fd s).meters = s.meters := by
  unfold idleFeed
  split <;> simp

theorem clockWrap_meters : (clockWrap s).meters = s.meters := by
  unfold clockWrap
  split <;> rfl

/-! ## The tables leave the meters alone -/

@[simp] theorem rewriteAll_meters (own : RegEntry → Bool) (want : RegionId → List Registration) :
    (rewriteAll own want s).meters = s.meters := (congrArg State.meters (rewriteAll_only own want s) :)

@[simp] theorem bindComponent_meters (b : Binding) (c : ComponentId) : (bindComponent b c s).meters = s.meters := by
  unfold bindComponent
  split <;> simp

theorem bindRole_meters (sl : SlotId) (e : SlotRole) : (bindRole sl s e).meters = s.meters := by
  unfold bindRole
  split <;> simp

theorem writeSlot_meters (sl : SlotId) (d : SlotDef) : (writeSlot sl d s).meters = s.meters := by
  simp [writeSlot, foldl_meters fun t e => bindRole_meters (s := t) sl e, unbindNational]

theorem writeVariant_meters (v : VariantId) (d : VariantDef) : (writeVariant v d s).meters = s.meters := by
  unfold writeVariant notifyHealth
  rw [notifyMgmt_meters, State.setVariant_meters, foldl_meters fun t _ => bindComponent_meters _ _]
  rfl

/-! ## The carousels and the regions leave the meters alone -/

@[simp] theorem registerLive_meters (k : CarouselId) (l : List Packet) (g : Option RegionId) :
    (registerLive k l g s).meters = s.meters := by
  unfold registerLive
  split <;> simp

@[simp] theorem swapEffect_meters (k : CarouselId) : (swapEffect k s).meters = s.meters := by simp [swapEffect]

@[simp] theorem settleSwap_meters (k : CarouselId) : (settleSwap k s).meters = s.meters := by
  unfold settleSwap
  split <;> simp

@[simp] theorem endCycle_meters (k : CarouselId) : (endCycle k s).meters = s.meters := by simp [endCycle]

theorem finishCycle_meters (k : CarouselId) : (finishCycle k s).meters = s.meters := by
  unfold finishCycle
  dsimp only
  split
  · simp
  · split <;> simp

theorem advanceCursor_meters (k : CarouselId) : (advanceCursor k s).meters = s.meters := by
  unfold advanceCursor
  dsimp only
  split
  · rfl
  · split
    · simp
    · exact finishCycle_meters k

theorem intervalReached_meters (k : CarouselId) : (intervalReached k s).meters = s.meters := by
  unfold intervalReached
  dsimp only
  split
  · split <;> simp
  · rfl

theorem takeSwap_meters (k : CarouselId) : (takeSwap k s).meters = s.meters := by
  unfold takeSwap
  split <;> simp

@[simp] theorem releaseAll_meters (es : List QEntry) : (releaseAll es s).meters = s.meters := rfl

@[simp] theorem discardLate_meters (g : RegionId) (now : Clock) : (discardLate g now s).meters = s.meters := by
  simp [discardLate, foldl_meters fun t (_ : QEntry) => raiseEvent_meters t _ _]

@[simp] theorem beginChoice_meters (g : RegionId) (now : Clock) (x : Choice) :
    (beginChoice g now s x).2.meters = s.meters := by
  cases x <;> simp [beginChoice, advanceCursor_meters]

theorem slotInstant_meters (g : RegionId) : (slotInstant g s).meters = s.meters := by
  unfold slotInstant
  split
  · dsimp only
    split <;> simp [sendPacket]
  · rfl

theorem startRegion_meters (g : RegionId) : (startRegion g s).meters = s.meters := slotInstant_meters g

theorem stopRegion_meters (g : RegionId) : (stopRegion g s).meters = s.meters := by
  unfold stopRegion
  refine (foldl_meters (fun t k => ?_) _ _).trans rfl
  split <;> simp

end Sys2Proof.Machine
end

section
/-!
PROOFS. What the requests leave of the meters: the requests of the schedule and of the routes move switching alone, and of
the other requests METER_WRITE and METER_READ alone have a bearing on a meter (R64 to R66).
-/
namespace Sys2Proof.Machine

variable {s t : State}

/-! ## Requests that move switching alone -/

theorem fallNow_only (id : Nat) : OnlySwitching s (fallNow id s) :=
  OnlySwitching.trans (b := { s with falling := [id] }) ⟨rfl, .refl _, .refl _⟩ (settle_only _)

theorem cueDue_only : OnlySwitching s (cueDue s) := by
  unfold cueDue
  split
  · exact fallNow_only _
  · exact .refl s

theorem addCue_only (x : CueAdd) (late : Nat) (s : State) : (addCue x late s).Leaves (OnlySwitching s) := by
  unfold addCue
  split
  · exact enterCue_only s _
  · split
    · exact (enterCue_only s _).trans (fallNow_only _)
    · exact enterCue_only s _

theorem doCueAdd_only (x : CueAdd) (s : State) : (doCueAdd x s).Leaves (OnlySwitching s) := by
  unfold doCueAdd
  split
  · trivial
  · refine .unless (.unless (.unless ?_))
    split
    · trivial
    · exact .unless (addCue_only x _ s)

theorem doCueCancel_only (x : Nat × Nat) (s : State) : (doCueCancel x s).Leaves (OnlySwitching s) := by
  unfold doCueCancel
  split
  · trivial
  · split
    · trivial
    · exact cancelCue_only _ s

theorem doCueConfirm_only (x : Nat × Nat) (s : State) : (doCueConfirm x s).Leaves (OnlySwitching s) := by
  unfold doCueConfirm
  split
  · trivial
  · split
    · trivial
    · exact .unless (.unless ((foldl_switching _ _ (fun t g => confirmRoute_only t _ _ g) _).trans (settle_only _)))

theorem doCueList_only (x : CueSelect) (s : State) : (doCueList x s).Leaves (OnlySwitching s) := by
  unfold doCueList
  split
  · split
    · exact OnlySwitching.refl s
    · trivial
  · exact OnlySwitching.refl s

theorem routeExpires_only (g : RegionId) (sl : SlotId) : OnlySwitching s (routeExpires g sl s) := by
  unfold routeExpires
  split
  · exact (expireRoute_only s g sl).trans (settle_only _)
  · exact .refl s

theorem doRouteTake_only (x : RouteTake) (s : State) : (doRouteTake x s).Leaves (OnlySwitching s) := by
  refine .unless ?_
  split
  · trivial
  · exact (foldl_switching _ _ (fun t g => reach_only t g _ _) _).trans (settle_only _)

theorem doRouteHold_only (x : RouteMask) (s : State) : (doRouteHold x s).Leaves (OnlySwitching s) := by
  unfold doRouteHold
  split
  · trivial
  · exact (foldl_switching _ _ (fun t g => holdRoute_only t _ g) _).trans (settle_only _)

theorem doRouteFree_only (x : RouteMask) (s : State) : (doRouteFree x s).Leaves (OnlySwitching s) := by
  unfold doRouteFree
  split
  · trivial
  · exact foldl_switching _ _ (fun t g => freeRoute_only t _ g) _

theorem doRouteRead_only (x : RegionId × Option SlotId) (s : State) : (doRouteRead x s).Leaves (OnlySwitching s) := by
  unfold doRouteRead
  split <;> exact OnlySwitching.refl s

/-! ## Requests that leave the meters as they are -/

/-- Two states hold the same meters. -/
def SameMeters (s t : State) : Prop := t.meters = s.meters

theorem Answer.Leaves.sameMeters {x : Answer} (h : x.Leaves (OnlySwitching s)) : x.Leaves (SameMeters s) :=
  h.mono fun _ => OnlySwitching.meters

theorem doTimeSet_meters (n : Nat) (s : State) : (doTimeSet n s).Leaves (SameMeters s) := settle_meters

theorem doReportSet_meters (x : Link × Byte) (s : State) : (doReportSet x s).Leaves (SameMeters s) :=
  State.setLink_meters _ _ _

theorem doPortStart_meters (p : PortId) (s : State) : (doPortStart p s).Leaves (SameMeters s) := by
  unfold doPortStart
  split <;> exact (rfl : s.meters = s.meters)

theorem doPortStop_meters (p : PortId) (s : State) : (doPortStop p s).Leaves (SameMeters s) := stopPort_meters p

theorem doPortConfig_meters (x : PortConfig) (s : State) : (doPortConfig x s).Leaves (SameMeters s) := configPort_meters x

theorem doFeedBind_meters (x : FeedId × Option RegionId) (s : State) : (doFeedBind x s).Leaves (SameMeters s) :=
  bindFeed_meters _ _

theorem doComponentWrite_meters (x : ComponentId × Component) (s : State) :
    (doComponentWrite x s).Leaves (SameMeters s) := by
  refine .unless (.unless (.unless (.unless (.unless ?_))))
  split
  · trivial
  · exact rewriteAll_meters _ _

theorem doComponentClear_meters (c : ComponentId) (s : State) : (doComponentClear c s).Leaves (SameMeters s) :=
  .unless (rewriteAll_meters (s := s.setComponent c none) _ _)

theorem doSlotWrite_meters (x : SlotId × SlotDef) (s : State) : (doSlotWrite x s).Leaves (SameMeters s) := by
  refine .unless ?_
  split
  · trivial
  · split
    · trivial
    · exact writeSlot_meters _ _

theorem doSlotClear_meters (sl : SlotId) (s : State) : (doSlotClear sl s).Leaves (SameMeters s) := by
  unfold doSlotClear
  split
  · trivial
  · exact rewriteAll_meters _ _

theorem doVariantWrite_meters (x : VariantId × VariantDef) (s : State) : (doVariantWrite x s).Leaves (SameMeters s) :=
  .unless (.unless (.unless (.unless (writeVariant_meters (s := s) x.1 x.2))))

theorem doVariantClear_meters (v : VariantId) (s : State) : (doVariantClear v s).Leaves (SameMeters s) :=
  .unless (P := SameMeters s) rfl

theorem setClaims_meters (o : Option Nat) (l : List RegionId) (s : State) :
    (l.foldl (fun t g => t.setClaim g o) s).meters = s.meters :=
  foldl_meters (fun t _ => State.setClaim_meters t _ _) l s

theorem doClaim_meters (x : RegionMask × Nat) (s : State) : (doClaim x s).Leaves (SameMeters s) := by
  unfold doClaim
  split
  · trivial
  · exact setClaims_meters _ _ _

theorem doUnclaim_meters (x : RegionMask × Nat) (s : State) : (doUnclaim x s).Leaves (SameMeters s) :=
  setClaims_meters _ _ _

theorem doClaimBreak_meters (x : RegionMask) (s : State) : (doClaimBreak x s).Leaves (SameMeters s) :=
  setClaims_meters _ _ _

theorem doRegionStart_meters (g : RegionId) (s : State) : (doRegionStart g s).Leaves (SameMeters s) := by
  unfold doRegionStart
  split
  · exact (rfl : s.meters = s.meters)
  · exact startRegion_meters g

theorem doRegionStop_meters (g : RegionId) (s : State) : (doRegionStop g s).Leaves (SameMeters s) := by
  unfold doRegionStop
  split
  · exact (rfl : s.meters = s.meters)
  · exact stopRegion_meters g

theorem doRegionRead_meters (x : RegionId × Option Ident) (s : State) : (doRegionRead x s).Leaves (SameMeters s) := by
  unfold doRegionRead
  split <;> exact (rfl : s.meters = s.meters)

theorem doCarouselConfig_meters (x : CarouselConfig) (s : State) : (doCarouselConfig x s).Leaves (SameMeters s) := by
  unfold doCarouselConfig
  dsimp only
  split
  · exact (rfl : s.meters = s.meters)
  · refine .unless ?_
    split
    · trivial
    · exact registerLive_meters _ _ _

theorem doCarouselAppend_meters (x : CarouselAppend) (s : State) : (doCarouselAppend x s).Leaves (SameMeters s) :=
  .unless (.unless (P := SameMeters s) rfl)

theorem doCarouselSwap_meters (k : CarouselId) (s : State) : (doCarouselSwap k s).Leaves (SameMeters s) := by
  unfold doCarouselSwap
  dsimp only
  split
  · trivial
  · refine .unless (.unless ?_)
    split
    · trivial
    · exact takeSwap_meters k

theorem doCarouselStart_meters (k : CarouselId) (s : State) : (doCarouselStart k s).Leaves (SameMeters s) := by
  unfold doCarouselStart
  dsimp only
  split
  · trivial
  · refine .unless ?_
    split <;> exact (rfl : s.meters = s.meters)

theorem doCarouselStop_meters (k : CarouselId) (s : State) : (doCarouselStop k s).Leaves (SameMeters s) := by
  change (if (s.carousel k).state = .idle then s else stopCarousel k s).meters = s.meters
  split
  · rfl
  · exact endCycle_meters k

theorem doCarouselClear_meters (k : CarouselId) (s : State) : (doCarouselClear k s).Leaves (SameMeters s) :=
  .unless (registerLive_meters k [] _)

end Sys2Proof.Machine
end

section
/-!
PROOFS. The meters: the refill, the judgement of a packet, and the ranges that every command and every step keep (R64 to
R72).
-/
namespace Sys2Proof.Machine

variable {s t : State} {p : PortId} {a : Arrived} {rest : List Arrived} {c : ComponentId} {k : Component} {m : MeterId}
  {d e : MeterDef} {q : Packet} {now : Clock}

/-! ## The refill and the judgement (R68, R70, R71) -/

/-- The refill in one equation: late arrivals leave the credit and the time of last update (R68). -/
theorem MeterDef.refill_eq (d : MeterDef) (now : Clock) :
    d.refill now =
      { d with credit := d.refilled now, updated := if elapsed now d.updated < 2 ^ 47 then now else d.updated } := by
  unfold MeterDef.refill MeterDef.refilled
  split <;> rfl

theorem MeterDef.judge_conforms (h : d.cost q ≤ (d.refill now).credit) :
    d.judge q now = ({ d.refill now with credit := (d.refill now).credit - d.cost q }, true) := if_pos h

theorem MeterDef.judge_exceeds (h : (d.refill now).credit < d.cost q) : d.judge q now = (d.refill now, false) :=
  if_neg (Nat.not_le.2 h)

/-- The counted bytes are 188, or by the adaptation control (R5, R70). -/
theorem MeterDef.cost_eq (d : MeterDef) (q : Packet) :
    d.cost q = (match d.mode, adaptControl q with
      | .full, _ => 188
      | .payload, .payloadOnly => 184
      | .payload, .both => 184 - (1 + adaptLength q)
      | .payload, .fieldOnly => 0
      | .payload, .neither => 0) * 216000000 := by
  unfold MeterDef.cost Counting.bytes payloadBytes
  cases d.mode with
  | full => rfl
  | payload => cases adaptControl q <;> rfl

/-! ## The meter of a packet's component (R67, R71, R72) -/

/-- A packet that conforms lowers the credit by its cost. -/
theorem meterPacket_conforms (hm : k.meter = some m) (hd : (s.meter m).defn = some d)
    (h : d.cost a.packet ≤ (d.refill a.arrival).credit) :
    meterPacket k a s = (true, s.setMeter m { s.meter m with
      defn := some { d.refill a.arrival with credit := (d.refill a.arrival).credit - d.cost a.packet } }) := by
  unfold meterPacket
  simp only [hm, hd, d.judge_conforms h, if_true]

/-- One that does not sets EXCESS and takes nothing: an ESSENTIAL one goes on with METER_EXCESS. -/
theorem meterPacket_essential (hm : k.meter = some m) (hd : (s.meter m).defn = some d)
    (h : (d.refill a.arrival).credit < d.cost a.packet) (hk : k.cls = .essential) :
    meterPacket k a s = (true, raiseEvent .meterExcess (.meter m)
      (s.setMeter m { defn := some (d.refill a.arrival), excess := true })) := by
  unfold meterPacket
  simp only [hm, hd, d.judge_exceeds h, hk, Bool.false_eq_true, if_false]

/-- An EXPENDABLE one is dropped. -/
theorem meterPacket_expendable (hm : k.meter = some m) (hd : (s.meter m).defn = some d)
    (h : (d.refill a.arrival).credit < d.cost a.packet) (hk : k.cls = .expendable) :
    meterPacket k a s = (false, s.setMeter m { defn := some (d.refill a.arrival), excess := true }) := by
  unfold meterPacket
  simp only [hm, hd, d.judge_exceeds h, hk, Bool.false_eq_true, if_false]

/-- The component's meter holds what the judgement leaves, and EXCESS where the packet did not conform. -/
theorem meterPacket_meter_self (hm : k.meter = some m) (hd : (s.meter m).defn = some d) :
    (meterPacket k a s).2.meter m =
      { defn := some (d.judge a.packet a.arrival).1
        excess := (s.meter m).excess || !(d.judge a.packet a.arrival).2 } := by
  rcases Nat.lt_or_ge (d.refill a.arrival).credit (d.cost a.packet) with h | h
  · rw [d.judge_exceeds h]
    cases hk : k.cls with
    | essential => simp [meterPacket_essential hm hd h hk]
    | expendable => simp [meterPacket_expendable hm hd h hk]
  · simp [meterPacket_conforms hm hd h, d.judge_conforms h]

/-! ## The ranges of a meter (R65, R68) -/

/-- A DEFINED meter within its ranges, its credit within its cap. -/
structure MeterDef.InRange (d : MeterDef) : Prop where
  rate : 64000 ≤ d.rate ∧ d.rate ≤ 40000000
  burst : 188 ≤ d.burst ∧ d.burst ≤ 188000
  credit : d.credit ≤ d.cap

theorem Meter.ok_iff {x : Meter} : x.ok ↔ ∀ d, x.defn = some d → d.InRange :=
  ⟨fun h d hd => by
      obtain ⟨hlo, hhi, hmin, hmax, hcap⟩ := h d hd
      exact ⟨⟨hlo, hhi⟩, ⟨hmin, hmax⟩, hcap⟩,
    fun h d hd => ⟨(h d hd).rate.1, (h d hd).rate.2, (h d hd).burst.1, (h d hd).burst.2, (h d hd).credit⟩⟩

theorem Meter.ok_defined {b : Bool} (h : d.InRange) : ({ defn := some d, excess := b } : Meter).ok :=
  Meter.ok_iff.2 fun _ he => Option.some.inj he ▸ h

/-- A meter whose settings stand is in range where its credit is within the same cap. -/
theorem MeterDef.InRange.of_settings (h : d.InRange) (hr : e.rate = d.rate) (hb : e.burst = d.burst)
    (hc : e.credit ≤ d.cap) : e.InRange :=
  ⟨hr ▸ h.rate, hb ▸ h.burst, by rw [MeterDef.cap, hb]; exact hc⟩

theorem MeterDef.InRange.judge (h : d.InRange) (q : Packet) (now : Clock) : (d.judge q now).1.InRange :=
  have hsettings := d.judge_settings q now
  h.of_settings hsettings.1 hsettings.2.1 (d.judge_credit q now h.credit)

/-- METER_WRITE clamps its settings and fills the credit (R65). -/
theorem MeterWrite.taken_inRange (x : MeterWrite) (now : Clock) : (x.taken now).InRange := by
  have hclamp : ∀ lo hi n : Nat, lo ≤ hi → lo ≤ clamp lo hi n ∧ clamp lo hi n ≤ hi := fun lo hi n h =>
    ⟨le_min h (le_max_left _ _), min_le_left _ _⟩
  exact ⟨hclamp 64000 40000000 x.rate (by decide), hclamp 188 188000 x.burst (by decide), Nat.le_refl _⟩

/-! ## What keeps the meters within their ranges -/

theorem State.metersOk.of_meters (hs : s.metersOk) (h : t.meters = s.meters) : t.metersOk := by
  intro n
  have hn : t.meter n = s.meter n := congrArg (fun x : Vector Meter 32 => x[n]) h
  rw [hn]
  exact hs n

theorem State.metersOk.inRange (hs : s.metersOk) (hd : (s.meter m).defn = some d) : d.InRange := Meter.ok_iff.1 (hs m) d hd

theorem State.metersOk.setMeter {x : Meter} (hs : s.metersOk) (hx : x.ok) : (s.setMeter m x).metersOk := by
  intro n
  rw [State.setMeter_meter]
  split
  · exact hx
  · exact hs n

/-- After a reset every meter is UNDEFINED (R64). -/
theorem resetPart_metersOk (cause : ResetCause) (s : State) : (resetPart cause s).metersOk := by
  intro n
  have hn : (resetPart cause s).meter n = { defn := none, excess := false } := by
    simp [resetPart, State.resetBy, State.meter]
  rw [hn]
  exact Meter.ok_iff.2 fun d hd => absurd hd (by simp)

theorem meterPacket_metersOk (k : Component) (a : Arrived) (hs : s.metersOk) : (meterPacket k a s).2.metersOk := by
  intro n
  by_cases hn : k.meter = some n
  · cases hd : (s.meter n).defn with
    | none =>
      rw [meterPacket_meter (.inr hd)]
      exact hs n
    | some d =>
      rw [meterPacket_meter_self hn hd]
      exact Meter.ok_defined ((hs.inRange hd).judge _ _)
  · rw [meterPacket_meter (.inl hn)]
    exact hs n

/-! ## The handling of a packet (R42) -/

theorem placeCopies_meters (p : PortId) (a : Arrived) (cap : Option CapReason) (xs : List RegionCopy) (s : State) :
    (placeCopies p a cap xs s).meters = s.meters := (congrArg State.meters (placeCopies_only p a cap xs s).1 :)

/-- Reports and copies leave the meters as the continuity check and the meter leave them. -/
theorem handleMatched_meters : (handleMatched p a c k s).meters = (metered p a c k s).meters := by
  by_cases hpass : s.passesMeter k a
  · rw [handleMatched_passes hpass, placeCopies_meters, reported_only.meters]
  · rw [handleMatched_fails hpass]

theorem handleMatched_metersOk (hs : s.metersOk) : (handleMatched p a c k s).metersOk :=
  (meterPacket_metersOk k a (hs.of_meters checkContinuity_meters)).of_meters handleMatched_meters

theorem applyPolicy_meters (pol : Policy) (why : CapReason) : (applyPolicy pol why p a s).meters = s.meters := by
  cases pol with
  | discard => rfl
  | capture => exact placeCopies_meters _ _ _ _ _

theorem handlePacket_metersOk (hs : s.metersOk) : (handlePacket p a s).metersOk := by
  unfold handlePacket
  split
  · split
    · exact hs
    · exact hs.of_meters (applyPolicy_meters _ _)
  · split
    · exact hs
    · split
      · exact hs.of_meters (applyPolicy_meters _ _)
      · exact handleMatched_metersOk hs

theorem takePacket_metersOk (hs : s.metersOk) : (takePacket s).metersOk := by
  unfold takePacket
  split
  · exact hs
  · next p _ =>
    split
    · exact hs
    · next a rest _ =>
      have hserved : (served p rest s).metersOk := hs.of_meters rfl
      exact (handlePacket_metersOk (p := p) (a := a) hserved).of_meters settle_meters

/-! ## The meter requests and the idle refresh keep the ranges -/

theorem doMeterWrite_metersOk (x : MeterWrite) (s : State) (hs : s.metersOk) :
    (doMeterWrite x s).Leaves State.metersOk :=
  State.metersOk.setMeter (m := x.meter) hs (Meter.ok_defined (x.taken_inRange s.clock))

theorem doMeterRead_metersOk (x : MeterId × Bool) (s : State) (hs : s.metersOk) :
    (doMeterRead x s).Leaves State.metersOk := by
  change (if x.2 then s.setMeter x.1 { s.meter x.1 with excess := false } else s).metersOk
  split
  · exact hs.setMeter (hs x.1)
  · exact hs

theorem refreshMeter_metersOk (m : MeterId) (hs : s.metersOk) : (refreshMeter m s).metersOk := by
  unfold refreshMeter
  split
  · next d hd =>
    split
    · exact hs.setMeter (Meter.ok_defined ((hs.inRange hd).of_settings rfl rfl (Nat.le_refl _)))
    · exact hs
  · exact hs

/-! ## Every command and every step (R65, R68) -/

theorem frameDone_metersOk (l : Link) (hs : s.metersOk) : (frameDone l s).metersOk := by
  unfold frameDone
  split
  · exact hs
  · split
    · exact resetPart_metersOk _ _
    · exact hs.of_meters (State.setLink_meters _ _ _)

theorem resetTaken_metersOk (hs : s.metersOk) : (if s.sendsResetReply then resetPart .request s else s).metersOk := by
  split
  · exact resetPart_metersOk _ _
  · exact hs

theorem serve_metersOk {α : Type} {l : Link} {kind : Byte} {m : List Byte → Bool} {p : List Byte → Option α}
    {run : α → State → Answer} (hrun : ∀ x t, t.metersOk → (run x t).Leaves State.metersOk) (hs : s.metersOk) :
    (serve l kind m p run s).metersOk :=
  serve_keeps (P := State.metersOk) (fun t l k ht => ht.of_meters (State.setLink_meters t l k))
    (fun _ _ _ ht => ht.of_meters rfl) hrun hs

theorem serve_sameMeters {α : Type} {l : Link} {kind : Byte} {m : List Byte → Bool} {p : List Byte → Option α}
    {run : α → State → Answer} (hrun : ∀ x t, (run x t).Leaves (SameMeters t)) (hs : s.metersOk) :
    (serve l kind m p run s).metersOk :=
  serve_metersOk (fun x t ht => (hrun x t).mono fun _ h => ht.of_meters h) hs

theorem serve_switching {α : Type} {l : Link} {kind : Byte} {m : List Byte → Bool} {p : List Byte → Option α}
    {run : α → State → Answer} (hrun : ∀ x t, (run x t).Leaves (OnlySwitching t)) (hs : s.metersOk) :
    (serve l kind m p run s).metersOk :=
  serve_sameMeters (fun x t => (hrun x t).sameMeters) hs

/-- Every command completes, and keeps the meters within their ranges. -/
theorem exec_metersOk (i : Instr) (hs : s.metersOk) : ∃ t, exec i s = .next t ∧ t.metersOk := by
  cases i with
  | powerOnReset => exact ⟨_, rfl, resetPart_metersOk _ s⟩
  | resetTakesEffect => exact ⟨_, rfl, resetTaken_metersOk hs⟩
  | linkByteReceived l b => exact ⟨_, rfl, hs.of_meters (receiveByte_meters l b)⟩
  | frameGapTimeout l => exact ⟨_, rfl, hs.of_meters (closeGap_meters l)⟩
  | frameSendBegin l => exact ⟨_, rfl, hs.of_meters (beginSend_meters l)⟩
  | frameSent l => exact ⟨_, rfl, frameDone_metersOk l hs⟩
  | unsupportedKind l => exact ⟨_, rfl, hs.of_meters (refuseUnsupported_meters l)⟩
  | identify l => exact ⟨_, rfl, serve_sameMeters (fun _ _ => rfl) hs⟩
  | statusRead l => exact ⟨_, rfl, serve_sameMeters (fun _ _ => rfl) hs⟩
  | statusClear l => exact ⟨_, rfl, serve_sameMeters (fun _ _ => rfl) hs⟩
  | reportSet l => exact ⟨_, rfl, serve_sameMeters doReportSet_meters hs⟩
  | reset l => exact ⟨_, rfl, serve_sameMeters (fun _ _ => rfl) hs⟩
  | timeSet l => exact ⟨_, rfl, serve_sameMeters doTimeSet_meters hs⟩
  | timeRead l => exact ⟨_, rfl, serve_sameMeters (fun _ _ => rfl) hs⟩
  | localClockWrap => exact ⟨_, rfl, hs.of_meters clockWrap_meters⟩
  | portStart l => exact ⟨_, rfl, serve_sameMeters doPortStart_meters hs⟩
  | portStop l => exact ⟨_, rfl, serve_sameMeters doPortStop_meters hs⟩
  | portConfig l => exact ⟨_, rfl, serve_sameMeters doPortConfig_meters hs⟩
  | portClear l => exact ⟨_, rfl, serve_sameMeters (fun _ _ => rfl) hs⟩
  | portRead l => exact ⟨_, rfl, serve_sameMeters (fun _ _ => rfl) hs⟩
  | portLineByte p b => exact ⟨_, rfl, hs.of_meters (lineByte_meters p b)⟩
  | classifierTake => exact ⟨_, rfl, takePacket_metersOk hs⟩
  | componentWrite l => exact ⟨_, rfl, serve_sameMeters doComponentWrite_meters hs⟩
  | componentClear l => exact ⟨_, rfl, serve_sameMeters doComponentClear_meters hs⟩
  | componentRead l => exact ⟨_, rfl, serve_sameMeters (fun _ _ => rfl) hs⟩
  | meterWrite l => exact ⟨_, rfl, serve_metersOk doMeterWrite_metersOk hs⟩
  | meterRead l => exact ⟨_, rfl, serve_metersOk doMeterRead_metersOk hs⟩
  | meterIdleRefresh m => exact ⟨_, rfl, refreshMeter_metersOk m hs⟩
  | slotWrite l => exact ⟨_, rfl, serve_sameMeters doSlotWrite_meters hs⟩
  | slotClear l => exact ⟨_, rfl, serve_sameMeters doSlotClear_meters hs⟩
  | slotRead l => exact ⟨_, rfl, serve_sameMeters (fun _ _ => rfl) hs⟩
  | variantWrite l => exact ⟨_, rfl, serve_sameMeters doVariantWrite_meters hs⟩
  | variantClear l => exact ⟨_, rfl, serve_sameMeters doVariantClear_meters hs⟩
  | variantRead l => exact ⟨_, rfl, serve_sameMeters (fun _ _ => rfl) hs⟩
  | starvationExpiry v => exact ⟨_, rfl, hs.of_meters (starvationExpires_only s v).meters⟩
  | recoveryExpiry v => exact ⟨_, rfl, hs.of_meters (recoveryExpires_only s v).meters⟩
  | cueAdd l => exact ⟨_, rfl, serve_switching doCueAdd_only hs⟩
  | cueFallsDue => exact ⟨_, rfl, hs.of_meters cueDue_only.meters⟩
  | cueCancel l => exact ⟨_, rfl, serve_switching doCueCancel_only hs⟩
  | cueConfirm l => exact ⟨_, rfl, serve_switching doCueConfirm_only hs⟩
  | cueList l => exact ⟨_, rfl, serve_switching doCueList_only hs⟩
  | routeDeadline g sl => exact ⟨_, rfl, hs.of_meters (routeExpires_only g sl).meters⟩
  | routeTake l => exact ⟨_, rfl, serve_switching doRouteTake_only hs⟩
  | routeHold l => exact ⟨_, rfl, serve_switching doRouteHold_only hs⟩
  | routeFree l => exact ⟨_, rfl, serve_switching doRouteFree_only hs⟩
  | routeRead l => exact ⟨_, rfl, serve_switching doRouteRead_only hs⟩
  | tallyBind l => exact ⟨_, rfl, serve_sameMeters (fun _ _ => rfl) hs⟩
  | claim l => exact ⟨_, rfl, serve_sameMeters doClaim_meters hs⟩
  | unclaim l => exact ⟨_, rfl, serve_sameMeters doUnclaim_meters hs⟩
  | claimBreak l => exact ⟨_, rfl, serve_sameMeters doClaimBreak_meters hs⟩
  | claimRead l => exact ⟨_, rfl, serve_sameMeters (fun _ _ => rfl) hs⟩
  | regionConfig l => exact ⟨_, rfl, serve_sameMeters (fun _ _ => rfl) hs⟩
  | regionStart l => exact ⟨_, rfl, serve_sameMeters doRegionStart_meters hs⟩
  | regionStop l => exact ⟨_, rfl, serve_sameMeters doRegionStop_meters hs⟩
  | regionRead l => exact ⟨_, rfl, serve_sameMeters doRegionRead_meters hs⟩
  | slotInstant g => exact ⟨_, rfl, hs.of_meters (slotInstant_meters g)⟩
  | feedBind l => exact ⟨_, rfl, serve_sameMeters doFeedBind_meters hs⟩
  | carouselConfig l => exact ⟨_, rfl, serve_sameMeters doCarouselConfig_meters hs⟩
  | carouselAppend l => exact ⟨_, rfl, serve_sameMeters doCarouselAppend_meters hs⟩
  | carouselSwap l => exact ⟨_, rfl, serve_sameMeters doCarouselSwap_meters hs⟩
  | carouselStart l => exact ⟨_, rfl, serve_sameMeters doCarouselStart_meters hs⟩
  | carouselIntervalDeadline k => exact ⟨_, rfl, hs.of_meters (intervalReached_meters k)⟩
  | carouselStop l => exact ⟨_, rfl, serve_sameMeters doCarouselStop_meters hs⟩
  | carouselClear l => exact ⟨_, rfl, serve_sameMeters doCarouselClear_meters hs⟩
  | carouselRead l => exact ⟨_, rfl, serve_sameMeters (fun _ _ => rfl) hs⟩
  | captureRead l => exact ⟨_, rfl, serve_sameMeters (fun _ _ => rfl) hs⟩
  | captureRelease l => exact ⟨_, rfl, serve_sameMeters (fun _ _ => rfl) hs⟩
  | feedGoesIdle fd => exact ⟨_, rfl, hs.of_meters (idleFeed_meters fd)⟩

theorem exec_keeps_metersOk (i : Instr) (s t : State) (hs : s.metersOk) (h : exec i s = .next t) : t.metersOk := by
  obtain ⟨u, hu, hok⟩ := exec_metersOk i hs
  rw [hu] at h
  exact Host.Outcome.next.inj h ▸ hok

/-- Settles O56: every command keeps the meters within their ranges, and so does a tick. -/
theorem stepKeepsMeterCreditWithinItsCap : Obligations.StepKeepsMeterCreditWithinItsCap := fun _ _ hs hstep =>
  step_keeps exec_keeps_metersOk (fun _ h => h.of_meters rfl) (fun _ _ h => h.of_meters rfl)
    (fun _ _ h => h.of_meters rfl) hs hstep

end Sys2Proof.Machine
end

section
/-!
PROOFS. The meter of a packet's component as the classifier uses it, and the two meter requests with the idle refresh
(R65 to R72).
-/
namespace Sys2Proof.Machine

variable {s : State} {p : PortId} {a : Arrived} {rest : List Arrived} {c : ComponentId} {k : Component} {m : MeterId}
  {d : MeterDef}

/-! ## A metered packet without a gap (R67, R71, R72) -/

/-- Without a gap, the check and the meter are the meter's judgement once the packet's count is noted. -/
theorem metered_steady (h : isGap k.lastSeen a.packet = false) :
    metered p a c k (served p rest s) = (meterPacket k a (noted p a rest c k s)).2 := by
  unfold metered
  rw [checkContinuity_steady h]
  rfl

theorem metered_meter_self (hm : k.meter = some m) (hd : (s.meter m).defn = some d) :
    (metered p a c k s).meter m =
      { defn := some (d.judge a.packet a.arrival).1
        excess := (s.meter m).excess || !(d.judge a.packet a.arrival).2 } := by
  unfold metered
  rw [meterPacket_meter_self hm (by rw [checkContinuity_meter]; exact hd), checkContinuity_meter]

theorem metered_falling : (metered p a c k s).falling = s.falling := metered_checks.schedule.falling

/-- After CLASSIFIER_TAKE the component's meter holds what the judgement leaves. -/
theorem settle_handleMatched_meter_self (hm : k.meter = some m) (hd : (s.meter m).defn = some d) :
    (settle (handleMatched p a c k s)).meter m =
      { defn := some (d.judge a.packet a.arrival).1
        excess := (s.meter m).excess || !(d.judge a.packet a.arrival).2 } := by
  rw [← metered_meter_self hm hd]
  exact congrArg (fun x : Vector Meter 32 => x[m]) (settle_meters.trans handleMatched_meters)

/-- A packet of an UNBOUND component without capture flag reports nothing and makes no copy. -/
theorem handleMatched_plain (hb : k.binding = .unbound) (hc : k.capture = false) :
    handleMatched p a c k s = metered p a c k s := by
  by_cases hpass : s.passesMeter k a
  · have hcopies : ∀ y : State, y.copies k = [] := fun y => by unfold State.copies; rw [hb]
    have hcap : k.capReason = none := if_neg (by simp [hc])
    rw [handleMatched_passes hpass, hcopies, hcap, reported_none (by rw [hb]; rfl)]
    exact placeCopies_none
  · exact handleMatched_fails hpass

/-- A packet that does not conform in an EXPENDABLE component is dropped. -/
theorem handleMatched_dropped (hm : k.meter = some m) (hd : (s.meter m).defn = some d)
    (h : (d.refill a.arrival).credit < d.cost a.packet) (hk : k.cls = .expendable) :
    handleMatched p a c k s = metered p a c k s := by
  refine handleMatched_fails fun hpass => ?_
  rcases hpass with he | hle
  · exact absurd (hk.symm.trans he) (by decide)
  · exact absurd (hle m d hm hd) (Nat.not_le.2 h)

/-- Where the handling ends at the meter and no gap is reported, the event is the meter's judgement alone. -/
theorem exec_take_metered (htake : State.takesFor s p a rest c k) (hf : s.falling = [])
    (hgap : isGap k.lastSeen a.packet = false)
    (h : handleMatched p a c k (served p rest s) = metered p a c k (served p rest s)) :
    exec .classifierTake s = .next (meterPacket k a (noted p a rest c k s)).2 := by
  have hfalling : (metered p a c k (served p rest s)).falling = [] := metered_falling.trans hf
  rw [htake.exec_take, h, settle_nil _ hfalling, metered_steady hgap]

/-- Settles O21: the refill and the judgement give the component's meter, and where no gap is reported the handling of a
dropped packet, and of one in an UNBOUND component without capture flag, ends there. -/
theorem meterJudgesEachPacket : Obligations.MeterJudgesEachPacket := by
  rintro p a rest c k m d s u diff credit cost updated htake hm hd rfl hcredit hupdated hbytes rfl
  have hrefill : d.refill a.arrival = { d with credit := credit, updated := updated } := by
    rw [hcredit, hupdated]
    exact d.refill_eq a.arrival
  have hcost : d.cost a.packet = cost := (d.cost_eq a.packet).trans hbytes.symm
  have hexceeds : credit < cost → (d.refill a.arrival).credit < d.cost a.packet := fun h => by rwa [hrefill, hcost]
  have hconforms : cost ≤ credit → d.cost a.packet ≤ (d.refill a.arrival).credit := fun h => by rwa [hrefill, hcost]
  have hserved : ((served p rest s).meter m).defn = some d := hd
  have hnoted : ((noted p a rest c k s).meter m).defn = some d := hd
  have hself := settle_handleMatched_meter_self (p := p) (a := a) (c := c) hm hserved
  refine ⟨⟨_, htake.exec_take, fun h => ?excess, fun h => ?lowered⟩, fun hf hgap =>
    ⟨fun h hk => ?dropped, fun hb hc h hk => ?essential, fun hb hc h => ?conforms⟩⟩
  case excess =>
    rw [hself, d.judge_exceeds (hexceeds h), hrefill]
    simp
  case lowered =>
    rw [hself, d.judge_conforms (hconforms h), hrefill, hcost]
    simp only [Bool.not_true, Bool.or_false]
    rfl
  case dropped =>
    rw [exec_take_metered htake hf hgap (handleMatched_dropped hm hserved (hexceeds h) hk),
      meterPacket_expendable hm hnoted (hexceeds h) hk, hrefill]
  case essential =>
    rw [exec_take_metered htake hf hgap (handleMatched_plain hb hc),
      meterPacket_essential hm hnoted (hexceeds h) hk, hrefill]
  case conforms =>
    rw [exec_take_metered htake hf hgap (handleMatched_plain hb hc),
      meterPacket_conforms hm hnoted (hconforms h), hrefill, hcost]
    rfl

/-! ## The bodies of METER_WRITE and METER_READ (R65, R66) -/

theorem readAll_meterWrite (m : MeterId) {rate burst : Nat} (mode : Counting) (hr : rate < 2 ^ 32) (hb : burst < 2 ^ 32) :
    readAll rMeterWrite (e1 m ++ e4 rate ++ e4 burst ++ e1 mode.code) =
      some { meter := m, rate := rate, burst := burst, mode := mode } := by
  have hmode : [Counting.full, .payload][mode.code]? = some mode ∧ mode.code < 256 := by
    cases mode <;> exact ⟨rfl, by decide⟩
  have hlast : rEnum [Counting.full, .payload] (e1 mode.code) = some (mode, []) := by
    simpa using rEnum_e1 _ mode.code mode [] hmode.2 hmode.1
  refine readAll_some _ _ _ ?_
  simp only [rMeterWrite, List.append_assoc]
  rw [rThen_some _ _ _ _ _ _ _ (rIndex_e1 m (by decide) _)
    (rThen_some _ _ _ _ _ _ _ (rNat_e4 rate _ hr) (rThen_some _ _ _ _ _ _ _ (rNat_e4 burst _ hb) hlast))]
  rfl

theorem readAll_meterRead (m : MeterId) (clear : Bool) :
    readAll rMeterRead (e1 m ++ [if clear then 1 else 0]) = some (m, clear) := by
  have hclear : rOpt rNothing [if clear then 1 else 0] = some (if clear then some () else none, []) := by
    cases clear <;> rfl
  refine readAll_some _ _ _ ?_
  simp only [rMeterRead]
  rw [rThen_some _ _ _ _ _ _ _ (rIndex_e1 m (by decide) _) hclear]
  cases clear <;> rfl

/-- A body without the clear field is one that the cue link may carry. -/
theorem meterReadMgmt_keep (m : MeterId) : meterReadMgmt (e1 m ++ [0]) = false := by
  rw [e1_eq]
  rfl

/-! ## METER_READ and the idle refresh (R66, R69) -/

theorem eMeter_undefined {x : Meter} (h : x.defn = none) (now : Clock) : eMeter x now = e1 0 ++ e1 x.excess.toNat := by
  rw [eMeter, h]
  rfl

theorem eMeter_defined {x : Meter} (h : x.defn = some d) (now : Clock) :
    eMeter x now = e1 1 ++ e4 d.rate ++ e4 d.burst ++ e1 d.mode.code ++ e6 d.credit ++ e6 d.updated.toNat ++
      e6 (d.refilled now) ++ e4 (d.refilled now / 216000000) ++ e1 x.excess.toNat := by
  rw [eMeter, h]
  rfl

/-- METER_READ on either link leaves the meter as it is. -/
theorem answers_meterRead {l : Link} (m : MeterId) (hc : canTake l s) :
    Answers l 0x11 (e1 m ++ [0]) s (eMeter (s.meter m) s.clock) s :=
  answers_of_serve (fun _ => rfl) hc (.inr (meterReadMgmt_keep m)) (readAll_meterRead m false) rfl

/-- METER_READ with its clear field clears EXCESS. -/
theorem answers_meterReadClear (m : MeterId) (hc : canTake .management s) :
    Answers .management 0x11 (e1 m ++ [1]) s (eMeter (s.meter m) s.clock)
      (s.setMeter m { s.meter m with excess := false }) :=
  answers_of_serve (fun _ => rfl) hc (.inl rfl) (readAll_meterRead m true) rfl

theorem refreshMeter_undefined (hd : (s.meter m).defn = none) : refreshMeter m s = s := by
  unfold refreshMeter
  rw [hd]

theorem refreshMeter_defined (hd : (s.meter m).defn = some d) :
    refreshMeter m s =
      if 2 ^ 46 ≤ elapsed s.clock d.updated then
        s.setMeter m { s.meter m with defn := some { d with credit := d.cap, updated := s.clock } }
      else s := by
  unfold refreshMeter Meter.idle
  simp only [hd, decide_eq_true_eq]

/-- Settles O27: the bodies read as they were written, a read reports the meter that stands, and the refresh waits for its
moment. -/
theorem meterRequestsAndRefresh : Obligations.MeterRequestsAndRefresh := by
  refine fun m s => ⟨fun rate burst mode d hc hr hb hd => ?write,
    fun hnone => ⟨?idle, fun hc => ?clearNone, fun l hc => ?readNone⟩, fun d credit reply hd hcredit hreply => ?defined⟩
  case write =>
    subst hd
    exact answers_of_serve (fun _ => rfl) hc (.inl rfl) (readAll_meterWrite m mode hr hb) rfl
  case idle => exact congrArg Host.Outcome.next (refreshMeter_undefined hnone)
  case clearNone =>
    rw [← hnone, ← eMeter_undefined hnone s.clock]
    exact answers_meterReadClear m hc
  case readNone =>
    rw [← eMeter_undefined hnone s.clock]
    exact answers_meterRead m hc
  case defined =>
    have hrefilled : d.refilled s.clock = credit := hcredit.symm
    have hmeter : eMeter (s.meter m) s.clock = reply := by rw [hreply, eMeter_defined hd, hrefilled]
    exact ⟨fun l hc => hmeter ▸ answers_meterRead m hc, fun hc => hmeter ▸ answers_meterReadClear m hc,
      congrArg Host.Outcome.next (refreshMeter_defined hd)⟩

end Sys2Proof.Machine
end

section
/-!
PROOFS. The health of one variant: what an anchor packet leaves of it, and the expiry of its two timers (R53, R55, R87 to
R91).
-/
namespace Sys2Proof.Machine

variable {s t : State} {p : PortId} {a : Arrived} {c : ComponentId} {k : Component} {v : VariantId} {d : VariantDef}

/-! ## An anchor packet (R87, R88) -/

/-- The restart that a gap brings and then the arrival are one row of R87. -/
theorem arrived_after_gap (d : VariantDef) (err gap : Bool) (now : Clock) :
    (if gap = true then d.gapped now else d).arrived err false now = d.arrived err gap now := by
  cases gap with
  | false => rfl
  | true =>
    rw [if_pos rfl]
    unfold VariantDef.gapped VariantDef.arrived
    cases hh : d.health with
    | recovering => cases err <;> rfl
    | starved | healthy => simp [hh]

/-- The check and the meter leave the variant of an anchor packet with the restart that a gap brings. -/
theorem metered_anchored (hanchor : s.anchoring k.binding = some v) (hv : s.variant v = some d) (w : VariantId) :
    (metered p a c k s).variant w =
      if v = w then some (if isGap k.lastSeen a.packet = true then d.gapped s.clock else d) else s.variant w := by
  rw [metered_variant, hanchor]
  by_cases hw : v = w
  · subst hw
    cases isGap k.lastSeen a.packet <;> simp [hv]
  · simp [hw]

/-- The reports of an anchor packet leave its variant as R87 and R88 say, and every other as it was. -/
theorem reported_anchored (hanchor : s.anchoring k.binding = some v) (hv : s.variant v = some d) (w : VariantId) :
    (reported p a c k s).variant w =
      if v = w then some (d.arrived (errorFlag a.packet) (isGap k.lastSeen a.packet) s.clock) else s.variant w := by
  have hchecks := metered_checks (p := p) (a := a) (c := c) (k := k) (s := s)
  have hmid := metered_anchored (p := p) (a := a) (c := c) hanchor hv
  have harrival : reportArrival k.binding a.packet (metered p a c k s) =
      anchorArrival v (errorFlag a.packet) (metered p a c k s) := by
    unfold reportArrival
    rw [hchecks.anchoring, hanchor]
  unfold reported
  rw [reportMark_only.variant, harrival, (anchorArrival_moves ((hmid v).trans (if_pos rfl)) _).variant, hchecks.clock,
    arrived_after_gap, hmid]
  by_cases hw : v = w
  · rw [if_pos hw, if_pos hw]
  · rw [if_neg hw, if_neg hw, if_neg hw]

theorem OnlyPlaces.variant (h : OnlyPlaces s t) (w : VariantId) : t.variant w = s.variant w :=
  (congrArg (fun x : State => x.variant w) h.1 :)

/-- The variants once the packet of an anchor component has been handled. -/
theorem handleMatched_anchored (hanchor : s.anchoring k.binding = some v) (hv : s.variant v = some d) (w : VariantId) :
    (s.passesMeter k a → (handleMatched p a c k s).variant w =
      if v = w then some (d.arrived (errorFlag a.packet) (isGap k.lastSeen a.packet) s.clock) else s.variant w) ∧
    (¬s.passesMeter k a → (handleMatched p a c k s).variant w =
      if v = w then some (if isGap k.lastSeen a.packet = true then d.gapped s.clock else d) else s.variant w) := by
  refine ⟨fun hpass => ?_, fun hfail => ?_⟩
  · rw [handleMatched_passes hpass, (placeCopies_only _ _ _ _ _).variant, reported_anchored hanchor hv]
  · rw [handleMatched_fails hfail, metered_anchored hanchor hv]

/-- Settles O23: a packet that its meter discards leaves the variant as the gap does, and any other as the arrival does. -/
theorem anchorArrivalMovesHealth : Obligations.AnchorArrivalMovesHealth := by
  intro p a rest c k v r d sd s htake hbinding hv hslot hrole
  have hanchor : (served p rest s).anchoring k.binding = some v := by
    change s.anchoring k.binding = some v
    unfold State.anchoring
    rw [hbinding]
    dsimp only
    rw [hv]
    dsimp only
    rw [hslot]
    exact if_pos hrole
  have hw := handleMatched_anchored (p := p) (a := a) (c := c) (s := served p rest s) hanchor hv
  refine ⟨_, htake.exec_take, fun w hne => ?_, fun hpass => ?_, fun hfail => ?_⟩
  · rw [(settle_only _).variant]
    by_cases hpass : s.passesMeter k a
    · exact ((hw w).1 hpass).trans (if_neg (Ne.symm hne))
    · exact ((hw w).2 hpass).trans (if_neg (Ne.symm hne))
  · rw [(settle_only _).variant]
    exact ((hw v).1 hpass).trans (if_pos rfl)
  · rw [(settle_only _).variant, (hw v).2 hfail, if_pos rfl]
    unfold VariantDef.gapped
    by_cases hgap : isGap k.lastSeen a.packet = true
    · by_cases hhealth : d.health = .recovering
      · rw [if_pos hgap, if_pos hhealth, if_pos ⟨hgap, hhealth⟩]
        rfl
      · rw [if_pos hgap, if_neg hhealth, if_neg fun h => hhealth h.2]
    · rw [if_neg hgap, if_neg fun h => hgap h.1]

/-! ## The two timers (R89, R91) -/

theorem concerned_iff : s.concerned v = true ↔ ∃ g sl, (s.route g sl).concerns v = true := by
  unfold State.concerned
  rw [List.any_eq_true]
  exact ⟨fun ⟨x, _, hx⟩ => ⟨x.1, x.2, hx⟩, fun ⟨g, sl, h⟩ => ⟨(g, sl), mem_allRoutes _, h⟩⟩

/-- Beside the variant, a starvation moves switching and reports alone. -/
theorem starve_switching (hv : s.variant v = some d) (hd : d.health ≠ .starved) (cause : HealthCause) :
    OnlySwitching (s.setVariant v (some { d with health := .starved, starveTimer := none, recoverTimer := none }))
      (starve v cause s) := by
  unfold starve
  rw [hv]
  dsimp only
  rw [if_neg hd]
  refine OnlySwitching.trans ?_ (foldl_switching _ _ (fun t x => starveRoute_only t v x) _)
  refine OnlySwitching.trans ?_ (notifyMgmt_only _ _).switching
  split
  · exact (raiseEvent_only _ _ _).switching
  · exact .refl _

/-- A starvation is detected as DEGRADED where a route is concerned (R91). -/
theorem starve_degraded (hv : s.variant v = some d) (hd : d.health ≠ .starved) (hc : s.concerned v = true)
    (cause : HealthCause) : (starve v cause s).detected.degraded = true := by
  unfold starve
  rw [hv]
  dsimp only
  rw [if_neg hd, if_pos hc, foldl_detected _ fun t x => starveRoute_detected t v x]
  rfl

/-- Beside the variant, a recovery moves switching and reports alone. -/
theorem becomeHealthy_switching (s : State) (v : VariantId) (d : VariantDef) (timer : Option Deadline)
    (cause : HealthCause) :
    OnlySwitching (s.setVariant v (some { d with health := .healthy, starveTimer := timer, recoverTimer := none }))
      (becomeHealthy v d timer cause s) :=
  (notifyMgmt_only _ _).switching.trans (foldl_switching _ _ (fun t x => healthyRoute_only t v x) _)

theorem timerReached_some {x : Deadline} {now : Clock} (h : x.len ≤ (now - x.set).toNat) :
    timerReached (some x) now = true := decide_eq_true h

theorem timerReached_early {timer : Option Deadline} {now : Clock}
    (h : ∀ x : Deadline, timer = some x → (now - x.set).toNat < x.len) : timerReached timer now = false := by
  cases timer with
  | none => rfl
  | some x => exact decide_eq_false (Nat.not_le.2 (h x rfl))

theorem starvationDue_eq (hv : s.variant v = some d) : s.starvationDue v = timerReached d.starveTimer s.clock := by
  unfold State.starvationDue
  rw [hv]

theorem recoveryDue_eq (hv : s.variant v = some d) :
    s.recoveryDue v = (decide (d.health = .recovering) && timerReached d.recoverTimer s.clock) := by
  unfold State.recoveryDue
  rw [hv]

theorem recoveryExpires_eq (hv : s.variant v = some d) :
    recoveryExpires v s =
      if s.recoveryDue v then settle (becomeHealthy v d d.starveTimer .recoveryExpiry s) else s := by
  unfold recoveryExpires
  rw [hv]

/-- Settles O24: each expiry by whether its timer is reached. -/
theorem healthTimersExpire : Obligations.HealthTimersExpire := by
  refine fun v d s hv => ⟨fun x hx hhealth hreached => ?starves, fun x hx hhealth hreached => ?recovers,
    fun hearly => ?starveEarly, fun hearly => ?recoverEarly⟩
  case starves =>
    have hdue : s.starvationDue v = true := by
      rw [starvationDue_eq hv, hx]
      exact timerReached_some hreached
    refine ⟨_, congrArg Host.Outcome.next (if_pos hdue), (starve_switching hv hhealth _).trans (settle_only _),
      fun hroute => ?_⟩
    rw [settle_detected]
    exact starve_degraded hv hhealth (concerned_iff.2 hroute) _
  case recovers =>
    have hdue : s.recoveryDue v = true := by
      rw [recoveryDue_eq hv, hx, timerReached_some hreached, decide_eq_true hhealth]
      rfl
    exact ⟨_, congrArg Host.Outcome.next ((recoveryExpires_eq hv).trans (if_pos hdue)),
      (becomeHealthy_switching s v d _ _).trans (settle_only _)⟩
  case starveEarly =>
    have hdue : ¬ s.starvationDue v = true := by
      rw [starvationDue_eq hv, timerReached_early hearly]
      exact Bool.false_ne_true
    exact congrArg Host.Outcome.next (if_neg hdue)
  case recoverEarly =>
    have hdue : ¬ s.recoveryDue v = true := by
      rw [recoveryDue_eq hv, timerReached_early hearly, Bool.and_false]
      exact Bool.false_ne_true
    exact congrArg Host.Outcome.next ((recoveryExpires_eq hv).trans (if_neg hdue))

end Sys2Proof.Machine
end

section
/-!
PROOFS. What slots and variants do to the bindings of components (R78, R79, R83, R84), and what the distinctness test and
the searches for the lowest object find (R75, R76, R82).
-/
namespace Sys2Proof.Machine

variable {s : State}

/-! ## Components that are unbound (R78, R79, R83, R84) -/

/-- A component after every component of a slot is unbound. -/
def Component.offSlot (k : Component) (sl : SlotId) : Component :=
  if (∃ r, k.binding = .national sl r) then { k with binding := .unbound } else k

/-- A component after every component of a variant is unbound. -/
def Component.offVariant (k : Component) (v : VariantId) : Component :=
  if (∃ r, k.binding = .variant v r) then { k with binding := .unbound } else k

theorem unbindNational_component (sl : SlotId) (c : ComponentId) :
    (unbindNational sl s).component c = (s.component c).map fun k => k.offSlot sl := by
  unfold unbindNational State.component
  dsimp only
  rw [Fin.getElem_fin, Vector.getElem_map, ← Fin.getElem_fin]
  cases s.components[c] with
  | none => rfl
  | some k =>
    dsimp only
    rw [Option.map_some, Component.offSlot]
    cases hb : k.binding with
    | national sl' r =>
      by_cases h : sl' = sl <;> simp [h]
    | unbound | common mask out | variant v r => simp

theorem unbindVariant_component (v : VariantId) (c : ComponentId) :
    (unbindVariant v s).component c = (s.component c).map fun k => k.offVariant v := by
  unfold unbindVariant State.component
  dsimp only
  rw [Fin.getElem_fin, Vector.getElem_map, ← Fin.getElem_fin]
  cases s.components[c] with
  | none => rfl
  | some k =>
    dsimp only
    rw [Option.map_some, Component.offVariant]
    cases hb : k.binding with
    | variant v' r =>
      by_cases h : v' = v <;> simp [h]
    | unbound | common mask out | national sl r => simp

/-! ## Components that are bound (R78, R83) -/

theorem bindComponent_only (b : Binding) (c : ComponentId) (s : State) :
    bindComponent b c s = { s with components := (bindComponent b c s).components } := by
  unfold bindComponent
  split <;> rfl

theorem bindComponent_component (b : Binding) (c d : ComponentId) (s : State) :
    (bindComponent b c s).component d =
      if c = d then (s.component d).map fun k => { k with binding := b } else s.component d := by
  unfold bindComponent
  cases hc : s.component c with
  | none =>
    by_cases h : c = d
    · subst h
      simp [hc]
    · simp [h]
  | some k =>
    by_cases h : c = d
    · subst h
      simp [hc]
    · simp [h]

/-- Components take bindings one after another. -/
def bindAll (l : List (Binding × ComponentId)) (s : State) : State := l.foldl (fun t x => bindComponent x.1 x.2 t) s

theorem bindAll_only (l : List (Binding × ComponentId)) (s : State) :
    bindAll l s = { s with components := (bindAll l s).components } :=
  List.foldlRecOn l _ (motive := fun t : State => t = { s with components := t.components }) rfl fun t ht x _ =>
    (bindComponent_only x.1 x.2 t).trans
      (congrArg (fun u : State => { u with components := (bindComponent x.1 x.2 t).components }) ht)

theorem bindAll_other {l : List (Binding × ComponentId)} {c : ComponentId} (h : c ∉ l.map Prod.snd) :
    (bindAll l s).component c = s.component c :=
  List.foldlRecOn l _ (motive := fun t : State => t.component c = s.component c) rfl fun t ht x hx =>
    (bindComponent_component x.1 x.2 c t).trans
      ((if_neg fun e : x.2 = c => h (e ▸ List.mem_map_of_mem hx)).trans ht)

/-- Of components that each stand once in the list, each takes its binding. -/
theorem bindAll_member {l : List (Binding × ComponentId)} {b : Binding} {c : ComponentId} (hl : (l.map Prod.snd).Nodup)
    (h : (b, c) ∈ l) (s : State) :
    (bindAll l s).component c = (s.component c).map fun k => { k with binding := b } := by
  induction l generalizing s with
  | nil => exact absurd h List.not_mem_nil
  | cons x l ih =>
    rw [List.map_cons, List.nodup_cons] at hl
    change (bindAll l (bindComponent x.1 x.2 s)).component c = _
    rcases List.mem_cons.1 h with rfl | h
    · rw [bindAll_other hl.1, bindComponent_component, if_pos rfl]
    · have hne : x.2 ≠ c := fun e => hl.1 (e ▸ List.mem_map_of_mem h)
      rw [ih hl.2 h, bindComponent_component, if_neg hne]

/-! ## Lists without repetition, and the lowest object -/

theorem distinct_iff {α : Type} [DecidableEq α] (l : List α) : distinct l = true ↔ l.Nodup := by
  induction l with
  | nil => simp [distinct]
  | cons x l ih => simp [distinct, ih]

theorem bindable_iff {c : ComponentId} : s.bindable c = true ↔ ∃ k, s.component c = some k ∧ k.mask = 0x1FFF := by
  unfold State.bindable
  cases s.component c with
  | none => simp
  | some k =>
    dsimp only
    rw [decide_eq_true_iff]
    exact ⟨fun h => ⟨k, rfl, h⟩, fun ⟨_, he, h⟩ => Option.some.inj he ▸ h⟩

/-- The lowest index that satisfies a condition is found. -/
theorem find?_finRange {n : Nat} {f : Fin n → Bool} {i : Fin n} (hi : f i = true) (hbefore : ∀ j < i, f j = false) :
    (List.finRange n).find? f = some i := by
  rw [← List.findSome?_guard]
  exact findSome?_finRange (Option.guard_eq_some_iff.2 ⟨rfl, hi⟩) fun j hj => by simp [hbefore j hj]

theorem find?_first {α : Type} {f : α → Bool} {l pre post : List α} {x : α} (hl : l = pre ++ x :: post)
    (hpre : ∀ y ∈ pre, f y = false) (hx : f x = true) : l.find? f = some x :=
  List.find?_eq_some_iff_append.2 ⟨hx, pre, post, hl, fun y hy => by simp [hpre y hy]⟩

end Sys2Proof.Machine
end

section
/-!
PROOFS. The three requests of the service slots: the body that SLOT_WRITE reads, its three stages in their order, and what a
write, a clear and a read leave (R75 to R80, R157, R158).
-/
namespace Sys2Proof.Machine

variable {s t u : State} {sl : SlotId} {d : SlotDef} {g : RegionId} {v : VariantId} {l : Link}

/-! ## The body of SLOT_WRITE (R75, R200) -/

theorem rOpt_index {n : Nat} (hn : n ≤ 256) (x : Option (Fin n)) (rest : List Byte) :
    rOpt (rIndex n) (eOpt (fun i : Fin n => e1 i) x ++ rest) = some (x, rest) := by
  cases x with
  | none => exact rOpt_none _ _ _
  | some i => exact rOpt_some _ _ _ _ (rIndex_e1 i hn _)

/-- A role entry as SLOT_WRITE carries it. -/
def slotRoleBytes (e : SlotRole) : List Byte := e1 e.role ++ e2 e.out.toNat ++ eOpt (fun c : ComponentId => e1 c) e.national

theorem rSlotRole_slotRoleBytes (e : SlotRole) (rest : List Byte) :
    rSlotRole (slotRoleBytes e ++ rest) = some (e, rest) := by
  simp only [rSlotRole, slotRoleBytes, List.append_assoc]
  rw [rThen_some _ _ _ _ _ _ _ (rIndex_e1 e.role (by decide) _)
    (rThen_some _ _ _ _ _ _ _ (rIdent_e2 e.out _) (rOpt_index (by decide) e.national _))]
  rfl

theorem slotRequest_eq (sl : SlotId) (d : SlotDef) :
    slotRequest sl d =
      e1 sl ++ (e1 d.anchor ++ (eOpt (fun r : RoleId => e1 r) d.clockRole ++ (eList slotRoleBytes d.roles ++ []))) := by
  simp only [slotRequest, List.append_assoc, List.append_nil]
  rfl

/-- A SLOT_WRITE of at most six roles reads as the slot that it writes. -/
theorem readAll_slotRequest (sl : SlotId) (hlen : d.roles.length ≤ 6) :
    readAll rSlotWrite (slotRequest sl d) = some (sl, d) := by
  refine readAll_some _ _ _ ?_
  rw [rSlotWrite, slotRequest_eq]
  rw [rThen_some _ _ _ _ _ _ _ (rIndex_e1 sl (by decide) _)
    (rThen_some _ _ _ _ _ _ _ (rIndex_e1 d.anchor (by decide) _)
      (rThen_some _ _ _ _ _ _ _ (rOpt_index (by decide) d.clockRole _)
        (rList_eList 6 rSlotRole slotRoleBytes d.roles [] hlen (by omega) fun e _ => rSlotRole_slotRoleBytes e)))]
  rfl

theorem rThen_none {α β : Type} {r : Reader α} {q : Reader β} {b b1 : List Byte} {x : α} (h : r b = some (x, b1))
    (h' : q b1 = none) : rThen r q b = none := by
  simp [rThen, h, h']

theorem rList_eList_long {α : Type} {most : Nat} (r : Reader α) (w : α → List Byte) (l : List α) (rest : List Byte)
    (hm : most < l.length) (h256 : l.length < 256) : rList most r (eList w l ++ rest) = none := by
  have hl : l.length % 256 = l.length := Nat.mod_eq_of_lt h256
  simp [rList, eList, e1_eq, hl, hm]

/-- A SLOT_WRITE of more roles than there are does not read. -/
theorem readAll_slotRequest_long (sl : SlotId) (hlen : 6 < d.roles.length) (h256 : d.roles.length < 256) :
    readAll rSlotWrite (slotRequest sl d) = none := by
  have hthen := rThen_none (rIndex_e1 sl (by decide) _)
    (rThen_none (rIndex_e1 d.anchor (by decide) _)
      (rThen_none (rOpt_index (by decide) d.clockRole _)
        (rList_eList_long rSlotRole slotRoleBytes d.roles [] hlen h256)))
  unfold readAll rSlotWrite
  rw [slotRequest_eq, hthen]
  rfl

/-! ## The first stage of SLOT_WRITE (R75) -/

theorem hasRole_iff {r : RoleId} : d.hasRole r = true ↔ r ∈ d.roles.map SlotRole.role := by
  simp [SlotDef.hasRole, SlotDef.entry]

theorem slotFieldsOk_eq (s : State) (d : SlotDef) :
    s.slotFieldsOk d =
      (!d.roles.isEmpty && distinct (d.roles.map SlotRole.role) && (d.roles.all fun e => !isNull e.out) &&
        distinct (d.roles.map SlotRole.out) && d.hasRole d.anchor && d.clockRole.all d.hasRole &&
        distinct d.components && d.components.all s.bindable) := by
  unfold State.slotFieldsOk
  cases d.clockRole <;> rfl

/-- The first stage is R75, as the rules put it. -/
theorem slotFieldsOk_iff : s.slotFieldsOk d = true ↔ s.slotLegal d := by
  have hnull : (d.roles.all fun e => !isNull e.out) = true ↔ ∀ e ∈ d.roles, e.out ≠ 8191 := by
    simp [isNull]
  have hclock : d.clockRole.all d.hasRole = true ↔ ∀ r, d.clockRole = some r → r ∈ d.roles.map SlotRole.role := by
    rw [Option.all_eq_true]
    exact forall₂_congr fun r _ => hasRole_iff
  have hbind : d.components.all s.bindable = true ↔
      ∀ c ∈ d.roles.filterMap SlotRole.national, ∃ k, s.component c = some k ∧ k.mask = 0x1FFF :=
    List.all_eq_true.trans (forall₂_congr fun c _ => bindable_iff)
  unfold State.slotLegal
  rw [slotFieldsOk_eq, Bool.and_eq_true, Bool.and_eq_true, Bool.and_eq_true, Bool.and_eq_true, Bool.and_eq_true, Bool.and_eq_true,
    Bool.and_eq_true, distinct_iff, distinct_iff, distinct_iff, hnull, hclock, hbind, hasRole_iff, Bool.not_eq_true',
    List.isEmpty_eq_false_iff]
  simp only [SlotDef.components]
  tauto

theorem State.slotLegal.length_le (h : s.slotLegal d) : d.roles.length ≤ 6 := by
  simpa using h.2.1.length_le_card

/-! ## The second stage of SLOT_WRITE (R76) -/

theorem keptFrom_iff {c : ComponentId} : s.boundAs (fun b => b.blocksSlot sl) c = true ↔ s.keptFrom sl c := by
  unfold State.boundAs State.keptFrom
  cases s.component c with
  | none => simp
  | some k => cases hb : k.binding <;> simp [Binding.blocksSlot, hb]

theorem onNational_iff {r : Route} :
    (!(decide (r.state = .steady) && decide (r.current = .national))) = true ↔ ¬ r.onNational := by
  unfold Route.onNational
  rw [Bool.not_eq_true', ← Bool.not_eq_true, Bool.and_eq_true, decide_eq_true_iff, decide_eq_true_iff]

theorem offNational_some (hg : ¬ (s.route g sl).onNational) (hbefore : ∀ h < g, (s.route h sl).onNational) :
    s.offNational sl = some g :=
  find?_finRange (onNational_iff.2 hg) fun h hh => Bool.eq_false_iff.2 fun e => onNational_iff.1 e (hbefore h hh)

theorem offNational_none (h : ∀ g, (s.route g sl).onNational) : s.offNational sl = none :=
  List.find?_eq_none.2 fun g _ e => onNational_iff.1 e (h g)

theorem cueNaming_some {pre post : List Cue} {x : Cue} (hl : s.cues = pre ++ x :: post)
    (hpre : ∀ y ∈ pre, y.slot ≠ sl) (hx : x.slot = sl) : s.cueNaming sl = some x :=
  find?_first hl (fun y hy => decide_eq_false (hpre y hy)) (decide_eq_true hx)

theorem cueNaming_none (h : ∀ x ∈ s.cues, x.slot ≠ sl) : s.cueNaming sl = none :=
  List.find?_eq_none.2 fun x hx e => h x hx (of_decide_eq_true e)

theorem variantOf_eq (s : State) (sl : SlotId) (p : VariantDef → Bool) :
    s.variantOf sl p = (List.finRange 48).find? fun v => (s.variant v).any fun e => decide (e.slot = sl) && p e := by
  unfold State.variantOf
  refine congrArg (fun f => (List.finRange 48).find? f) (funext fun v => ?_)
  cases s.variant v <;> rfl

section
variable {p : VariantDef → Bool} {ok : VariantDef → Prop}

theorem isVariantOf_iff (hp : ∀ e, p e = true ↔ ok e) :
    ((s.variant v).any fun e => decide (e.slot = sl) && p e) = true ↔ s.isVariantOf sl v ok := by
  simp [Option.any_eq_true, State.isVariantOf, hp]

theorem variantOf_some (hp : ∀ e, p e = true ↔ ok e) (hv : s.isVariantOf sl v ok)
    (hbefore : ∀ w < v, ¬ s.isVariantOf sl w ok) : s.variantOf sl p = some v := by
  rw [variantOf_eq]
  exact find?_finRange ((isVariantOf_iff hp).2 hv) fun w hw =>
    Bool.eq_false_iff.2 fun e => hbefore w hw ((isVariantOf_iff hp).1 e)

theorem variantOf_none (hp : ∀ e, p e = true ↔ ok e) (h : ∀ v, ¬ s.isVariantOf sl v ok) : s.variantOf sl p = none := by
  rw [variantOf_eq]
  exact List.find?_eq_none.2 fun v _ e => h v ((isVariantOf_iff hp).1 e)

end

theorem strangeRole_iff (e : VariantDef) :
    (e.comps.any fun x => !d.hasRole x.1) = true ↔ ∃ x ∈ e.comps, x.1 ∉ d.roles.map SlotRole.role := by
  rw [List.any_eq_true]
  refine exists_congr fun x => and_congr_right fun _ => ?_
  rw [Bool.not_eq_true', ← Bool.not_eq_true, hasRole_iff]

theorem noAnchor_iff (e : VariantDef) :
    (!(e.comps.any fun x => decide (x.1 = d.anchor))) = true ↔ d.anchor ∉ e.comps.map Prod.fst := by
  rw [Bool.not_eq_true', ← Bool.not_eq_true, List.any_eq_true, List.mem_map]
  simp only [decide_eq_true_iff]

/-- What the searches of the second stage find, in the order of R76. -/
theorem slotInUse_eq (s : State) (sl : SlotId) (d : SlotDef) :
    s.slotInUse sl d =
      (((d.components.find? (s.boundAs fun b => b.blocksSlot sl)).map fun c => reasonRefs 0 (.component c)).or
        (((s.offNational sl).map fun g => reasonRefs 1 (.region g)).or
          (((s.cueNaming sl).map fun c => reasonRefs 2 (.cue c.id)).or
            (((s.variantOf sl fun e => e.comps.any fun x => !d.hasRole x.1).map fun v => reasonRefs 3 (.variant v)).or
              ((s.variantOf sl fun e => !(e.comps.any fun x => decide (x.1 = d.anchor))).map
                fun v => reasonRefs 4 (.variant v)))))) := by
  simp [State.slotInUse]

theorem freeComponents (h : ∀ c ∈ d.roles.filterMap SlotRole.national, ¬ s.keptFrom sl c) :
    d.components.find? (s.boundAs fun b => b.blocksSlot sl) = none :=
  List.find?_eq_none.2 fun c hc e => h c hc (keptFrom_iff.1 e)

/-! ## The three stages together (R75 to R77) -/

theorem doSlotWrite_badField (h : ¬ s.slotLegal d) : doSlotWrite (sl, d) s = .refused .badField [] := by
  unfold doSlotWrite
  dsimp only
  rw [Bool.eq_false_iff.2 fun e => h (slotFieldsOk_iff.1 e)]
  rfl

/-- A SLOT_WRITE that passes the first stage is met by the second and then the third. -/
theorem doSlotWrite_legal (h : s.slotLegal d) :
    doSlotWrite (sl, d) s =
      match s.slotInUse sl d with
      | some refs => .refused .inUse refs
      | none =>
        match s.regRefusal (ownSlot sl) (fun _ => slotWants sl d) with
        | some (g, why) => .refused why.result (why.refs g)
        | none => .ok (eSlot (some d)) (writeSlot sl d s) := by
  unfold doSlotWrite
  dsimp only
  rw [slotFieldsOk_iff.2 h]
  rfl

theorem doSlotWrite_inUse (h : s.slotLegal d) {refs : List ObjRef} (hu : s.slotInUse sl d = some refs) :
    doSlotWrite (sl, d) s = .refused .inUse refs := by
  rw [doSlotWrite_legal h, hu]

theorem doSlotWrite_refused (h : s.slotLegal d) (hu : s.slotInUse sl d = none) {why : RegRefusal}
    (hr : s.regRefusal (ownSlot sl) (fun _ => slotWants sl d) = some (g, why)) :
    doSlotWrite (sl, d) s = .refused why.result (why.refs g) := by
  rw [doSlotWrite_legal h, hu, hr]

theorem doSlotWrite_ok (h : s.slotLegal d) (hu : s.slotInUse sl d = none)
    (hr : s.regRefusal (ownSlot sl) (fun _ => slotWants sl d) = none) :
    doSlotWrite (sl, d) s = .ok (eSlot (some d)) (writeSlot sl d s) := by
  rw [doSlotWrite_legal h, hu, hr]

theorem refuses_slotWrite (hc : canTake .management s) (hlen : d.roles.length ≤ 6) {r : Result} {refs : List ObjRef}
    (hr : doSlotWrite (sl, d) s = .refused r refs) : Refuses .management 0x12 (slotRequest sl d) s r refs :=
  refuses_of_serve (fun _ => rfl) hc (.inl rfl) (readAll_slotRequest sl hlen) hr

/-! ## The third stage of SLOT_WRITE (R77, R157) -/

theorem conflict_none {r : Region} {x : Registration}
    (h : ∀ e ∈ r.registry, e.ident = x.1 → e.definer = x.2) : r.conflict x = none := by
  unfold Region.conflict
  cases hx : r.lookup x.1 with
  | none => rfl
  | some e =>
    obtain ⟨he, hid⟩ := r.lookup_some e _ hx
    exact if_pos (h e he hid)

/-- The first identifier that another definer holds decides the test. -/
theorem testAll_conflict_first {r : Region} {own : RegEntry → Bool} {want pre post : List Registration} {x : Registration}
    {e : RegEntry} (hl : want = pre ++ x :: post)
    (hpre : ∀ y ∈ pre, ∀ e ∈ r.registry, e.ident = y.1 → e.definer = y.2)
    (he : r.registry.find? (fun z => z.ident == x.1) = some e) (hd : e.definer ≠ x.2) :
    r.testAll own want = some (.conflict e.definer) := by
  have hlookup : r.lookup x.1 = some e := he
  have hx : r.conflict x = some e.definer := by
    unfold Region.conflict
    rw [hlookup]
    exact if_neg hd
  have hfirst : want.findSome? r.conflict = some e.definer :=
    List.findSome?_eq_some_iff.2 ⟨pre, x, post, hl, hx, fun y hy => conflict_none (hpre y hy)⟩
  unfold Region.testAll
  rw [hfirst]

/-- Identifiers that are all new and find no room beside the registrations of the others. -/
theorem testAll_full_new {r : Region} {own : RegEntry → Bool} {want : List Registration}
    (hnew : ∀ x ∈ want, ∀ e ∈ r.registry, e.ident ≠ x.1)
    (hfull : 192 < (r.registry.filter fun e => !own e).length + want.length) : r.testAll own want = some .full := by
  have hnone : want.findSome? r.conflict = none :=
    List.findSome?_eq_none_iff.2 fun x hx => conflict_none fun e he hid => absurd hid (hnew x hx e he)
  have hothers : (r.registry.filter fun e => !(own e && !e.among want)) = r.registry.filter fun e => !own e := by
    refine List.filter_congr fun e he => ?_
    have hnot : e.among want = false :=
      Bool.eq_false_iff.2 fun h => hnew _ (among_iff.1 h) e he rfl
    rw [hnot, Bool.not_false, Bool.and_true]
  have hmissing : r.missing want = want := List.filter_eq_self.2 fun x hx => by
    rw [(r.lookup_none x.1).2 (hnew x hx)]
    rfl
  unfold Region.testAll
  rw [hnone, hothers, hmissing]
  exact if_neg (Nat.not_le.2 hfull)

theorem slotWants_length (sl : SlotId) (d : SlotDef) : (slotWants sl d).length = d.roles.length := List.length_map _

/-- Settles O29: the searches of each stage find the first object, and every earlier stage finds nothing. -/
theorem slotWriteRefusals : Obligations.SlotWriteRefusals := by
  refine fun sl d s hc => ⟨fun hbad h256 => ?badField, fun hlegal =>
    have hlen := hlegal.length_le
    ⟨fun pre c post hl hpre hkept => ?component, fun hfree =>
    have hcomp := freeComponents hfree
    ⟨fun g hoff hbefore => ?region, fun hnat =>
    have hreg := offNational_none hnat
    ⟨fun pre x post hl hpre hx => ?cue, fun hquiet =>
    have hcue := cueNaming_none hquiet
    ⟨fun v hv hbefore => ?role, fun hroles =>
    have hrole := variantOf_none strangeRole_iff hroles
    ⟨fun v hv hbefore => ?anchor, fun hanchors g hbefore =>
    have hunused : s.slotInUse sl d = none := by
      rw [slotInUse_eq, hcomp, hreg, hcue, hrole, variantOf_none noAnchor_iff hanchors]
      rfl
    have hfirst : ∀ h < g, (s.region h).testAll (ownSlot sl) (slotWants sl d) = none := fun h hh =>
      testAll_none (hbefore h hh).2 (by rw [slotWants_length]; exact (hbefore h hh).1)
    ⟨fun pre x post e hl hpre he hd => ?conflict, fun hnew hfull => ?full⟩⟩⟩⟩⟩⟩⟩
  case badField =>
    by_cases hlen : d.roles.length ≤ 6
    · exact refuses_slotWrite hc hlen (doSlotWrite_badField hbad)
    · exact refuses_badField_of_serve (fun _ => rfl) hc (.inl rfl)
        (readAll_slotRequest_long sl (Nat.not_le.1 hlen) h256)
  case component =>
    refine refuses_slotWrite hc hlen (doSlotWrite_inUse hlegal ?_)
    rw [slotInUse_eq, SlotDef.components, find?_first hl
      (fun y hy => Bool.eq_false_iff.2 fun e => hpre y hy (keptFrom_iff.1 e)) (keptFrom_iff.2 hkept)]
    rfl
  case region =>
    refine refuses_slotWrite hc hlen (doSlotWrite_inUse hlegal ?_)
    rw [slotInUse_eq, hcomp, offNational_some hoff hbefore]
    rfl
  case cue =>
    refine refuses_slotWrite hc hlen (doSlotWrite_inUse hlegal ?_)
    rw [slotInUse_eq, hcomp, hreg, cueNaming_some hl hpre hx]
    rfl
  case role =>
    refine refuses_slotWrite hc hlen (doSlotWrite_inUse hlegal ?_)
    rw [slotInUse_eq, hcomp, hreg, hcue, variantOf_some strangeRole_iff hv hbefore]
    rfl
  case anchor =>
    refine refuses_slotWrite hc hlen (doSlotWrite_inUse hlegal ?_)
    rw [slotInUse_eq, hcomp, hreg, hcue, hrole, variantOf_some noAnchor_iff hv hbefore]
    rfl
  case conflict =>
    exact refuses_slotWrite hc hlen (doSlotWrite_refused hlegal hunused (why := .conflict e.definer)
      (regRefusal_some (testAll_conflict_first hl hpre he hd) hfirst))
  case full =>
    exact refuses_slotWrite hc hlen (doSlotWrite_refused hlegal hunused (why := .full)
      (regRefusal_some (testAll_full_new hnew (by rw [slotWants_length]; exact hfull)) hfirst))

/-! ## SLOT_WRITE (R78) -/

/-- The bindings that a slot gives its national components. -/
def SlotDef.bindings (d : SlotDef) (sl : SlotId) : List (Binding × ComponentId) :=
  d.roles.filterMap fun e => e.national.map fun c => (.national sl e.role, c)

theorem bindings_components (d : SlotDef) (sl : SlotId) :
    (d.bindings sl).map Prod.snd = d.roles.filterMap SlotRole.national := by
  unfold SlotDef.bindings
  rw [List.map_filterMap]
  refine congrArg (fun f => d.roles.filterMap f) (funext fun e => ?_)
  cases e.national <;> rfl

theorem foldl_bindRole (sl : SlotId) (d : SlotDef) (s : State) : d.roles.foldl (bindRole sl) s = bindAll (d.bindings sl) s := by
  unfold bindAll SlotDef.bindings
  rw [List.foldl_filterMap]
  refine congrArg (fun f => d.roles.foldl f s) (funext fun t => funext fun e => ?_)
  unfold bindRole
  cases e.national <;> rfl

/-- A slot and the bindings of components change, and then the registrations: nothing else does. -/
theorem slot_registrations_only {own : RegEntry → Bool} {want : RegionId → List Registration} {x : Option SlotDef}
    (hu : u = { s with components := u.components }) (ht : t = rewriteAll own want (u.setSlot sl x)) :
    t = { s.setSlot sl x with components := t.components, regions := t.regions } := by
  have honly := rewriteAll_only own want (u.setSlot sl x)
  rw [← ht] at honly
  have hcomp : t.components = u.components := (congrArg State.components honly :)
  rw [hcomp]
  exact honly.trans (congrArg (fun y : State => { y.setSlot sl x with regions := t.regions }) hu)

theorem rewriteAll_component (own : RegEntry → Bool) (want : RegionId → List Registration) (s : State) (c : ComponentId) :
    (rewriteAll own want s).component c = s.component c :=
  congrArg (fun x : Vector (Option Component) 256 => x[c]) (congrArg State.components (rewriteAll_only own want s) :)

theorem writeSlot_only (sl : SlotId) (d : SlotDef) (s : State) :
    writeSlot sl d s =
      { s.setSlot sl (some d) with components := (writeSlot sl d s).components, regions := (writeSlot sl d s).regions } := by
  refine slot_registrations_only (u := bindAll (d.bindings sl) (unbindNational sl s)) (own := ownSlot sl)
    (want := fun _ => d.registrations sl) ?_ ?_
  · exact bindAll_only (d.bindings sl) (unbindNational sl s)
  · rw [writeSlot, foldl_bindRole]

theorem writeSlot_component (sl : SlotId) (d : SlotDef) (s : State) (c : ComponentId) :
    (writeSlot sl d s).component c = (bindAll (d.bindings sl) (unbindNational sl s)).component c := by
  rw [writeSlot, rewriteAll_component, foldl_bindRole, State.setSlot_component_of]

/-- Registrations of roles with distinct identifiers give each identifier one definer. -/
theorem slotWants_unique (h : (d.roles.map SlotRole.out).Nodup) :
    ∀ x ∈ slotWants sl d, ∀ y ∈ slotWants sl d, x.1 = y.1 → x = y := by
  intro x hx y hy hxy
  obtain ⟨e, he, rfl⟩ := List.mem_map.1 hx
  obtain ⟨f, hf, rfl⟩ := List.mem_map.1 hy
  rw [List.inj_on_of_nodup_map h he hf hxy]

theorem writeSlot_region (h : (d.roles.map SlotRole.out).Nodup)
    (hfree : ∀ x ∈ slotWants sl d, ∀ e ∈ (s.region g).registry, e.ident = x.1 → e.definer = x.2) :
    Registers (ownSlot sl) (slotWants sl d) (s.region g) ((writeSlot sl d s).region g) := by
  have hregion : ((d.roles.foldl (bindRole sl) (unbindNational sl s)).setSlot sl (some d)).region g = s.region g := by
    rw [foldl_bindRole, State.setSlot_region_of]
    exact congrArg (fun x : Vector Region 8 => x[g])
      (congrArg State.regions (bindAll_only (d.bindings sl) (unbindNational sl s)) :)
  rw [writeSlot, rewriteAll_region, hregion]
  exact Region.rewrite_registers (slotWants_unique h) hfree

/-- Settles O28: the three stages find nothing, each component is unbound and then bound by its one role, and each region's
registrations are rewritten. -/
theorem slotWriteBindsItsRoles : Obligations.SlotWriteBindsItsRoles := by
  intro sl d s hc hlegal hfree hnat hquiet hvariants hroom hnames
  obtain ⟨-, -, hout, -, -, -, hnational, -⟩ := id hlegal
  have hrole : s.variantOf sl (fun e => e.comps.any fun x => !d.hasRole x.1) = none :=
    variantOf_none strangeRole_iff fun v ⟨e, he, hslot, x, hx, hno⟩ => hno ((hvariants v e he hslot).1 x hx)
  have hanchor : s.variantOf sl (fun e => !(e.comps.any fun x => decide (x.1 = d.anchor))) = none :=
    variantOf_none noAnchor_iff fun v ⟨e, he, hslot, hno⟩ => hno (hvariants v e he hslot).2
  have hunused : s.slotInUse sl d = none := by
    rw [slotInUse_eq, freeComponents hfree, offNational_none hnat, cueNaming_none hquiet, hrole, hanchor]
    rfl
  have htaken : s.regRefusal (ownSlot sl) (fun _ => slotWants sl d) = none :=
    regRefusal_none fun g => testAll_none (hnames g) (by rw [slotWants_length]; exact hroom g)
  refine ⟨_, answers_of_serve (fun _ => rfl) hc (.inl rfl) (readAll_slotRequest sl hlegal.length_le)
    (doSlotWrite_ok hlegal hunused htaken), writeSlot_only sl d s, fun e he c hec => ?_, fun c hnot => ?_,
    fun g => writeSlot_region hout (hnames g)⟩
  · have hmem : (Binding.national sl e.role, c) ∈ d.bindings sl := List.mem_filterMap.2 ⟨e, he, by rw [hec]; rfl⟩
    rw [writeSlot_component, bindAll_member (by rw [bindings_components]; exact hnational) hmem, unbindNational_component,
      Option.map_map]
    refine congrArg (fun f => (s.component c).map f) (funext fun k => ?_)
    rw [Function.comp_apply, Component.offSlot]
    split <;> rfl
  · rw [writeSlot_component, bindAll_other (by rw [bindings_components]; exact hnot), unbindNational_component]
    rfl

/-! ## SLOT_CLEAR and SLOT_READ (R79, R80) -/

theorem readAll_slotId (sl : SlotId) : readAll (rIndex 24) (e1 sl) = some sl :=
  readAll_some _ _ _ (by simpa using rIndex_e1 sl (by decide) [])

theorem slotClearInUse_eq (s : State) (sl : SlotId) :
    s.slotClearInUse sl =
      (((s.offNational sl).map fun g => reasonRefs 0 (.region g)).or
        (((s.cueNaming sl).map fun c => reasonRefs 1 (.cue c.id)).or
          ((s.variantOf sl fun _ => true).map fun v => reasonRefs 2 (.variant v)))) := by
  simp [State.slotClearInUse]

theorem refuses_slotClear (hc : canTake .management s) {refs : List ObjRef} (h : s.slotClearInUse sl = some refs) :
    Refuses .management 0x13 (e1 sl) s .inUse refs := by
  refine refuses_of_serve (fun _ => rfl) hc (.inl rfl) (readAll_slotId sl) ?_
  rw [doSlotClear, h]

theorem doSlotClear_ok (h : s.slotClearInUse sl = none) :
    doSlotClear sl s = .ok [] (rewriteAll (ownSlot sl) (fun _ => []) ((unbindNational sl s).setSlot sl none)) := by
  rw [doSlotClear, h]

/-- The variants of a slot are the ascending list of those that are its own. -/
theorem variantsOf_eq {vs : List VariantId} (hsorted : vs.Pairwise (· < ·))
    (hvs : ∀ v, v ∈ vs ↔ s.isVariantOf sl v fun _ => True) : s.variantsOf sl = vs := by
  refine List.Pairwise.eq_of_mem_iff ((List.pairwise_lt_finRange 48).filter _) hsorted fun v => ?_
  unfold State.variantsOf
  rw [hvs, List.mem_filter, and_iff_right (List.mem_finRange v)]
  unfold State.isVariantOf
  cases s.variant v <;> simp

theorem doSlotRead_eq (sl : SlotId) (s : State) :
    doSlotRead sl s =
      .ok (eSlot (s.slot sl) ++
        if s.slot sl = none then [] else eList (fun v : VariantId => e1 v) (s.variantsOf sl)) s := by
  unfold doSlotRead
  cases s.slot sl <;> rfl

/-- Settles O30: a clear by the first reason that holds, and a read of the slot as it stands. -/
theorem slotClearAndRead : Obligations.SlotClearAndRead := by
  refine fun sl s => ⟨fun hc =>
    ⟨fun g hoff hbefore => ?region, fun hnat =>
    have hreg := offNational_none hnat
    ⟨fun pre x post hl hpre hx => ?cue, fun hquiet =>
    have hcue := cueNaming_none hquiet
    ⟨fun v hv hbefore => ?variant, fun hnone => ?clear⟩⟩⟩, fun l vs hc hsorted hvs => ?read⟩
  case region =>
    refine refuses_slotClear hc ?_
    rw [slotClearInUse_eq, offNational_some hoff hbefore]
    rfl
  case cue =>
    refine refuses_slotClear hc ?_
    rw [slotClearInUse_eq, hreg, cueNaming_some hl hpre hx]
    rfl
  case variant =>
    refine refuses_slotClear hc ?_
    rw [slotClearInUse_eq, hreg, hcue, variantOf_some (fun _ => iff_of_true rfl trivial) hv hbefore]
    rfl
  case clear =>
    have hunused : s.slotClearInUse sl = none := by
      rw [slotClearInUse_eq, hreg, hcue, variantOf_none (fun _ => iff_of_true rfl trivial) hnone]
      rfl
    refine ⟨_, answers_of_serve (fun _ => rfl) hc (.inl rfl) (readAll_slotId sl) (doSlotClear_ok hunused),
      slot_registrations_only (u := unbindNational sl s) rfl rfl, fun c => ?_, fun g => ?_⟩
    · exact (rewriteAll_component _ _ _ c).trans (unbindNational_component sl c)
    · rw [rewriteAll_region, Region.rewrite_nil]
      rfl
  case read =>
    refine answers_of_serve (fun _ => rfl) hc (.inr rfl) (readAll_slotId sl) ?_
    rw [doSlotRead_eq, variantsOf_eq hsorted hvs]

end Sys2Proof.Machine
end

section
/-!
PROOFS. The three requests of the variants: the body that VARIANT_WRITE reads, its refusals, and what a write, a clear and a
read leave (R82 to R85, R92).
-/
namespace Sys2Proof.Machine

variable {s : State} {v : VariantId} {d : VariantDef} {starve recover ret : Nat}

/-! ## The body of VARIANT_WRITE (R82, R83, R200) -/

/-- The variant that a VARIANT_WRITE writes: STARVED with both timers stopped, and its durations clamped. -/
def VariantDef.written (d : VariantDef) (starve recover ret : Nat) : VariantDef :=
  { d with
    starveMs := min 5000 (max 20 starve), recoverMs := min 60000 recover, returnMs := min 10000 ret
    health := .starved, starveTimer := none, recoverTimer := none }

theorem rFallback_eSource (x : Fallback) (rest : List Byte) : rFallback (eSource x.source ++ rest) = some (x, rest) := by
  cases x <;> rfl

/-- A role and its component as VARIANT_WRITE carries them. -/
def roleComponentBytes (x : RoleId × ComponentId) : List Byte := e1 x.1 ++ e1 x.2

theorem rThen_roleComponentBytes (x : RoleId × ComponentId) (rest : List Byte) :
    rThen (rIndex 6) (rIndex 256) (roleComponentBytes x ++ rest) = some (x, rest) := by
  rw [roleComponentBytes, List.append_assoc]
  exact rThen_some _ _ _ _ _ _ _ (rIndex_e1 x.1 (by decide) _) (rIndex_e1 x.2 (by decide) _)

theorem variantRequest_eq (v : VariantId) (d : VariantDef) (starve recover ret : Nat) :
    variantRequest v d starve recover ret =
      e1 v ++ (e1 d.slot ++ (eList roleComponentBytes d.comps ++ (eSource d.fallback.source ++
        (e4 starve ++ (e4 recover ++ (e4 ret ++ [])))))) := by
  simp only [variantRequest, List.append_assoc, List.append_nil]
  rfl

/-- A VARIANT_WRITE reads as the variant that it writes. -/
theorem readAll_variantRequest (v : VariantId) (d : VariantDef) (hlen : d.comps.length < 256) (hs : starve < 2 ^ 32)
    (hr : recover < 2 ^ 32) (ht : ret < 2 ^ 32) :
    readAll rVariantWrite (variantRequest v d starve recover ret) = some (v, d.written starve recover ret) := by
  have hclamp : ∀ hi x : Nat, clamp 0 hi x = min hi x := fun hi x => congrArg (min hi) (Nat.zero_max x)
  refine readAll_some _ _ _ ?_
  rw [rVariantWrite, variantRequest_eq]
  rw [rThen_some _ _ _ _ _ _ _ (rIndex_e1 v (by decide) _)
    (rThen_some _ _ _ _ _ _ _ (rIndex_e1 d.slot (by decide) _)
      (rThen_some _ _ _ _ _ _ _
        (rList_eList 255 _ roleComponentBytes d.comps _ (by omega) hlen fun x _ => rThen_roleComponentBytes x)
        (rThen_some _ _ _ _ _ _ _ (rFallback_eSource d.fallback _)
          (rThen_some _ _ _ _ _ _ _ (rNat_e4 starve _ hs)
            (rThen_some _ _ _ _ _ _ _ (rNat_e4 recover _ hr) (rNat_e4 ret _ ht))))))]
  rw [Option.map_some]
  dsimp only
  rw [hclamp, hclamp]
  rfl

/-! ## The refusals of VARIANT_WRITE (R82) -/

/-- The BAD_FIELD cases of R82, as the rules put them. -/
theorem variantFieldsOk_iff : s.variantFieldsOk d = true ↔ s.variantLegal d := by
  unfold State.variantFieldsOk State.variantLegal
  cases hs : s.slot d.slot with
  | none => simp
  | some sd =>
    have hroles : (d.comps.all fun x => sd.hasRole x.1) = true ↔ ∀ x ∈ d.comps, x.1 ∈ sd.roles.map SlotRole.role :=
      List.all_eq_true.trans (forall₂_congr fun x _ => hasRole_iff)
    have hbind : (d.comps.all fun x => s.bindable x.2) = true ↔
        ∀ x ∈ d.comps, ∃ k, s.component x.2 = some k ∧ k.mask = 0x1FFF :=
      List.all_eq_true.trans (forall₂_congr fun x _ => bindable_iff)
    have hanchor : (d.comps.any fun x => decide (x.1 = sd.anchor)) = true ↔ sd.anchor ∈ d.comps.map Prod.fst := by
      rw [List.any_eq_true, List.mem_map]
      simp only [decide_eq_true_iff]
    dsimp only
    rw [Bool.and_eq_true, Bool.and_eq_true, Bool.and_eq_true, Bool.and_eq_true, distinct_iff, distinct_iff, hroles, hbind,
      hanchor]
    constructor
    · rintro ⟨⟨⟨⟨h1, h2⟩, h3⟩, h4⟩, h5⟩
      exact ⟨sd, rfl, h1, h2, h3, h4, h5⟩
    · rintro ⟨sd', hsd, h1, h2, h3, h4, h5⟩
      obtain rfl := Option.some.inj hsd
      exact ⟨⟨⟨⟨h1, h2⟩, h3⟩, h4⟩, h5⟩

theorem written_legal_iff : s.variantLegal (d.written starve recover ret) ↔ s.variantLegal d := Iff.rfl

theorem State.variantLegal.length_le (h : s.variantLegal d) : d.comps.length ≤ 6 := by
  obtain ⟨_, _, _, hroles, _⟩ := h
  simpa using hroles.length_le_card

/-- Some component of a variant is bound otherwise than to that variant (R82). -/
theorem blocksVariant_iff :
    (d.comps.any fun y => s.boundAs (fun b => b.blocksVariant v) y.2) = true ↔
      ∃ x ∈ d.comps, ∃ k, s.component x.2 = some k ∧ k.binding ≠ .unbound ∧ ∀ r, k.binding ≠ .variant v r := by
  rw [List.any_eq_true]
  refine exists_congr fun x => and_congr_right fun _ => ?_
  unfold State.boundAs
  cases s.component x.2 with
  | none => simp
  | some k => cases hb : k.binding <;> simp [Binding.blocksVariant, hb]

theorem concerns_iff {r : Route} :
    r.concerns v = true ↔ r.current = .variant v ∨ r.intended = .variant v ∨ r.state.target = some (.variant v) := by
  unfold Route.concerns
  rw [Bool.or_eq_true, Bool.or_eq_true, decide_eq_true_iff, decide_eq_true_iff, decide_eq_true_iff, or_assoc]

theorem variantUsed_iff : s.variantUsed v ↔ s.concerned v = true ∨ s.cueTargets v = true := by
  unfold State.variantUsed State.cueTargets
  rw [concerned_iff, List.any_eq_true]
  simp only [concerns_iff, decide_eq_true_iff]

theorem doVariantWrite_badField (h : ¬ s.variantLegal d) : doVariantWrite (v, d) s = .refused .badField [] := by
  unfold doVariantWrite
  dsimp only
  rw [Bool.eq_false_iff.2 fun e => h (variantFieldsOk_iff.1 e)]
  rfl

/-- A well-formed VARIANT_WRITE is refused IN_USE for a bound component or a use of the variant, and taken otherwise. -/
theorem doVariantWrite_legal (h : s.variantLegal d) :
    doVariantWrite (v, d) s =
      if d.comps.any fun y => s.boundAs (fun b => b.blocksVariant v) y.2 then .refused .inUse []
      else if s.concerned v then .refused .inUse []
      else if s.cueTargets v then .refused .inUse []
      else .ok (eVariant s (some d)) (writeVariant v d s) := by
  unfold doVariantWrite
  dsimp only
  rw [variantFieldsOk_iff.2 h]
  rfl

theorem doVariantWrite_inUse (h : s.variantLegal d)
    (hu : (∃ x ∈ d.comps, ∃ k, s.component x.2 = some k ∧ k.binding ≠ .unbound ∧ ∀ r, k.binding ≠ .variant v r) ∨
      s.variantUsed v) : doVariantWrite (v, d) s = .refused .inUse [] := by
  rw [doVariantWrite_legal h]
  rcases hu with hbound | hused
  · exact if_pos (blocksVariant_iff.2 hbound)
  · split
    · rfl
    · split
      · rfl
      · next hroute => exact if_pos ((variantUsed_iff.1 hused).resolve_left hroute)

theorem doVariantWrite_ok (h : s.variantLegal d)
    (hfree : ∀ x ∈ d.comps, ∀ k, s.component x.2 = some k → k.binding = .unbound ∨ ∃ r, k.binding = .variant v r)
    (hu : ¬ s.variantUsed v) : doVariantWrite (v, d) s = .ok (eVariant s (some d)) (writeVariant v d s) := by
  obtain ⟨hroute, hcue⟩ := not_or.1 fun e => hu (variantUsed_iff.2 e)
  have hbound : ¬ (d.comps.any fun y => s.boundAs (fun b => b.blocksVariant v) y.2) = true := by
    rw [blocksVariant_iff]
    rintro ⟨x, hx, k, hk, hne, hother⟩
    obtain h0 | ⟨r, hr⟩ := hfree x hx k hk
    · exact hne h0
    · exact hother r hr
  rw [doVariantWrite_legal h, if_neg hbound, if_neg hroute, if_neg hcue]

/-! ## VARIANT_WRITE (R83, R92) -/

/-- The bindings that a variant gives its components. -/
def VariantDef.bindings (d : VariantDef) (v : VariantId) : List (Binding × ComponentId) :=
  d.comps.map fun x => (.variant v x.1, x.2)

theorem variantBindings_components (d : VariantDef) (v : VariantId) : (d.bindings v).map Prod.snd = d.comps.map Prod.snd := by
  rw [VariantDef.bindings, List.map_map]
  rfl

theorem writeVariant_eq (v : VariantId) (d : VariantDef) (s : State) :
    writeVariant v d s =
      notifyHealth v (s.healthBefore v) .starved .written
        ((bindAll (d.bindings v) (unbindVariant v s)).setVariant v (some d)) := by
  unfold writeVariant bindAll VariantDef.bindings
  rw [List.foldl_map]

/-- The variant and the bindings change, and VARIANT_HEALTH is sent: nothing else does. -/
theorem writeVariant_only (v : VariantId) (d : VariantDef) (s : State) :
    writeVariant v d s =
      notifyMgmt (.variantHealth v (s.healthBefore v) .starved .written s.clock)
        { s.setVariant v (some d) with components := (writeVariant v d s).components } := by
  rw [writeVariant_eq]
  exact congrArg (fun y : State => notifyHealth v (s.healthBefore v) .starved .written (y.setVariant v (some d)))
    (bindAll_only (d.bindings v) (unbindVariant v s))

theorem writeVariant_component (v : VariantId) (d : VariantDef) (s : State) (c : ComponentId) :
    (writeVariant v d s).component c = (bindAll (d.bindings v) (unbindVariant v s)).component c := by
  rw [writeVariant_eq, notifyHealth, notifyMgmt_component_of, State.setVariant_component_of]

/-- Settles O31: nothing refuses the write, and each component is unbound and then bound by its one role. -/
theorem variantWriteBindsItsRoles : Obligations.VariantWriteBindsItsRoles := by
  intro v d starve recover ret s hc hs hr ht hd hlegal hfree hunused
  obtain ⟨_, _, _, _, hcomps, _⟩ := id hlegal
  have hread : readAll rVariantWrite (variantRequest v d starve recover ret) = some (v, d) :=
    (readAll_variantRequest v d (Nat.lt_of_le_of_lt hlegal.length_le (by decide)) hs hr ht).trans
      (congrArg (fun e => some (v, e)) hd.symm)
  refine ⟨_, answers_of_serve (fun _ => rfl) hc (.inl rfl) hread (doVariantWrite_ok hlegal hfree hunused),
    writeVariant_only v d s, fun x hx => ?_, fun c hnot => ?_⟩
  · have hmem : (Binding.variant v x.1, x.2) ∈ d.bindings v := List.mem_map_of_mem hx
    rw [writeVariant_component, bindAll_member (by rw [variantBindings_components]; exact hcomps) hmem,
      unbindVariant_component, Option.map_map]
    refine congrArg (fun f => (s.component x.2).map f) (funext fun k => ?_)
    rw [Function.comp_apply, Component.offVariant]
    split <;> rfl
  · rw [writeVariant_component, bindAll_other (by rw [variantBindings_components]; exact hnot), unbindVariant_component]
    rfl

/-! ## VARIANT_CLEAR and VARIANT_READ (R84, R85) -/

theorem readAll_variantId (v : VariantId) : readAll (rIndex 48) (e1 v) = some v :=
  readAll_some _ _ _ (by simpa using rIndex_e1 v (by decide) [])

theorem doVariantClear_used (h : s.variantUsed v) : doVariantClear v s = .refused .inUse [] :=
  if_pos (Bool.or_eq_true_iff.2 (variantUsed_iff.1 h))

theorem doVariantClear_ok (h : ¬ s.variantUsed v) : doVariantClear v s = .ok [] ((unbindVariant v s).setVariant v none) :=
  if_neg fun e => h (variantUsed_iff.2 (Bool.or_eq_true_iff.1 e))

theorem doVariantRead_undefined (h : s.variant v = none) : doVariantRead v s = .ok (e1 0) s := by
  unfold doVariantRead
  rw [h]
  rfl

theorem doVariantRead_defined (h : s.variant v = some d) :
    doVariantRead v s =
      .ok (eVariant s (some d) ++ eOpt (fun x : Deadline => e6 (x.len - (s.clock - x.set).toNat)) d.starveTimer ++
        eOpt (fun x : Deadline => e6 (x.len - (s.clock - x.set).toNat)) d.recoverTimer ++ eConcerned s v d.slot) s := by
  unfold doVariantRead
  rw [h]
  simp only [List.append_assoc]
  rfl

/-- Settles O32: the refusals of a write in R82's order, a clear by whether the variant is used, and a read by whether it
stands. -/
theorem variantRefusalsClearAndRead : Obligations.VariantRefusalsClearAndRead := by
  refine fun v s => ⟨fun d starve recover ret hc hs hr ht hlen => ⟨fun hbad => ?badField, fun hlegal hu => ?inUse⟩,
    fun hc => ⟨fun hu => ?used, fun hu => ?clear⟩, fun l hc => ⟨fun hv => ?undefined, fun d hv => ?defined⟩⟩
  case badField =>
    exact refuses_of_serve (fun _ => rfl) hc (.inl rfl) (readAll_variantRequest v d hlen hs hr ht)
      (doVariantWrite_badField fun h => hbad (written_legal_iff.1 h))
  case inUse =>
    exact refuses_of_serve (fun _ => rfl) hc (.inl rfl) (readAll_variantRequest v d hlen hs hr ht)
      (doVariantWrite_inUse (written_legal_iff.2 hlegal) hu)
  case used =>
    exact refuses_of_serve (fun _ => rfl) hc (.inl rfl) (readAll_variantId v) (doVariantClear_used hu)
  case clear =>
    exact ⟨_, answers_of_serve (fun _ => rfl) hc (.inl rfl) (readAll_variantId v) (doVariantClear_ok hu), rfl,
      fun c => unbindVariant_component v c⟩
  case undefined =>
    exact answers_of_serve (fun _ => rfl) hc (.inr rfl) (readAll_variantId v) (doVariantRead_undefined hv)
  case defined =>
    exact answers_of_serve (fun _ => rfl) hc (.inr rfl) (readAll_variantId v) (doVariantRead_defined hv)

end Sys2Proof.Machine
end

section
/-!
PROOFS. The requests to the switch schedule as they arrive: the fields of their bodies, the claim test of their regions, and
CUE_LIST, which changes nothing (R95, R104, R107, R109, R136).
-/
namespace Sys2Proof.Machine

variable {s : State} {l : Link} {c : Cue}

/-! ## The fields of the requests (R95, R104, R109) -/

theorem rCueId_e2 {id : Nat} (hid : id < 65536) (rest : List Byte) :
    rCueId (e2 id ++ rest) = if id = 0 then none else some (id, rest) := by
  simp [rCueId, rWhen, rNat_e2 id rest hid]

theorem rMask_byte (mask : RegionMask) (rest : List Byte) :
    rMask ([mask] ++ rest) = if mask = 0 then none else some (mask, rest) := by
  simp [rMask, rWhen, rByte]

theorem rOwner_e1 {o : Nat} (ho : o < 256) (rest : List Byte) :
    rOwner (e1 o ++ rest) = if o ≤ 127 then some (o, rest) else none := by
  simp [rOwner, rWhen, rNat_e1 o rest ho]

theorem rThen_none_left {α β : Type} {r : Reader α} {q : Reader β} {b : List Byte} (h : r b = none) : rThen r q b = none := by
  simp [rThen, h]

/-- The body of CUE_CANCEL and CUE_CONFIRM reads as the cue id and the owner that it carries. -/
theorem readAll_cueOwner {id owner : Nat} (h0 : 0 < id) (hid : id < 65536) (ho : owner ≤ 127) :
    readAll (rThen rCueId rOwner) (e2 id ++ e1 owner) = some (id, owner) := by
  have hcue : rCueId (e2 id ++ e1 owner) = some (id, e1 owner) := by rw [rCueId_e2 hid, if_neg (by omega)]
  have howner : rOwner (e1 owner) = some (owner, []) := by
    rw [← List.append_nil (e1 owner), rOwner_e1 (by omega), if_pos ho]
  exact readAll_some _ _ _ (rThen_some _ _ _ _ _ _ _ hcue howner)

/-! ## The claim test (R136) -/

/-- The claim test fails in the first region of the mask that another owner claims. -/
theorem claimedBy_first {mask : RegionMask} {o owner : Nat} {g : RegionId} (h : s.firstClaimed mask o g owner) :
    s.claimedBy mask o = some (g, owner) := by
  obtain ⟨hg, hclaim, hne, hbefore⟩ := h
  obtain ⟨pre, post, hl⟩ := List.append_of_mem (mem_regionsOf.2 hg)
  have hsorted : (regionsOf mask).Pairwise (· < ·) := (List.pairwise_lt_finRange 8).filter _
  refine List.findSome?_eq_some_iff.2 ⟨pre, g, post, hl, by simp [hclaim, hne], fun k hk => ?_⟩
  rw [hl] at hsorted
  have hlt : k < g := (List.pairwise_append.1 hsorted).2.2 k hk g (by simp)
  have hbit : mask.getLsbD k = true := mem_regionsOf.1 (hl ▸ List.mem_append_left _ hk)
  rcases hbefore k hlt hbit with hnone | hown
  · simp [hnone]
  · simp [hown]

/-- The claim test passes where no region of the mask has another claimant. -/
theorem claimedBy_none {mask : RegionMask} {o : Nat} (h : s.mayTouch mask o) : s.claimedBy mask o = none := by
  refine List.findSome?_eq_none_iff.2 fun g hg => ?_
  rcases h g (mem_regionsOf.1 hg) with hnone | hown
  · simp [hnone]
  · simp [hown]

/-! ## CUE_LIST (R109) -/

theorem eCue_eq (s : State) (x : Cue × Nat) : eCue s x = cueBytes s x := rfl

/-- The position that CUE_LIST may begin from. -/
theorem rPosition_e1 {pos : Nat} (hpos : pos < 256) :
    rOpt (rWhen (rNat 1) fun n => decide (n ≤ 127)) ([1] ++ e1 pos) =
      if pos ≤ 127 then some (some pos, []) else none := by
  have hnum : rNat 1 (e1 pos) = some (pos, []) := by
    rw [← List.append_nil (e1 pos)]
    exact rNat_e1 pos [] hpos
  by_cases h127 : pos ≤ 127 <;> simp [rOpt, rWhen, hnum, h127]

theorem rOpt_cueId {id : Nat} (hid : id < 65536) (rest : List Byte) :
    rOpt rCueId ([1] ++ (e2 id ++ rest)) = if id = 0 then none else some (some id, rest) := by
  by_cases h0 : id = 0
  · simpa [rOpt, h0] using rCueId_e2 hid rest
  · rw [if_neg h0]
    exact rOpt_some rCueId e2 id rest (by rw [rCueId_e2 hid, if_neg h0])

/-- A CUE_LIST by a cue id that is one reads as that selector. -/
theorem readAll_cueList_byId {id : Nat} (h0 : 0 < id) (hid : id < 65536) :
    readAll rCueList ([1] ++ e2 id ++ [0]) = some (.byId id) := by
  have hcue : rOpt rCueId ([1] ++ e2 id ++ [0]) = some (some id, [0]) := by
    rw [List.append_assoc, rOpt_cueId hid, if_neg (by omega)]
  have hthen := rThen_some _ (rOpt (rWhen (rNat 1) fun n => decide (n ≤ 127))) _ _ [] _ none hcue rfl
  unfold readAll rCueList
  rw [hthen]

/-- A CUE_LIST by id 0 does not read. -/
theorem readAll_cueList_zero : readAll rCueList ([1] ++ e2 0 ++ [0]) = none := by decide

/-- A CUE_LIST with both selectors does not read, whatever they are. -/
theorem readAll_cueList_both {id pos : Nat} (hid : id < 65536) (hpos : pos < 256) :
    readAll rCueList ([1] ++ e2 id ++ [1] ++ e1 pos) = none := by
  have hcue : rOpt rCueId ([1] ++ e2 id ++ [1] ++ e1 pos) = if id = 0 then none else some (some id, [1] ++ e1 pos) := by
    rw [List.append_assoc, List.append_assoc, rOpt_cueId hid]
  have hpos := rPosition_e1 hpos
  unfold readAll rCueList
  by_cases h0 : id = 0
  · rw [if_pos h0] at hcue
    rw [rThen_none_left hcue]
  · rw [if_neg h0] at hcue
    by_cases h127 : pos ≤ 127
    · rw [if_pos h127] at hpos
      rw [rThen_some _ _ _ _ _ _ _ hcue hpos]
    · rw [if_neg h127] at hpos
      rw [rThen_none hcue hpos]

/-- A CUE_LIST by position reads as that selector where the position is one of the schedule. -/
theorem readAll_cueList_from {pos : Nat} (hpos : pos < 256) :
    readAll rCueList ([0, 1] ++ e1 pos) = if pos ≤ 127 then some (.from pos) else none := by
  have hcue : rOpt rCueId ([0, 1] ++ e1 pos) = some (none, [1] ++ e1 pos) := rfl
  have hpos := rPosition_e1 hpos
  unfold readAll rCueList
  by_cases h127 : pos ≤ 127
  · rw [if_pos h127] at hpos ⊢
    rw [rThen_some _ _ _ _ _ _ _ hcue hpos]
  · rw [if_neg h127] at hpos ⊢
    rw [rThen_none hcue hpos]

/-- The first cue of an id is reported with its position. -/
theorem doCueList_byId {pre post : List Cue} (hl : s.cues = pre ++ c :: post) (hpre : ∀ y ∈ pre, y.id ≠ c.id) :
    doCueList (.byId c.id) s = cueListReply s [(c, pre.length)] := by
  have hfind : (s.cues.zipIdx.find? fun x => decide (x.1.id = c.id)) = some (c, pre.length) := by
    refine find?_first (pre := pre.zipIdx) (post := post.zipIdx (pre.length + 1)) ?_ (fun y hy => ?_) (by simp)
    · simp [hl, List.zipIdx_append, List.zipIdx_cons]
    · simpa using hpre y.1 (List.fst_mem_of_mem_zipIdx hy)
  simp only [doCueList, hfind]

theorem doCueList_unknown {id : Nat} (h : ∀ y ∈ s.cues, y.id ≠ id) : doCueList (.byId id) s = .refused .unknown [] := by
  have hfind : (s.cues.zipIdx.find? fun x => decide (x.1.id = id)) = none :=
    List.find?_eq_none.2 fun y hy => by simpa using h y.1 (List.fst_mem_of_mem_zipIdx hy)
  simp only [doCueList, hfind]

/-- Settles O36: a CUE_LIST is answered by its selector, which its body alone decides. -/
theorem cueListReadsTheSchedule : Obligations.CueListReadsTheSchedule := by
  rintro l s rest hc rfl
  refine ⟨fun c pre post hl hpre h0 hid => ?byId, fun id h0 hid hnone => ?unknown, fun pos hpos => ?position,
    ?neither, fun id pos hid hpos => ?both, ?zero, fun pos hpos hpos' => ?beyond⟩
  case byId =>
    refine answers_of_serve (fun _ => rfl) hc (.inr rfl) (readAll_cueList_byId h0 hid) ((doCueList_byId hl hpre).trans ?_)
    simp [cueListReply, eList, e1_eq, eCue_eq, eFlag]
  case unknown =>
    exact refuses_of_serve (fun _ => rfl) hc (.inr rfl) (readAll_cueList_byId h0 hid) (doCueList_unknown hnone)
  case position =>
    refine answers_of_serve (fun _ => rfl) hc (.inr rfl) ((readAll_cueList_from (by omega)).trans (if_pos hpos)) ?_
    simp only [doCueList, cueListReply, List.append_assoc]
    rfl
  case neither => exact refuses_badField_of_serve (fun _ => rfl) hc (.inr rfl) (by decide : readAll rCueList [0, 0] = none)
  case both => exact refuses_badField_of_serve (fun _ => rfl) hc (.inr rfl) (readAll_cueList_both hid hpos)
  case zero => exact refuses_badField_of_serve (fun _ => rfl) hc (.inr rfl) readAll_cueList_zero
  case beyond =>
    exact refuses_badField_of_serve (fun _ => rfl) hc (.inr rfl)
      ((readAll_cueList_from hpos').trans (if_neg (Nat.not_le.2 hpos)))

end Sys2Proof.Machine
end

section
/-!
PROOFS. A cue handed over to the routes of its mask, some of which wait on other cues: the waits that it supersedes get their
outcomes first, and they move other cues than the one handed over, so that the schedule is the same whether they are given
region by region, as the part gives them, or all before the hand-over, as the rules put it (R98 to R103, R121, R122).
-/
namespace Sys2Proof.Machine

variable {s t u x : State} {b c : Cue} {g : RegionId} {sl : SlotId} {id i : Nat} {o : CueOutcome} {st : CueState}
  {out : List (RegionId × CueOutcome)} {cs : List Cue} {l : List (RegionId × Nat × CueOutcome)}

/-! ## A cue that stands with other outcomes -/

/-- The cue with another state and other outcomes. -/
def Cue.standing (st : CueState) (out : List (RegionId × CueOutcome)) (c : Cue) : Cue :=
  { c with state := st, outcomes := out }

theorem withoutCue_standing (i id : Nat) (cs : List Cue) :
    withoutCue i (mapCue id (Cue.standing st out) cs) = mapCue id (Cue.standing st out) (withoutCue i cs) := by
  unfold withoutCue mapCue
  rw [List.filter_map]
  refine congrArg _ (List.filter_congr fun y _ => ?_)
  by_cases hy : y.id = id <;> simp [hy, Cue.standing]

theorem insertCue_standing (hb : b.id ≠ id) (cs : List Cue) :
    insertCue b (mapCue id (Cue.standing st out) cs) = mapCue id (Cue.standing st out) (insertCue b cs) := by
  induction cs with
  | nil => simp [mapCue, insertCue, hb]
  | cons y cs ih =>
    have hbefore : b.before (if y.id = id then y.standing st out else y) = b.before y := by
      by_cases hy : y.id = id <;> simp [hy, Cue.standing, Cue.before]
    unfold mapCue at ih ⊢
    rw [List.map_cons]
    unfold insertCue
    rw [hbefore]
    split
    · simp [hb]
    · rw [ih, List.map_cons]

theorem renumber_standing (n id : Nat) (cs : List Cue) :
    renumber n (mapCue id (Cue.standing st out) cs) = mapCue id (Cue.standing st out) (renumber n cs) := by
  induction cs generalizing n with
  | nil => rfl
  | cons y cs ih =>
    unfold mapCue at ih ⊢
    rw [List.map_cons, renumber, renumber, List.map_cons, ih]
    by_cases hy : y.id = id <;> simp [hy, Cue.standing]

theorem mapCue_standing_ne (hi : i ≠ id) (hb : b.id = i) (cs : List Cue) :
    mapCue i (fun _ => b) (mapCue id (Cue.standing st out) cs) =
      mapCue id (Cue.standing st out) (mapCue i (fun _ => b) cs) := by
  simp only [mapCue, List.map_map]
  refine List.map_congr_left fun y _ => ?_
  by_cases hy : y.id = id
  · simp [hy, Cue.standing, Ne.symm hi]
  · by_cases hyi : y.id = i <;> simp [hy, hyi, hb, hi]

/-- Where the ids are distinct, the cues of an id are one cue. -/
theorem mapCue_standing (hn : (cs.map Cue.id).Nodup) (hc : c ∈ cs) :
    mapCue c.id (fun _ => c.standing st out) cs = mapCue c.id (Cue.standing st out) cs := by
  refine List.map_congr_left fun y hy => ?_
  by_cases hid : y.id = c.id
  · rw [if_pos hid, if_pos hid, List.inj_on_of_nodup_map hn hy hc hid]
  · rw [if_neg hid, if_neg hid]

/-- The schedule of a state is that of another with the cue of an id standing elsewhere, and one change more. -/
structure Progressed (id : Nat) (st : CueState) (out : List (RegionId × CueOutcome)) (u t : State) : Prop where
  cues : t.cues = mapCue id (Cue.standing st out) u.cues
  insertion : t.insertion = u.insertion
  changes : t.changes = u.changes + 1
  falling : t.falling = u.falling
  station : t.station = u.station

theorem Progressed.sameSchedule (h : Progressed id st out u t) (hx : SameSchedule t x) : Progressed id st out u x :=
  ⟨hx.cues.trans h.cues, hx.insertion.trans h.insertion, hx.changes.trans h.changes, hx.falling.trans h.falling,
    hx.station.trans h.station⟩

theorem Progressed.enterCue (h : Progressed id st out u t) (hb : b.id ≠ id) :
    Progressed id st out (enterCue b u) (enterCue b t) := by
  have hfull : Progressed id st out (renumberFull u) (renumberFull t) := by
    unfold renumberFull
    rw [h.insertion]
    split
    · exact ⟨(congrArg (renumber 0) h.cues).trans (renumber_standing _ _ _),
        (congrArg List.length h.cues).trans (List.length_map _), h.changes, h.falling, h.station⟩
    · exact h
  refine ⟨?_, congrArg (· + 1) hfull.insertion, congrArg (· + 1) hfull.changes, hfull.falling, hfull.station⟩
  simp only [Machine.enterCue, countChange]
  rw [hfull.cues, hfull.insertion, withoutCue_standing,
    insertCue_standing (b := { b with insertion := (renumberFull u).insertion }) hb]

theorem Progressed.completeCue (h : Progressed id st out u t) (hb : b.id ≠ id) :
    Progressed id st out (completeCue b u) (completeCue b t) := by
  cases hr : b.rpt with
  | once =>
    rw [completeCue_once hr, completeCue_once hr]
    exact ⟨(congrArg (withoutCue b.id) h.cues).trans (withoutCue_standing _ _ _), h.insertion,
      congrArg (· + 1) h.changes, h.falling, h.station⟩
  | daily =>
    have hnotified : Progressed id st out (notifyBoth (.cueDone b (some (nextOccurrence u.station b.due).1)) u)
        (notifyBoth (.cueDone b (some (nextOccurrence u.station b.due).1)) t) :=
      ⟨h.cues, h.insertion, h.changes, h.falling, h.station⟩
    have henter := hnotified.enterCue (b := b.waiting (nextOccurrence u.station b.due).1) hb
    rw [completeCue_daily hr, completeCue_daily hr, h.station, h.falling]
    exact ⟨henter.cues, henter.insertion, henter.changes, rfl, henter.station⟩

/-- An outcome for another cue does not tell the two schedules apart. -/
theorem Progressed.recordOutcome (h : Progressed id st out u t) (hi : i ≠ id) (g : RegionId) (o : CueOutcome) :
    Progressed id st out (recordOutcome i g o u) (recordOutcome i g o t) := by
  have hcue : t.cue i = u.cue i := by
    unfold State.cue
    rw [h.cues, mapCue, List.find?_map]
    have hsame : ((fun y : Cue => y.id == i) ∘ fun y => if y.id = id then y.standing st out else y) =
        fun y => y.id == i := by
      funext y
      by_cases hy : y.id = id <;> simp [hy, Cue.standing]
    rw [hsame]
    cases hf : u.cues.find? fun y => y.id == i with
    | none => rfl
    | some y =>
      have hy : y.id = i := by simpa using List.find?_some hf
      simp [hy, hi]
  unfold Machine.recordOutcome
  rw [hcue]
  cases hf : u.cue i with
  | none => exact h
  | some y =>
    obtain ⟨-, hy⟩ := State.cue_some hf
    dsimp only
    cases y.state with
    | pending => exact h
    | active =>
      have hmap : Progressed id st out { u with cues := mapCue i (fun _ => y.record g o) u.cues }
          { t with cues := mapCue i (fun _ => y.record g o) t.cues } :=
        ⟨(congrArg _ h.cues).trans (mapCue_standing_ne (b := y.record g o) hi hy u.cues), h.insertion, h.changes, h.falling, h.station⟩
      dsimp only
      split
      · exact hmap.completeCue (b := y.record g o) fun e => hi (hy.symm.trans e)
      · exact hmap

theorem Progressed.giveAll (h : Progressed id st out u t) (hl : ∀ y ∈ l, y.2.1 ≠ id) :
    Progressed id st out (giveAll l u) (giveAll l t) := by
  induction l generalizing u t with
  | nil => exact h
  | cons y l ih =>
    exact ih (h.recordOutcome (hl y (by simp)) _ _) fun z hz => hl z (by simp [hz])

/-! ## What outcomes given leave -/

theorem giveAll_only (l : List (RegionId × Nat × CueOutcome)) (s : State) : OnlySwitching s (giveAll l s) :=
  foldl_switching s _ (fun t _ => recordOutcome_only t _ _ _) l

theorem giveAll_routes (l : List (RegionId × Nat × CueOutcome)) (s : State) : (giveAll l s).routes = s.routes := by
  induction l generalizing s with
  | nil => rfl
  | cons _ l ih => exact (ih _).trans (recordOutcome_routes _ _ _ _)

theorem giveAll_route (l : List (RegionId × Nat × CueOutcome)) (s : State) (g : RegionId) (sl : SlotId) :
    (giveAll l s).route g sl = s.route g sl := by
  simp only [State.route, giveAll_routes]

theorem giveAll_waits (hs : s.activesWait) (l : List (RegionId × Nat × CueOutcome)) :
    (giveAll l s).falling = s.falling ∧ (giveAll l s).activesWait := by
  induction l generalizing s with
  | nil => exact ⟨rfl, hs⟩
  | cons y l ih =>
    obtain ⟨hf, hw⟩ := recordOutcome_waits hs y.2.1 y.1 y.2.2
    obtain ⟨hf', hw'⟩ := ih hw
    exact ⟨hf'.trans hf, hw'⟩

/-- Outcomes given keep the ids distinct, and take one insertion number each at most. -/
theorem giveAll_numbers (h : (s.cues.map Cue.id).Nodup) (hi : s.insertion + l.length < 4294967295) :
    ((giveAll l s).cues.map Cue.id).Nodup ∧ (giveAll l s).insertion ≤ s.insertion + l.length := by
  induction l generalizing s with
  | nil => exact ⟨h, le_refl _⟩
  | cons y l ih =>
    rw [List.length_cons] at hi ⊢
    obtain ⟨hn, hle⟩ := recordOutcome_numbers h (show s.insertion < 4294967295 by omega) y.2.1 y.1 y.2.2
    obtain ⟨hn', hle'⟩ := ih hn (by omega)
    exact ⟨hn', hle'.trans (by omega)⟩

/-- A completion leaves the cues of other ids where they stand. -/
theorem mem_completeCue_ne (hi : s.insertion < 4294967295) (hc : c ∈ s.cues) (hne : c.id ≠ b.id) :
    c ∈ (completeCue b s).cues := by
  cases hr : b.rpt with
  | once =>
    rw [completeCue_once hr]
    exact mem_withoutCue.2 ⟨hc, hne⟩
  | daily =>
    rw [completeCue_daily hr,
      enterCue_enters (notifyBoth (.cueDone b (some (nextOccurrence s.station b.due).1)) s) _ hi]
    exact mem_insertCue_iff.2 (.inr (mem_withoutCue.2 ⟨hc, hne⟩))

/-- Outcomes given leave the PENDING cues where they stand. -/
theorem mem_recordOutcome (hn : (s.cues.map Cue.id).Nodup) (hi : s.insertion < 4294967295) (hc : c ∈ s.cues)
    (hp : c.state = .pending) (id : Nat) (g : RegionId) (o : CueOutcome) : c ∈ (recordOutcome id g o s).cues := by
  cases hcue : s.cue id with
  | none => simpa [recordOutcome, hcue] using hc
  | some b =>
    obtain ⟨hmem, rfl⟩ := State.cue_some hcue
    cases ha : b.state with
    | pending => simpa [recordOutcome, hcue, ha] using hc
    | active =>
      have hne : c.id ≠ b.id := fun e => by
        rw [List.inj_on_of_nodup_map hn hc hmem e, ha] at hp
        exact absurd hp (by decide)
      have hmap : c ∈ mapCue b.id (fun _ => b.record g o) s.cues := List.mem_map.2 ⟨c, hc, if_neg hne⟩
      rw [recordOutcome_active hcue ha]
      split
      · exact mem_completeCue_ne (s := { s with cues := mapCue b.id (fun _ => b.record g o) s.cues }) hi hmap hne
      · exact hmap

theorem mem_giveAll (hn : (s.cues.map Cue.id).Nodup) (hi : s.insertion + l.length < 4294967295) (hc : c ∈ s.cues)
    (hp : c.state = .pending) : c ∈ (giveAll l s).cues := by
  induction l generalizing s with
  | nil => exact hc
  | cons y l ih =>
    rw [List.length_cons] at hi
    obtain ⟨hn', hle⟩ := recordOutcome_numbers hn (show s.insertion < 4294967295 by omega) y.2.1 y.1 y.2.2
    exact ih (s := recordOutcome y.2.1 y.1 y.2.2 s) hn' (by omega) (mem_recordOutcome hn (by omega) hc hp _ _ _)

/-! ## What is still to be dealt with has no bearing on outcomes -/

theorem enterCue_setFalling (b : Cue) (s : State) (k j : List Nat) :
    { enterCue b { s with falling := k } with falling := j } = { enterCue b s with falling := j } := by
  by_cases hfull : s.insertion = Config.insertionMax <;> simp [enterCue, renumberFull, countChange, hfull]

theorem completeCue_setFalling (b : Cue) (s : State) (k j : List Nat) :
    { completeCue b { s with falling := k } with falling := j } = { completeCue b s with falling := j } := by
  cases hr : b.rpt with
  | once =>
    rw [completeCue_once hr, completeCue_once hr]
    rfl
  | daily =>
    rw [completeCue_daily hr, completeCue_daily hr]
    exact enterCue_setFalling _ (notifyBoth _ s) k j

theorem recordOutcome_setFalling (id : Nat) (g : RegionId) (o : CueOutcome) (s : State) (k j : List Nat) :
    { recordOutcome id g o { s with falling := k } with falling := j } = { recordOutcome id g o s with falling := j } := by
  have hcue : ({ s with falling := k } : State).cue id = s.cue id := rfl
  unfold recordOutcome
  rw [hcue]
  cases s.cue id with
  | none => rfl
  | some b =>
    dsimp only
    cases b.state with
    | pending => rfl
    | active =>
      dsimp only
      split
      · exact completeCue_setFalling (b.record g o) { s with cues := mapCue id (fun _ => b.record g o) s.cues } k j
      · rfl

theorem giveAll_setFalling (l : List (RegionId × Nat × CueOutcome)) (s : State) (k j : List Nat) :
    { giveAll l { s with falling := k } with falling := j } = { giveAll l s with falling := j } := by
  induction l generalizing s k with
  | nil => rfl
  | cons y l ih =>
    have hstep := recordOutcome_setFalling y.2.1 y.1 y.2.2 s k (recordOutcome y.2.1 y.1 y.2.2 { s with falling := k }).falling
    calc { giveAll (y :: l) { s with falling := k } with falling := j }
        = { giveAll l { recordOutcome y.2.1 y.1 y.2.2 s with
              falling := (recordOutcome y.2.1 y.1 y.2.2 { s with falling := k }).falling } with falling := j } :=
          congrArg (fun z => { giveAll l z with falling := j }) hstep
      _ = { giveAll (y :: l) s with falling := j } := ih _ _

/-! ## Notices stay in their queues -/

/-- A placed notice removes none. -/
theorem LinkState.place_length_le (k : LinkState) (n : Notice) : k.notices.length ≤ (k.place n).notices.length := by
  unfold LinkState.place
  split
  · next q hq => exact (replaceWaiting_length _ _ _ hq).ge
  · split <;> simp

/-- The notice queues of a state are no longer than those of another. -/
def KeepsNotices (s t : State) : Prop :=
  s.mgmt.notices.length ≤ t.mgmt.notices.length ∧ s.cueLink.notices.length ≤ t.cueLink.notices.length

theorem KeepsNotices.trans (h : KeepsNotices s t) (h' : KeepsNotices t u) : KeepsNotices s u :=
  ⟨h.1.trans h'.1, h.2.trans h'.2⟩

theorem notifyBoth_keeps (n : Notice) (s : State) : KeepsNotices s (notifyBoth n s) :=
  ⟨LinkState.place_length_le _ _, LinkState.place_length_le _ _⟩

theorem enterCue_keeps (b : Cue) (s : State) : KeepsNotices s (enterCue b s) := by
  unfold enterCue renumberFull
  split <;> exact ⟨le_refl _, le_refl _⟩

theorem completeCue_keeps (b : Cue) (s : State) : KeepsNotices s (completeCue b s) := by
  cases hr : b.rpt with
  | once => rw [completeCue_once hr]; exact notifyBoth_keeps _ s
  | daily =>
    have h : KeepsNotices s (enterCue (b.waiting (nextOccurrence s.station b.due).1)
        (notifyBoth (.cueDone b (some (nextOccurrence s.station b.due).1)) s)) :=
      (notifyBoth_keeps _ s).trans (enterCue_keeps _ _)
    rw [completeCue_daily hr]
    exact h

theorem recordOutcome_keeps (id : Nat) (g : RegionId) (o : CueOutcome) (s : State) :
    KeepsNotices s (recordOutcome id g o s) := by
  unfold recordOutcome
  split
  · exact ⟨le_refl _, le_refl _⟩
  · next b _ =>
    split
    · exact ⟨le_refl _, le_refl _⟩
    · dsimp only
      split
      · exact completeCue_keeps (b.record g o) { s with cues := mapCue id (fun _ => b.record g o) s.cues }
      · exact ⟨le_refl _, le_refl _⟩

theorem giveAll_keeps (l : List (RegionId × Nat × CueOutcome)) (s : State) : KeepsNotices s (giveAll l s) := by
  induction l generalizing s with
  | nil => exact ⟨le_refl _, le_refl _⟩
  | cons _ l ih => exact (recordOutcome_keeps _ _ _ _).trans (ih _)

theorem LinkState.sameButNotices.of_common {k k' k0 : LinkState} (h : k0.sameButNotices k) (h' : k0.sameButNotices k')
    (hle : k0.notices.length ≤ k.notices.length) : k.sameButNotices k' := by
  refine ⟨?_, fun hk => h'.2 (hle.trans hk)⟩
  rw [h.1]
  exact h'.1

/-- Two states that switching alone parts from a third are parted by switching alone, where no notice has gone. -/
theorem OnlySwitching.of_common (hu : OnlySwitching s u) (ht : OnlySwitching s t) (hk : KeepsNotices s u) :
    OnlySwitching u t := by
  obtain ⟨hu1, hu2, hu3⟩ := hu
  obtain ⟨ht1, ht2, ht3⟩ := ht
  refine ⟨?_, hu2.of_common ht2 hk.1, hu3.of_common ht3 hk.2⟩
  rw [hu1]
  exact ht1

/-! ## The waits that a cue supersedes (R101, R121) -/

/-- The outcomes that the cues waited on get when a cue or take reaches the routes of a slot, region after region. -/
def State.supersededOutcomes (s : State) (sl : SlotId) (gs : List RegionId) : List (RegionId × Nat × CueOutcome) :=
  gs.filterMap fun g => if (s.route g sl).hold then none else (s.route g sl).tells g .superseded

theorem supersedesWaits_iff {gs : List RegionId} :
    SupersedesWaits sl gs s u ↔ GivesOutcomes (s.supersededOutcomes sl gs) s u := Iff.rfl

theorem supersededOutcomes_append (s : State) (sl : SlotId) (gs hs : List RegionId) :
    s.supersededOutcomes sl (gs ++ hs) = s.supersededOutcomes sl gs ++ s.supersededOutcomes sl hs :=
  List.filterMap_append

theorem supersededOutcomes_single (s : State) (sl : SlotId) (g : RegionId) :
    s.supersededOutcomes sl [g] =
      (if (s.route g sl).hold then none else (s.route g sl).tells g .superseded).toList := by
  unfold State.supersededOutcomes
  cases hx : if (s.route g sl).hold then none else (s.route g sl).tells g .superseded <;> simp [hx]

theorem Route.tells_cue {r : Route} {y : RegionId × Nat × CueOutcome} (h : r.tells g o = some y) :
    r.waiter = some (.cue y.2.1) := by
  unfold Route.tells at h
  split at h
  · next hw =>
    obtain rfl := Option.some.inj h
    exact hw
  · exact absurd h (by simp)
  · exact absurd h (by simp)

/-- Each outcome goes to a cue on which a route of one of the regions waits. -/
theorem mem_supersededOutcomes {gs : List RegionId} {y : RegionId × Nat × CueOutcome}
    (hy : y ∈ s.supersededOutcomes sl gs) : ∃ g ∈ gs, (s.route g sl).waiter = some (.cue y.2.1) := by
  obtain ⟨g, hg, he⟩ := List.mem_filterMap.1 hy
  split at he
  · exact absurd he (by simp)
  · exact ⟨g, hg, Route.tells_cue he⟩

theorem supersededOutcomes_length (s : State) (c : Cue) :
    (s.supersededOutcomes c.slot (regionsOf c.mask)).length ≤ 8 :=
  (List.length_filterMap_le _ _).trans ((List.length_filter_le _ _).trans (List.length_finRange).le)

/-- A cue or take that reaches a route ends its wait on a cue exactly where the route is not held. -/
theorem giveOutcome_reachRoute (s t : State) (r : Route) (a : Ask) (g : RegionId) :
    giveOutcome g (r.superseded (s.reachRoute r a).2.2) t =
      giveAll (if r.hold then none else r.tells g .superseded).toList t := by
  unfold State.reachRoute
  by_cases hhold : r.hold = true
  · simp [hhold, Route.superseded, giveOutcome, giveAll]
  by_cases hcur : r.current = a.target.source
  · simpa [hhold, hcur, Route.superseded] using giveOutcome_tells r
  by_cases haw : r.awaits a.target = true
  · have hwaiter : r.waiter = none := by
      unfold Route.awaits at haw
      unfold Route.waiter
      split at haw <;> simp_all
    simp [hhold, hcur, haw, Route.superseded, giveOutcome, giveAll, Route.tells, hwaiter]
  · simpa [hhold, hcur, haw, Route.superseded] using giveOutcome_tells r

/-- A cue or take that reaches a route first moves in the schedule what the wait that it supersedes moves, and then what its
own outcome moves. -/
theorem reach_supersedes (s : State) (g : RegionId) (sl : SlotId) (a : Ask) :
    ∃ x, SameSchedule (giveAll (s.supersededOutcomes sl [g]) s) x ∧
      x.routes = (s.setRoute g sl (s.reachRoute (s.route g sl) a).1).routes ∧ OnlySwitching s x ∧
      reach g sl a s = giveOutcome g (givenTo (s.reachRoute (s.route g sl) a).2.1 a.waiter) x := by
  unfold reach commitRoute
  dsimp only
  rw [giveOutcome_reachRoute, ← supersededOutcomes_single]
  refine ⟨_, ?_, ?_, ?_, rfl⟩
  · have hset : SameSchedule s (s.setRoute g sl (s.reachRoute (s.route g sl) a).1) := ⟨rfl, rfl, rfl, rfl, rfl⟩
    exact (hset.giveAll _).trans (notifyRoute_sameSchedule _ _ _ _ _ _ _ _)
  · rw [notifyRoute_routes, giveAll_routes]
  · exact ((setRoute_only s g sl _).trans (giveAll_only _ _)).trans (notifyRoute_only _ _ _ _ _ _ _ _)

/-! ## The fold over the regions of the mask -/

theorem OnlySwitching.outcomeAt (h : OnlySwitching s u) (hr : u.routes = s.routes) (c : Cue) :
    u.outcomeAt c = s.outcomeAt c := by
  funext g
  simp only [State.outcomeAt, h.reachRoute, State.route, hr]

theorem outcomeAt_giveAll (l : List (RegionId × Nat × CueOutcome)) (s : State) (c : Cue) :
    (giveAll l s).outcomeAt c = s.outcomeAt c := (giveAll_only l s).outcomeAt (giveAll_routes l s) c

variable {done rest : List RegionId}

/-- The cue meets one more route, after the cue on which that route waits has got its outcome. -/
theorem Handing.step_supersedes (h : Handing c (giveAll (s.supersededOutcomes c.slot done) s) done t)
    (hs : ({ s with falling := [] } : State).standsReady c)
    (hi : s.insertion + (s.supersededOutcomes c.slot (regionsOf c.mask)).length < 4294967295)
    (hp : done ++ g :: rest = regionsOf c.mask) :
    ∃ x, Handing c (giveAll (s.supersededOutcomes c.slot (done ++ [g])) s) (done ++ [g]) x ∧
      reach g c.slot c.ask t =
        if (c.answered (s.outcomeAt c) (done ++ [g])).allGiven then
          completeCue (c.answered (s.outcomeAt c) (done ++ [g])) x
        else x := by
  obtain ⟨hn, hc, hpend, -, -, -, -, hwait⟩ := hs
  have hg : g ∈ regionsOf c.mask := hp ▸ by simp
  have hd : g ∉ done := by
    have hnodup := regionsOf_nodup c.mask
    rw [← hp, List.nodup_append] at hnodup
    exact fun hmem => hnodup.2.2 g hmem g (by simp) rfl
  have hlen : ∀ gs hs, gs ++ hs = regionsOf c.mask →
      s.insertion + (s.supersededOutcomes c.slot gs).length < 4294967295 := by
    intro gs hs he
    rw [← he, supersededOutcomes_append, List.length_append] at hi
    omega
  have hroute : t.route g c.slot = s.route g c.slot := by
    rw [h.routes, if_neg fun e => hd e.1, giveAll_route]
  obtain ⟨x, hx, hxr, hxo, hreach⟩ := reach_supersedes t g c.slot c.ask
  have hone : t.supersededOutcomes c.slot [g] = s.supersededOutcomes c.slot [g] := by
    rw [supersededOutcomes_single, supersededOutcomes_single, hroute]
  have hsu := giveAll_only (s.supersededOutcomes c.slot done) s
  rw [hroute, h.only.reachRoute, hsu.reachRoute] at hxr hreach
  have hnum := giveAll_numbers (s := s) hn (hlen done (g :: rest) hp)
  have hmem := mem_giveAll (s := s) hn (hlen done (g :: rest) hp) hc hpend
  have hp' : (done ++ [g]) ++ rest = regionsOf c.mask := by rw [List.append_assoc, List.singleton_append, hp]
  have hnum' := giveAll_numbers (s := s) hn (hlen (done ++ [g]) rest hp')
  have hmem' := mem_giveAll (s := s) hn (hlen (done ++ [g]) rest hp') hc hpend
  have honly' := giveAll_only (s.supersededOutcomes c.slot (done ++ [g])) s
  have hkeeps' := giveAll_keeps (s.supersededOutcomes c.slot (done ++ [g])) s
  have hroutes' := giveAll_route (s.supersededOutcomes c.slot (done ++ [g])) s
  have hout' := outcomeAt_giveAll (s.supersededOutcomes c.slot (done ++ [g])) s c
  have hprog : Progressed c.id .active (c.answered (s.outcomeAt c) done).outcomes
      (giveAll (s.supersededOutcomes c.slot (done ++ [g])) s) x := by
    have ht : Progressed c.id .active (c.answered (s.outcomeAt c) done).outcomes
        (giveAll (s.supersededOutcomes c.slot done) s) t :=
      ⟨by rw [h.cues, outcomeAt_giveAll]; exact mapCue_standing hnum.1 hmem, h.insertion, h.changes, h.falling,
        h.only.station⟩
    have hnot : ∀ y ∈ s.supersededOutcomes c.slot [g], y.2.1 ≠ c.id := by
      intro y hy e
      obtain ⟨k, hk, hkw⟩ := mem_supersededOutcomes hy
      rw [List.mem_singleton.1 hk, e] at hkw
      exact hwait g (mem_regionsOf.1 hg) hkw
    rw [supersededOutcomes_append, giveAll_append]
    rw [hone] at hx
    exact (ht.giveAll hnot).sameSchedule hx
  generalize giveAll (s.supersededOutcomes c.slot (done ++ [g])) s = u at *
  have hcues : x.cues = mapCue c.id (fun _ => c.answered (s.outcomeAt c) done) u.cues :=
    hprog.cues.trans (mapCue_standing hnum'.1 hmem').symm
  refine ⟨{ x with cues := mapCue c.id (fun _ => c.answered (s.outcomeAt c) (done ++ [g])) u.cues },
    ⟨?only, fun k y => ?routes, by rw [hout'], hprog.insertion, hprog.changes, hprog.falling⟩,
    hreach.trans (giveOutcome_answered hnum'.1 hmem' hcues hg hd)⟩
  case only => exact honly'.of_common (((hsu.trans h.only).trans hxo).trans ⟨rfl, .refl _, .refl _⟩) hkeeps'
  case routes =>
    have hset : x.route k y = (t.setRoute g c.slot (s.reachRoute (s.route g c.slot) c.ask).1).route k y := by
      simp only [State.route, hxr]
    refine hset.trans ?_
    rw [State.setRoute_route, h.routes, hsu.reachRoute, honly'.reachRoute, giveAll_route, giveAll_route, hroutes', hroutes']
    by_cases hk : g = k
    · subst hk
      by_cases hsl : c.slot = y
      · subst hsl
        simp
      · simp [hsl, Ne.symm hsl]
    · simp [hk, Ne.symm hk]

/-- The cue meets the routes of the first regions of its mask one after another. -/
theorem handing_first_supersedes (hs : ({ s with falling := [] } : State).standsReady c)
    (hi : s.insertion + (s.supersededOutcomes c.slot (regionsOf c.mask)).length < 4294967295)
    (hp : done ++ rest = regionsOf c.mask) :
    ∃ x, Handing c (giveAll (s.supersededOutcomes c.slot done) s) done x ∧
      done.foldl (fun t g => reach g c.slot c.ask t)
          (countChange { s with cues := mapCue c.id (fun y => { y with state := .active }) s.cues }) =
        if (c.answered (s.outcomeAt c) done).allGiven then completeCue (c.answered (s.outcomeAt c) done) x else x := by
  obtain ⟨-, -, -, hmask, -⟩ := id hs
  induction done using List.reverseRecOn generalizing rest with
  | nil =>
    refine ⟨_, handing_nil hs, (if_neg fun hall => ?_).symm⟩
    obtain ⟨g, hg⟩ := List.exists_mem_of_ne_nil _ (regionsOf_ne_nil hmask)
    exact absurd (Cue.answered_allGiven.1 hall g hg).1 (by simp)
  | append_singleton done g ih =>
    have hp' : done ++ g :: rest = regionsOf c.mask := by rw [← hp, List.append_assoc, List.singleton_append]
    have hd : g ∉ done := by
      have hnodup := regionsOf_nodup c.mask
      rw [← hp', List.nodup_append] at hnodup
      exact fun hmem => hnodup.2.2 g hmem g (by simp) rfl
    obtain ⟨x, hx, hfold⟩ := ih hp'
    rw [if_neg fun hall => hd (Cue.answered_allGiven.1 hall g (hp' ▸ by simp)).1] at hfold
    rw [List.foldl_append, hfold, List.foldl_cons, List.foldl_nil]
    exact hx.step_supersedes hs hi hp'

/-- What handing a cue over does, said once: the waits that it supersedes get their outcomes, it meets every route of its
mask, and it completes when each gave an outcome. -/
theorem handOver_supersedes (hs : ({ s with falling := [] } : State).standsReady c)
    (hi : s.insertion + (s.supersededOutcomes c.slot (regionsOf c.mask)).length < 4294967295) :
    ∃ x, Handing c (giveAll (s.supersededOutcomes c.slot (regionsOf c.mask)) s) (regionsOf c.mask) x ∧
      handOver c s =
        if ∃ g ∈ regionsOf c.mask, s.outcomeAt c g = .none then x
        else completeCue (c.answered (s.outcomeAt c) (regionsOf c.mask)) x := by
  obtain ⟨x, hx, hfold⟩ := handing_first_supersedes hs hi (List.append_nil _)
  refine ⟨x, hx, hfold.trans ?_⟩
  have hall := Cue.answered_allGiven (c := c) (o := s.outcomeAt c) (done := regionsOf c.mask)
  by_cases hnone : ∃ g ∈ regionsOf c.mask, s.outcomeAt c g = .none
  · obtain ⟨g, hg, ho⟩ := hnone
    rw [if_neg fun h => (hall.1 h g hg).2 ho, if_pos ⟨g, hg, ho⟩]
  · rw [if_pos (hall.2 fun g hg => ⟨hg, fun ho => hnone ⟨g, hg, ho⟩⟩), if_neg hnone]

end Sys2Proof.Machine
end

section
/-!
PROOFS. Cues that fall due: what a hand-over leaves of the schedule and of the routes, and the pass that follows a cue
falling due at once, in which the cues of the same tick that stand before it are handed over first, one at a time
(R97 to R103, R121, R122).
-/
namespace Sys2Proof.Machine

variable {s t u x : State} {b c y z : Cue} {g : RegionId} {sl : SlotId} {now : Nat}
  {l : List (RegionId × Nat × CueOutcome)}

/-! ## One hand-over, after the waits that it supersedes -/

/-- A cue that has met every route of its mask, and completed where each gave an outcome, has been handed over as the rules
say. -/
theorem Handing.handedOver (hx : Handing c u (regionsOf c.mask) x) (hs : ({ u with falling := [] } : State).standsReady c)
    (hnext : c.rpt = .daily → ∀ now, u.station = some now → 76441190400000000 ≤ c.nextLate now)
    (ht : t = if ∃ g ∈ regionsOf c.mask, u.outcomeAt c g = .none then x
      else completeCue (c.answered (u.outcomeAt c) (regionsOf c.mask)) x) (honly : OnlySwitching u t) :
    HandedOver c { u with falling := [] } { t with falling := [] } := by
  have hroutes : t.routes = x.routes := by
    rw [ht]
    split
    · rfl
    · exact completeCue_routes _ _
  have hroute : ∀ g sl, t.route g sl =
      if g ∈ regionsOf c.mask ∧ sl = c.slot then (u.reachRoute (u.route g c.slot) c.ask).1 else u.route g sl := by
    intro g sl
    rw [← hx.routes]
    simp only [State.route, hroutes]
  refine ⟨honly.falling [] [], rfl, fun g sl hne => ?other, u.outcomeAt c, fun g hg => ?met, ?schedule⟩
  case other =>
    refine (hroute g sl).trans (if_neg ?_)
    rintro ⟨hg, rfl⟩
    rcases hne with h | h
    · exact h rfl
    · exact absurd (h.symm.trans (mem_regionsOf.1 hg)) (by decide)
  case met =>
    have hmet : t.route g c.slot = (u.reachRoute (u.route g c.slot) c.ask).1 :=
      (hroute g c.slot).trans (if_pos ⟨mem_regionsOf.2 hg, rfl⟩)
    exact Eq.subst (motive := fun r => u.meets c.target c.policy (c.waitMs.getD 0) (some c.id) (u.route g c.slot) r
      (u.outcomeAt c g)) hmet.symm (reachRoute_meets u (u.route g c.slot) c.ask)
  case schedule =>
    by_cases hnone : ∃ g ∈ regionsOf c.mask, u.outcomeAt c g = .none
    · rw [if_pos hnone] at ht ⊢
      subst ht
      have hanswered : c.answered (u.outcomeAt c) (regionsOf c.mask) =
          { c with state := .active, outcomes := (regionsOf c.mask).map fun g => (g, u.outcomeAt c g) } := by
        simp only [Cue.answered, Cue.mk.injEq, true_and, and_true]
        exact List.map_congr_left fun g hg => by rw [if_pos hg]
      exact ⟨hx.cues.trans (by rw [hanswered]; rfl), hx.changes, hx.insertion⟩
    · rw [if_neg hnone] at ht ⊢
      subst ht
      split
      · next hr => exact hx.complete_once (o := u.outcomeAt c) hr
      · next hr =>
        obtain ⟨hchanges, hcues, hins⟩ := hx.complete_daily (o := u.outcomeAt c) hs hr (hnext hr)
        refine ⟨hchanges, ?_, ?_, hins⟩
        · rw [hcues]
          exact mem_insertCue _ _
        · rw [hcues]
          exact (withoutCue_insertCue { c with due := c.nextDay, insertion := u.insertion } _).trans
            (withoutCue_idem c.id u.cues)

/-- A cue that stands ready stands so while other cues get their outcomes. -/
theorem giveAll_standsReady (hs : ({ s with falling := [] } : State).standsReady c)
    (hi : s.insertion + l.length < 4294967295) : ({ giveAll l s with falling := [] } : State).standsReady c := by
  obtain ⟨hn, hc, hp, hmask, hout, -, -, hwait⟩ := hs
  obtain ⟨hn', hle⟩ := giveAll_numbers (s := s) hn hi
  refine ⟨hn', mem_giveAll (s := s) hn hi hc hp, hp, hmask, hout, Nat.lt_of_le_of_lt hle hi, rfl, fun g hg => ?_⟩
  have hroute : ({ giveAll l s with falling := [] } : State).route g c.slot = s.route g c.slot := giveAll_route _ _ _ _
  rw [hroute]
  exact hwait g hg

/-- The waits that a cue supersedes get their outcomes and then the cue is handed over, where no DAILY cue falls due again
at once. -/
theorem handOver_inTurn (hs : ({ s with falling := [] } : State).standsReady c)
    (hi : s.insertion + (s.supersededOutcomes c.slot (regionsOf c.mask)).length < 4294967295) (hw : s.activesWait)
    (hnext : c.rpt = .daily → ∀ now, s.station = some now → 76441190400000000 ≤ c.nextLate now) :
    ∃ u, SupersedesWaits c.slot (regionsOf c.mask) { s with falling := [] } u ∧
      HandedOver c u { handOver c s with falling := [] } := by
  obtain ⟨x, hx, hover⟩ := handOver_supersedes hs hi
  have hgives := giveAll_gives (s := { s with falling := [] }) (l := s.supersededOutcomes c.slot (regionsOf c.mask)) hs.1 hi hw
  have hfall := (giveAll_waits (s := { s with falling := [] }) hw (s.supersededOutcomes c.slot (regionsOf c.mask))).1
  have hready := giveAll_standsReady hs hi
  have hset := giveAll_setFalling (s.supersededOutcomes c.slot (regionsOf c.mask)) s [] []
  have honly := giveAll_only (s.supersededOutcomes c.slot (regionsOf c.mask)) s
  have hkeeps := giveAll_keeps (s.supersededOutcomes c.slot (regionsOf c.mask)) s
  rw [← outcomeAt_giveAll (s.supersededOutcomes c.slot (regionsOf c.mask)) s c] at hover
  refine ⟨_, supersedesWaits_iff.2 hgives, ?_⟩
  have heta : giveAll (s.supersededOutcomes c.slot (regionsOf c.mask)) { s with falling := [] } =
      { giveAll (s.supersededOutcomes c.slot (regionsOf c.mask)) s with falling := [] } :=
    (congrArg (fun k => ({ giveAll (s.supersededOutcomes c.slot (regionsOf c.mask)) { s with falling := [] } with
      falling := k } : State)) hfall).trans hset
  rw [heta]
  exact hx.handedOver hready (fun hr => honly.station ▸ hnext hr) hover (honly.of_common (handOver_only s c) hkeeps)

/-! ## What a hand-over leaves -/

theorem completeCue_falling (hw : s.nextWaits b) : (completeCue b s).falling = s.falling := by
  cases hr : b.rpt with
  | once => rw [completeCue_once hr]; rfl
  | daily => rw [completeCue_daily hr, nextOccurrence_waits s b hr hw]; simp

/-- Where no cue falls due again at once, a hand-over leaves the event nothing more to deal with. -/
theorem handOver_waits (hs : ({ s with falling := [] } : State).standsReady c)
    (hi : s.insertion + (s.supersededOutcomes c.slot (regionsOf c.mask)).length < 4294967295) (hw : s.activesWait)
    (hc : s.nextWaits c) : (handOver c s).falling = s.falling ∧ (handOver c s).activesWait := by
  obtain ⟨x, hx, hover⟩ := handOver_supersedes hs hi
  obtain ⟨hfall, hwu⟩ := giveAll_waits hw (s.supersededOutcomes c.slot (regionsOf c.mask))
  have honly := giveAll_only (s.supersededOutcomes c.slot (regionsOf c.mask)) s
  have hstation : x.station = s.station := hx.only.station.trans honly.station
  have hanswered : x.nextWaits (c.answered (s.outcomeAt c) (regionsOf c.mask)) := nextWaits_congr hstation rfl rfl hc
  have hwx : x.activesWait := by
    intro d hd ha
    rw [hx.cues, outcomeAt_giveAll] at hd
    rcases mem_mapCue hd with rfl | ⟨hd, -⟩
    · exact hanswered
    · exact nextWaits_congr hx.only.station rfl rfl (hwu d hd ha)
  rw [hover]
  split
  · exact ⟨hx.falling.trans hfall, hwx⟩
  · obtain ⟨hf, hwc⟩ := completeCue_waits hwx hanswered
    exact ⟨hf.trans (hx.falling.trans hfall), hwc⟩

/-- So does the hand-over of a cue that meets no wait, whatever the other cues. -/
theorem handOver_falling (hs : ({ s with falling := [] } : State).readyToFall c) (hc : s.nextWaits c) :
    (handOver c s).falling = s.falling := by
  obtain ⟨x, hx, hover⟩ := handOver_handing hs
  rw [hover]
  split
  · exact hx.falling
  · exact (completeCue_falling (b := c.answered (s.outcomeAt c) (regionsOf c.mask))
      (nextWaits_congr (c := c) hx.only.station rfl rfl hc)).trans hx.falling

/-- A hand-over keeps the ids distinct, and takes at most one insertion number more than it supersedes waits. -/
theorem handOver_numbers (hs : ({ s with falling := [] } : State).standsReady c)
    (hi : s.insertion + (s.supersededOutcomes c.slot (regionsOf c.mask)).length < 4294967295) :
    ((handOver c s).cues.map Cue.id).Nodup ∧
      (handOver c s).insertion ≤ s.insertion + (s.supersededOutcomes c.slot (regionsOf c.mask)).length + 1 := by
  obtain ⟨x, hx, hover⟩ := handOver_supersedes hs hi
  obtain ⟨hn, hle⟩ := giveAll_numbers (s := s) hs.1 hi
  have hnx : (x.cues.map Cue.id).Nodup := by
    rw [hx.cues, mapCue_ids c.id (c.answered _ _) rfl]
    exact hn
  have hix := hx.insertion
  rw [hover]
  split
  · exact ⟨hnx, by omega⟩
  · obtain ⟨hn', hle'⟩ := completeCue_numbers hnx (by omega) (c.answered (s.outcomeAt c) (regionsOf c.mask))
    exact ⟨hn', by omega⟩

/-- A route that a cue or take has reached waits on what it waited on, on that cue or take, or on nothing. -/
theorem reachRoute_waiter {r : Route} {a : Ask} {i : Nat} (hr : r.waiter ≠ some (.cue i)) (ha : a.waiter ≠ .cue i) :
    (s.reachRoute r a).1.waiter ≠ some (.cue i) := by
  have hself : ∀ (w : Waiter), w ≠ .cue i → w.cueId ≠ some i := by
    rintro (j | -) hw hj
    · exact hw (congrArg Waiter.cue (Option.some.inj hj))
    · exact absurd hj (by simp [Waiter.cueId])
  have hid := hself a.waiter ha
  unfold State.reachRoute
  split
  · exact hr
  · split
    · simp [Route.waiter]
    · split
      · exact hr
      · unfold State.decideRoute
        split
        · simp [Route.waiter, Route.fallBack]
        · cases a.policy with
          | immediate => simp [Route.waiter, Route.switchTo]
          | atMark =>
            dsimp only
            split
            · simp [Route.waiter, Route.switchTo]
            · cases hw : a.waiter.cueId <;> simp_all [Route.waiter]
          | onConfirm => cases hw : a.waiter.cueId <;> simp_all [Route.waiter]

/-- A hand-over leaves no route waiting on another cue that did not wait on it before. -/
theorem handOver_waiter (hs : ({ s with falling := [] } : State).standsReady c)
    (hi : s.insertion + (s.supersededOutcomes c.slot (regionsOf c.mask)).length < 4294967295) {i : Nat} (hne : c.id ≠ i)
    (hr : (s.route g sl).waiter ≠ some (.cue i)) : ((handOver c s).route g sl).waiter ≠ some (.cue i) := by
  obtain ⟨x, hx, hover⟩ := handOver_supersedes hs hi
  have hroutes : (handOver c s).routes = x.routes := by
    rw [hover]
    split
    · rfl
    · exact completeCue_routes _ _
  have hroute : (handOver c s).route g sl = x.route g sl := by simp only [State.route, hroutes]
  rw [hroute, hx.routes, giveAll_route, giveAll_route]
  split
  · next h =>
    obtain ⟨-, rfl⟩ := h
    exact reachRoute_waiter hr fun e => hne (Waiter.cue.inj e)
  · exact hr

/-! ## The cues late by 10 s or less -/

/-- The PENDING cues of the schedule that are late by 10 s or less, in schedule order. -/
def State.ripe (s : State) (now : Nat) : List Cue :=
  s.cues.filter fun z => decide (z.state = .pending) && decide (z.late now ≤ 270000000)

theorem mem_ripe : z ∈ s.ripe now ↔ z ∈ s.cues ∧ z.state = .pending ∧ z.late now ≤ 270000000 := by
  simp [State.ripe]

theorem filter_insertCue {p : Cue → Bool} (hb : p b = false) (cs : List Cue) : (insertCue b cs).filter p = cs.filter p := by
  induction cs with
  | nil => simp [insertCue, hb]
  | cons d cs ih =>
    unfold insertCue
    split
    · simp [hb]
    · rw [List.filter_cons, List.filter_cons, ih]

theorem filter_mapCue_active {p : Cue → Bool} (hb : p b = false) (id : Nat) (cs : List Cue) :
    (mapCue id (fun _ => b) cs).filter p = withoutCue id (cs.filter p) := by
  unfold mapCue withoutCue
  induction cs with
  | nil => rfl
  | cons d cs ih =>
    rw [List.map_cons, List.filter_cons, ih]
    by_cases hd : d.id = id <;> by_cases hp : p d = true <;> simp [hd, hp, hb]

theorem filter_withoutCue (p : Cue → Bool) (id : Nat) (cs : List Cue) :
    (withoutCue id cs).filter p = withoutCue id (cs.filter p) := by
  simp only [withoutCue, List.filter_filter, Bool.and_comm]

/-- A DAILY cue that does not fall due again at once is re-entered for a time in the future. -/
theorem nextOccurrence_future (hst : s.station = some now) (hr : b.rpt = .daily) (hw : s.nextWaits b) :
    76441190400000000 ≤ lateness now (nextOccurrence s.station b.due).1 := by
  have hlate := hw hr now hst
  have hd : (b.due + Config.dayTicks) % Config.stationSpan = b.nextDay := rfl
  rw [hst]
  unfold nextOccurrence
  simp only [hd, lateness_nextDay, Config.halfSpan, Config.lateLimit]
  split
  · rw [lateness_nextDay]
    assumption
  · rw [if_neg (by omega), ← lateness_nextDay]
    exact advanceDue_future

theorem completeCue_ripe (hst : s.station = some now) (hi : s.insertion < 4294967295) (hw : s.nextWaits b) :
    (completeCue b s).ripe now = withoutCue b.id (s.ripe now) := by
  cases hr : b.rpt with
  | once =>
    rw [completeCue_once hr]
    exact filter_withoutCue _ _ _
  | daily =>
    have hfuture := nextOccurrence_future hst hr hw
    rw [completeCue_daily hr,
      enterCue_enters (notifyBoth (.cueDone b (some (nextOccurrence s.station b.due).1)) s) _ hi]
    refine (filter_insertCue ?_ _).trans (filter_withoutCue _ _ _)
    have hlate : (b.waiting (nextOccurrence s.station b.due).1).late now =
        lateness now (nextOccurrence s.station b.due).1 := (lateness_due _ _).symm
    simp only [Bool.and_eq_false_iff, decide_eq_false_iff_not]
    refine .inr fun hle => ?_
    have : (b.waiting (nextOccurrence s.station b.due).1).late now ≤ 270000000 := hle
    omega

/-- Outcomes go to ACTIVE cues, and leave the PENDING ones that are late by 10 s or less. -/
theorem recordOutcome_ripe (hst : s.station = some now) (hn : (s.cues.map Cue.id).Nodup) (hi : s.insertion < 4294967295)
    (hw : s.activesWait) (id : Nat) (g : RegionId) (o : CueOutcome) : (recordOutcome id g o s).ripe now = s.ripe now := by
  cases hcue : s.cue id with
  | none => simp [recordOutcome, hcue]
  | some b =>
    obtain ⟨hmem, rfl⟩ := State.cue_some hcue
    cases ha : b.state with
    | pending => simp [recordOutcome, hcue, ha]
    | active =>
      have hothers : withoutCue b.id (s.ripe now) = s.ripe now := by
        refine List.filter_eq_self.2 fun d hd => ?_
        obtain ⟨hd, hp, -⟩ := mem_ripe.1 hd
        have hne : d.id ≠ b.id := fun e => by
          rw [List.inj_on_of_nodup_map hn hd hmem e, ha] at hp
          exact absurd hp (by decide)
        simpa using hne
      have hmap : ({ s with cues := mapCue b.id (fun _ => b.record g o) s.cues } : State).ripe now = s.ripe now :=
        (filter_mapCue_active (by simp [Cue.record, ha]) _ _).trans hothers
      rw [recordOutcome_active hcue ha]
      split
      · refine (completeCue_ripe (s := { s with cues := mapCue b.id (fun _ => b.record g o) s.cues }) (b := b.record g o)
          hst hi (nextWaits_congr (c := b) (s := s) rfl rfl rfl (hw b hmem ha))).trans ?_
        rw [hmap]
        exact hothers
      · exact hmap

theorem giveAll_ripe (hst : s.station = some now) (hn : (s.cues.map Cue.id).Nodup)
    (hi : s.insertion + l.length < 4294967295) (hw : s.activesWait) : (giveAll l s).ripe now = s.ripe now := by
  induction l generalizing s with
  | nil => rfl
  | cons d l ih =>
    rw [List.length_cons] at hi
    obtain ⟨hn', hle⟩ := recordOutcome_numbers hn (show s.insertion < 4294967295 by omega) d.2.1 d.1 d.2.2
    exact (ih (s := recordOutcome d.2.1 d.1 d.2.2 s) ((recordOutcome_only s _ _ _).station.trans hst) hn' (by omega)
      (recordOutcome_waits hw _ _ _).2).trans (recordOutcome_ripe hst hn (by omega) hw _ _ _)

/-- A hand-over takes its cue from the PENDING ones that are late by 10 s or less, and leaves the others. -/
theorem handOver_ripe (hst : s.station = some now) (hs : ({ s with falling := [] } : State).standsReady c)
    (hi : s.insertion + (s.supersededOutcomes c.slot (regionsOf c.mask)).length < 4294967295) (hw : s.activesWait)
    (hc : s.nextWaits c) : (handOver c s).ripe now = withoutCue c.id (s.ripe now) := by
  obtain ⟨x, hx, hover⟩ := handOver_supersedes hs hi
  have hru := giveAll_ripe (s := s) hst hs.1 hi hw
  have honly := giveAll_only (s.supersededOutcomes c.slot (regionsOf c.mask)) s
  have hle := (giveAll_numbers (s := s) hs.1 hi).2
  have hix := hx.insertion
  have hstation : x.station = s.station := hx.only.station.trans honly.station
  have hrx : x.ripe now = withoutCue c.id (s.ripe now) := by
    unfold State.ripe at hru ⊢
    rw [hx.cues, filter_mapCue_active (by simp [Cue.answered]), hru]
  rw [hover]
  split
  · exact hrx
  · rw [completeCue_ripe (b := c.answered (s.outcomeAt c) (regionsOf c.mask)) (hstation.trans hst) (by omega)
      (nextWaits_congr (c := c) hstation rfl rfl hc), hrx]
    exact withoutCue_idem c.id _

/-- Another cue that is late by 10 s or less and stands ready stands so after the hand-over. -/
theorem handOver_standsReady (hst : s.station = some now) (hs : ({ s with falling := [] } : State).standsReady c)
    (hi : s.insertion + (s.supersededOutcomes c.slot (regionsOf c.mask)).length + 1 < 4294967295) (hw : s.activesWait)
    (hc : s.nextWaits c) (hz : ({ s with falling := [] } : State).standsReady z) (hlate : z.late now ≤ 270000000)
    (hne : z.id ≠ c.id) : ({ handOver c s with falling := [] } : State).standsReady z := by
  have hi' : s.insertion + (s.supersededOutcomes c.slot (regionsOf c.mask)).length < 4294967295 := by omega
  obtain ⟨-, hmem, hp, hmask, hout, -, -, hwait⟩ := hz
  obtain ⟨hn, hle⟩ := handOver_numbers hs hi'
  have hripe : z ∈ (handOver c s).ripe now := by
    rw [handOver_ripe hst hs hi' hw hc]
    exact mem_withoutCue.2 ⟨mem_ripe.2 ⟨hmem, hp, hlate⟩, hne⟩
  exact ⟨hn, (mem_ripe.1 hripe).1, hp, hmask, hout, Nat.lt_of_le_of_lt hle hi, rfl,
    fun g hg => handOver_waiter hs hi' hne.symm (hwait g hg)⟩

end Sys2Proof.Machine
end

section
/-!
PROOFS. A cue that falls due at its tick, or at once within an event, with the cues of the same tick that stand before it
(R97 to R99).
-/
namespace Sys2Proof.Machine

variable {s t : State} {c y z : Cue} {now : Nat}

/-! ## Due at this tick (R98) -/

theorem station_lt (hst : s.station = some now) : now < 152882380800000000 := by
  unfold State.station at hst
  cases ho : s.offset with
  | none => simp [ho] at hst
  | some n =>
    simp only [ho, Option.map_some, Option.some.injEq, Config.stationSpan] at hst
    omega

/-- A cue is not late at all exactly at its due time. -/
theorem late_eq_zero (hnow : now < 152882380800000000) : c.late now = 0 ↔ c.due % 152882380800000000 = now := by
  unfold Cue.late
  omega

theorem isDue_eq_false (h : ∀ now, s.station = some now → y.state = .pending → y.due % 152882380800000000 ≠ now) :
    s.isDue y = false := by
  cases hst : s.station with
  | none => simp [State.isDue, hst]
  | some now =>
    refine Bool.eq_false_iff.2 fun hdue => ?_
    obtain ⟨hp, h0⟩ := (isDue_iff hst).1 hdue
    exact h now hst hp ((late_eq_zero (station_lt hst)).1 h0)

/-- While none is due, nothing falls due. -/
theorem cueDue_none (h : ∀ y ∈ s.cues, s.isDue y = false) : cueDue s = s := by
  have hnone : s.dueCue = none := List.find?_eq_none.2 fun y hy => by simp [h y hy]
  simp only [cueDue, hnone]

/-- The first cue that is due falls due. -/
theorem cueDue_first {pre post : List Cue} (hl : s.cues = pre ++ c :: post) (hpre : ∀ y ∈ pre, s.isDue y = false)
    (hc : s.isDue c = true) : cueDue s = fallNow c.id s := by
  have hfirst : s.dueCue = some c := find?_first hl hpre hc
  simp only [cueDue, hfirst]

/-! ## A cue with no other of its tick before it -/

theorem nextToFall_first {pre post : List Cue} (hl : s.cues = pre ++ c :: post)
    (hpre : ∀ y ∈ pre, y.id ≠ c.id ∧ s.isDue y = false) :
    ({ s with falling := [c.id] } : State).nextToFall = some c := by
  unfold State.nextToFall
  rw [if_pos (List.any_eq_true.2 ⟨c, hl ▸ by simp, by simp⟩)]
  refine find?_first hl (fun y hy => ?_) (by simp)
  obtain ⟨hne, hdue⟩ := hpre y hy
  have hdue' : ({ s with falling := [c.id] } : State).isDue y = false := hdue
  simp [hne, hdue']

theorem dealWith_due (hst : t.station = some now) (hp : c.state = .pending) (hlate : c.late now ≤ 270000000) :
    dealWith c t = handOver c { t with falling := t.falling.filter fun i => i != c.id } :=
  measureCue_due (s := { t with falling := t.falling.filter fun i => i != c.id }) hst hp hlate

theorem settleCues_done (h : t.falling = []) (n : Nat) : settleCues n t = { t with falling := [] } :=
  settleCues_none (by simp [State.nextToFall, h]) n

/-- A cue late by 10 s or less that has no cue of the tick before it is handed over, and then the event is complete. -/
theorem fallNow_first (hst : s.station = some now) (hp : c.state = .pending) (hlate : c.late now ≤ 270000000)
    (hnext : ({ s with falling := [c.id] } : State).nextToFall = some c)
    (hfall : (handOver c { s with falling := [] }).falling = []) :
    fallNow c.id s = { handOver c { s with falling := [] } with falling := [] } := by
  have hdeal : dealWith c { s with falling := [c.id] } = handOver c { s with falling := [] } := by
    rw [dealWith_due (t := { s with falling := [c.id] }) hst hp hlate]
    simp
  unfold fallNow settle
  rw [settleCues_some hnext, hdeal, settleCues_done hfall]

theorem nextWaits_of_late (hst : s.station = some now) (hlate : c.late now ≤ 270000000) : s.nextWaits c := by
  intro _ m hm
  obtain rfl : now = m := Option.some.inj (hst.symm.trans hm)
  have := nextLate_future hlate
  omega

theorem nextLate_station (hst : s.station = some now) (hlate : c.late now ≤ 270000000) :
    ∀ m, s.station = some m → 76441190400000000 ≤ c.nextLate m := by
  intro m hm
  obtain rfl : now = m := Option.some.inj (hst.symm.trans hm)
  exact nextLate_future hlate

/-- A cue late by 10 s or less that meets no wait, with no cue of the tick before it, is handed over. -/
theorem fallNow_ready {pre post : List Cue} (hst : s.station = some now) (hlate : c.late now ≤ 270000000)
    (hl : s.cues = pre ++ c :: post) (hpre : ∀ y ∈ pre, s.isDue y = false) (hready : s.readyToFall c) :
    HandedOver c s (fallNow c.id s) := by
  obtain ⟨hn, -, hp, -, -, -, hfalling, -⟩ := hready.1
  have hnil : { s with falling := [] } = s := by rw [← hfalling]
  have hne : ∀ y ∈ pre, y.id ≠ c.id := by
    intro y hy e
    rw [hl, List.map_append, List.nodup_append] at hn
    exact hn.2.2 y.id (List.mem_map_of_mem hy) c.id (by simp) e
  have hready' : ({ s with falling := [] } : State).readyToFall c := hnil.symm ▸ hready
  have hfall : (handOver c s).falling = [] :=
    (handOver_falling hready' (nextWaits_of_late hst hlate)).trans hfalling
  have hover := handOver_handedOver hready' fun _ => nextLate_station hst hlate
  rw [fallNow_first hst hp hlate (nextToFall_first hl fun y hy => ⟨hne y hy, hpre y hy⟩) (by rw [hnil]; exact hfall)]
  rw [hnil] at hover ⊢
  exact hover

/-! ## Cues of one tick, one at a time (R98, log entry 34) -/

/-- The cues that an event has to deal with when the cue of an id falls due at once: that cue, and those of this tick. -/
def State.inTurn (s : State) (now id : Nat) : List Cue :=
  (s.ripe now).filter fun z => decide (z.id = id ∨ z.late now = 0)

theorem mem_inTurn {id : Nat} : z ∈ s.inTurn now id ↔ z ∈ s.ripe now ∧ (z.id = id ∨ z.late now = 0) := by
  simp [State.inTurn]

theorem inTurn_nodup (hn : (s.cues.map Cue.id).Nodup) (now id : Nat) : ((s.inTurn now id).map Cue.id).Nodup :=
  hn.sublist ((List.filter_sublist.trans List.filter_sublist).map _)

/-- The event deals with the first of them. -/
theorem nextToFall_inTurn (hst : s.station = some now) (hn : (s.cues.map Cue.id).Nodup) (hf : s.falling = [c.id])
    (hc : c ∈ s.ripe now) : s.nextToFall = (s.inTurn now c.id).head? := by
  obtain ⟨hmem, hp, hlate⟩ := mem_ripe.1 hc
  have hsame : s.inTurn now c.id = s.cues.filter fun z => s.falling.contains z.id || s.isDue z := by
    unfold State.inTurn State.ripe
    rw [List.filter_filter]
    refine List.filter_congr fun z hz => ?_
    rw [Bool.eq_iff_iff]
    simp only [Bool.and_eq_true, Bool.or_eq_true, decide_eq_true_eq, isDue_iff hst, hf, List.contains_eq_mem,
      List.mem_singleton]
    constructor
    · rintro ⟨hwhy, hzp, -⟩
      exact hwhy.imp_right fun h0 => ⟨hzp, h0⟩
    · rintro (hid | ⟨hzp, h0⟩)
      · obtain rfl : z = c := List.inj_on_of_nodup_map hn hz hmem hid
        exact ⟨.inl rfl, hp, hlate⟩
      · exact ⟨.inr h0, hzp, by omega⟩
  unfold State.nextToFall
  rw [if_pos (List.any_eq_true.2 ⟨c, hmem, by simp [hf]⟩), hsame, List.head?_filter]

/-- Of cues with distinct ids, the first is the one that goes with its id. -/
theorem withoutCue_head {zs : List Cue} (hn : ((z :: zs).map Cue.id).Nodup) : withoutCue z.id (z :: zs) = zs := by
  rw [List.map_cons, List.nodup_cons] at hn
  have htail : zs.filter (fun d => d.id != z.id) = zs :=
    List.filter_eq_self.2 fun d hd => by
      have hne : d.id ≠ z.id := fun e => hn.1 (e ▸ List.mem_map_of_mem hd)
      simpa using hne
  rw [withoutCue, List.filter_cons, if_neg (by simp), htail]

/-- An event in which a cue has fallen due at once: the cues `cs` are to be handed over in this order before it ends, and
those of this tick after them in the schedule are left. -/
structure Turning (now : Nat) (c : Cue) (cs zs : List Cue) (s : State) : Prop where
  station : s.station = some now
  ids : (s.cues.map Cue.id).Nodup
  falling : s.falling = [c.id]
  waits : s.activesWait
  turn : s.inTurn now c.id = cs ++ zs
  ready : ∀ z ∈ cs, ({ s with falling := [] } : State).standsReady z
  insertion : s.insertion + 9 * cs.length < 4294967295

variable {cs zs : List Cue}

theorem Turning.mem_ripe (h : Turning now c cs zs s) (hz : z ∈ cs) : z ∈ s.ripe now := by
  have hturn : z ∈ s.inTurn now c.id := h.turn ▸ List.mem_append_left _ hz
  exact (mem_inTurn.1 hturn).1

theorem Turning.late_le (h : Turning now c cs zs s) (hz : z ∈ cs) : z.late now ≤ 270000000 :=
  (Machine.mem_ripe.1 (h.mem_ripe hz)).2.2

theorem Turning.room (h : Turning now c cs zs s) (hz : z ∈ cs) :
    s.insertion + (s.supersededOutcomes z.slot (regionsOf z.mask)).length + 1 < 4294967295 := by
  have h8 := supersededOutcomes_length s z
  have hlen := List.length_pos_of_mem hz
  have hins := h.insertion
  omega

/-- The first of the cues is dealt with, and handed over. -/
theorem Turning.next (h : Turning now c (y :: cs) zs s) (hc : c ∈ y :: cs) :
    s.nextToFall = some y ∧ dealWith y s = handOver y { s with falling := s.falling.filter fun i => i != y.id } := by
  have hfirst := nextToFall_inTurn h.station h.ids h.falling (h.mem_ripe hc)
  rw [h.turn] at hfirst
  have hy := Machine.mem_ripe.1 (h.mem_ripe (List.mem_cons_self (a := y)))
  exact ⟨hfirst, dealWith_due h.station hy.2.1 hy.2.2⟩

/-- After the hand-over of the first of the cues the others have their turns. -/
theorem Turning.step (h : Turning now c (y :: cs) zs s) : Turning now c cs zs (handOver y s) := by
  have hmem : y ∈ y :: cs := List.mem_cons_self
  have hready := h.ready y hmem
  have hroom := h.room hmem
  have hi : s.insertion + (s.supersededOutcomes y.slot (regionsOf y.mask)).length < 4294967295 := by omega
  have hwaits := nextWaits_of_late h.station (h.late_le hmem)
  obtain ⟨hfall, hw⟩ := handOver_waits hready hi h.waits hwaits
  obtain ⟨hn, hle⟩ := handOver_numbers hready hi
  have hnodup : ((y :: (cs ++ zs)).map Cue.id).Nodup := by
    have := inTurn_nodup h.ids now c.id
    rwa [h.turn] at this
  refine ⟨(handOver_only s y).station.trans h.station, hn, hfall.trans h.falling, hw, ?turn, fun z hz => ?ready, ?room⟩
  case turn =>
    have hturn := h.turn
    unfold State.inTurn at hturn ⊢
    rw [handOver_ripe h.station hready hi h.waits hwaits, filter_withoutCue, hturn]
    exact withoutCue_head hnodup
  case ready =>
    have hz' : z ∈ y :: cs := List.mem_cons_of_mem y hz
    refine handOver_standsReady h.station hready hroom h.waits hwaits (h.ready z hz') (h.late_le hz') fun e => ?_
    exact (List.nodup_cons.1 hnodup).1 (e ▸ List.mem_map_of_mem (List.mem_append_left _ hz))
  case room =>
    have h8 := supersededOutcomes_length s y
    have hins := h.insertion
    rw [List.length_cons] at hins
    omega

/-- The event hands the cues over one at a time, each after the waits that it supersedes, until the cue that fell due at
once has had its turn. -/
theorem Turning.handedInTurn {ys : List Cue} {n : Nat} (h : Turning now c (ys ++ [c]) zs s) (hlen : ys.length < n) :
    HandedInTurn (ys ++ [c]) { s with falling := [] } (settleCues n s) := by
  induction ys generalizing s n with
  | nil =>
    obtain ⟨n, rfl⟩ : ∃ m, n = m + 1 := ⟨n - 1, by omega⟩
    have hc : c ∈ [c] := List.mem_singleton_self c
    have hroom := h.room hc
    obtain ⟨hnext, hdeal⟩ := h.next hc
    have hlate := h.late_le hc
    have hfall := (handOver_waits (s := { s with falling := [] }) (h.ready c hc) (Nat.lt_of_succ_lt hroom) h.waits
      (nextWaits_of_late h.station hlate)).1
    obtain ⟨u, hu, hover⟩ := handOver_inTurn (s := { s with falling := [] }) (h.ready c hc) (Nat.lt_of_succ_lt hroom)
      h.waits fun _ => nextLate_station h.station hlate
    have hnone : s.falling.filter (fun i => i != c.id) = [] := by simp [h.falling]
    rw [hnone] at hdeal
    refine ⟨u, _, hu, hover, ?_⟩
    rw [List.nil_append] at *
    rw [settleCues_some hnext, hdeal, settleCues_done hfall]
    rfl
  | cons y ys ih =>
    obtain ⟨n, rfl⟩ : ∃ m, n = m + 1 := ⟨n - 1, by omega⟩
    have hy : y ∈ y :: (ys ++ [c]) := List.mem_cons_self
    have hc : c ∈ y :: (ys ++ [c]) := by simp
    have hne : y.id ≠ c.id := by
      have hnodup := inTurn_nodup h.ids now c.id
      rw [h.turn] at hnodup
      exact fun e => (List.nodup_cons.1 hnodup).1 (e ▸ List.mem_map_of_mem (by simp))
    obtain ⟨hnext, hdeal⟩ := h.next hc
    have hkeep : s.falling.filter (fun i => i != y.id) = s.falling := by simp [h.falling, Ne.symm hne]
    rw [hkeep] at hdeal
    obtain ⟨u, hu, hover⟩ := handOver_inTurn (h.ready y hy) (Nat.lt_of_succ_lt (h.room hy)) h.waits
      fun _ => nextLate_station h.station (h.late_le hy)
    refine ⟨u, _, hu, hover, ?_⟩
    rw [settleCues_some hnext, hdeal]
    rw [List.length_cons] at hlen
    exact ih h.step (by omega)

end Sys2Proof.Machine
end

section
/-!
PROOFS. CUE_ADD: the body that it reads, its refusals in their order, and the cue that it enters by its lateness, with the
moment at which a cue falls due (R93 to R103, R136).
-/
namespace Sys2Proof.Machine

variable {s u : State} {c y : Cue} {now : Nat} {w : Option Nat} {l : Link} {x : CueAdd}

/-! ## The body of CUE_ADD (R95, R200) -/

/-- A CUE_ADD reads as the fields that it carries, where its id, its mask and its owner are such. -/
theorem readAll_cueRequest (hid : x.id < 65536) (hdue : x.due < 152882380800000000) (hwait : x.wait < 2 ^ 32)
    (howner : x.owner < 256) :
    readAll rCueAdd (cueRequest x) = if x.id = 0 ∨ x.mask = 0 ∨ 127 < x.owner then none else some x := by
  have hid' := fun rest => rCueId_e2 hid rest
  have hstation := fun rest => rStation_eStation x.due rest hdue
  have hmask := fun rest => rMask_byte x.mask rest
  have hslot := fun rest => rIndex_e1 x.slot (by decide) rest
  have htarget := fun rest => rTarget_eTarget x.target rest
  have hpolicy : ∀ rest, rEnum [SwitchPolicy.immediate, .atMark, .onConfirm] (e1 x.policy.code ++ rest) =
      some (x.policy, rest) := fun rest => by cases x.policy <;> exact rEnum_e1 _ _ _ _ (by decide) rfl
  have hms := fun rest => rNat_e4 x.wait rest (by simpa using hwait)
  have hrpt : ∀ rest, rEnum [Repeat.once, .daily] (e1 x.rpt.code ++ rest) = some (x.rpt, rest) := fun rest => by
    cases x.rpt <;> exact rEnum_e1 _ _ _ _ (by decide) rfl
  have howner' : rOwner (e1 x.owner) = if x.owner ≤ 127 then some (x.owner, []) else none := by
    simpa using rOwner_e1 howner []
  simp only [readAll, rCueAdd, cueRequest, List.append_assoc]
  by_cases h0 : x.id = 0
  · rw [rThen_none_left (by rw [hid', if_pos h0])]
    simp [h0]
  simp only [if_neg h0] at hid'
  by_cases hm : x.mask = 0
  · rw [rThen_none (hid' _) (rThen_none (hstation _) (rThen_none_left (by rw [hmask, if_pos hm])))]
    simp [hm]
  simp only [if_neg hm] at hmask
  by_cases ho : x.owner ≤ 127
  · rw [if_pos ho] at howner'
    rw [rThen_some _ _ _ _ _ _ _ (hid' _) (rThen_some _ _ _ _ _ _ _ (hstation _) (rThen_some _ _ _ _ _ _ _ (hmask _)
      (rThen_some _ _ _ _ _ _ _ (hslot _) (rThen_some _ _ _ _ _ _ _ (htarget _) (rThen_some _ _ _ _ _ _ _ (hpolicy _)
        (rThen_some _ _ _ _ _ _ _ (hms _) (rThen_some _ _ _ _ _ _ _ (hrpt _) howner')))))))]
    exact (if_neg (not_or.2 ⟨h0, not_or.2 ⟨hm, Nat.not_lt.2 ho⟩⟩)).symm
  · rw [if_neg ho] at howner'
    rw [rThen_none (hid' _) (rThen_none (hstation _) (rThen_none (hmask _) (rThen_none (hslot _) (rThen_none (htarget _)
      (rThen_none (hpolicy _) (rThen_none (hms _) (rThen_none (hrpt _) howner')))))))]
    simp [Nat.not_le.1 ho]

theorem CueAdd.wellFormed.reads (h : x.wellFormed) : readAll rCueAdd (cueRequest x) = some x := by
  obtain ⟨h0, hid, hdue, hmask, hwait, howner⟩ := h
  rw [readAll_cueRequest hid hdue hwait (by omega), if_neg]
  rintro (h | h | h)
  · omega
  · exact hmask h
  · omega

/-! ## The checks of CUE_ADD (R96) -/

theorem targetOk_iff {sl : SlotId} {t : Target} : s.targetOk sl t = true ↔ s.targetLegal sl t := by
  unfold State.targetOk State.targetLegal State.isVariantOf
  rw [Bool.and_eq_true, Option.isSome_iff_ne_none]
  refine and_congr_right fun _ => ?_
  cases t with
  | national => simp
  | variant v => cases hv : s.variant v <;> simp [hv]

theorem State.cue_none {id : Nat} (h : ∀ y ∈ s.cues, y.id ≠ id) : s.cue id = none :=
  List.find?_eq_none.2 fun y hy => by simpa using h y hy

theorem State.cue_isSome {id : Nat} (h : ∃ y ∈ s.cues, y.id = id) : (s.cue id).isSome = true := by
  obtain ⟨y, hy, hid⟩ := h
  exact List.find?_isSome.2 ⟨y, hy, by simpa using hid⟩

theorem doCueAdd_notReady (h : s.station = none) : doCueAdd x s = .refused .notReady [] := by
  unfold doCueAdd
  rw [h]

theorem doCueAdd_full (hst : s.station = some now) (h : 128 ≤ s.cues.length) : doCueAdd x s = .refused .full [] := by
  unfold doCueAdd
  rw [hst]
  exact if_pos h

theorem doCueAdd_duplicate (hst : s.station = some now) (hlen : s.cues.length < 128) (h : ∃ y ∈ s.cues, y.id = x.id) :
    doCueAdd x s = .refused .duplicate [] := by
  unfold doCueAdd
  rw [hst]
  exact (if_neg (Nat.not_le.2 hlen)).trans (if_pos (State.cue_isSome h))

/-- The first three checks passed. -/
theorem doCueAdd_room (hst : s.station = some now) (hlen : s.cues.length < 128) (hnew : ∀ y ∈ s.cues, y.id ≠ x.id) :
    doCueAdd x s =
      if s.targetOk x.slot x.target = false then .refused .badField []
      else
        (s.claimedBy x.mask x.owner).elim
          (if x.rpt = .once ∧ 270000000 < lateness now x.due ∧ lateness now x.due < 76441190400000000 then
            .refused .tooLate []
          else addCue x (lateness now x.due) s)
          fun y => .refused .claimed (claimRefs y) := by
  unfold doCueAdd
  rw [hst, State.cue_none hnew]
  dsimp only
  rw [if_neg (Nat.not_le.2 hlen), if_neg (by simp)]
  cases s.claimedBy x.mask x.owner with
  | none => simp [and_assoc]
  | some y => simp

theorem lateness_of_lt {due : Nat} (h : due < 152882380800000000) :
    lateness now due = (now + 152882380800000000 - due) % 152882380800000000 := by
  unfold lateness
  simp only [Config.stationSpan]
  omega

/-! ## The cue that CUE_ADD enters (R93, R97) -/

/-- A CUE_ADD that enters a cue is taken, unless the cue is ONCE and late by more than 10 s. -/
theorem CueAdd.enters.taken (h : x.enters now w c s)
    (hlate : x.rpt = .once → lateness now x.due ≤ 270000000 ∨ 76441190400000000 ≤ lateness now x.due) :
    doCueAdd x s = addCue x (lateness now x.due) s := by
  obtain ⟨-, hst, hlen, hnew, htarget, htouch, -, -⟩ := h
  rw [doCueAdd_room hst hlen hnew, targetOk_iff.2 htarget, if_neg (by simp), claimedBy_none htouch]
  refine if_neg fun ⟨hr, hl1, hl2⟩ => ?_
  have := hlate hr
  omega

/-- The cue and the wait limit as the model takes them are those that the rules give. -/
theorem CueAdd.enters.cue_eq (h : x.enters now w c s) :
    w = x.policy.waitTaken x.wait ∧ c = { x.cue x.due with insertion := s.insertion } := by
  obtain ⟨-, -, -, -, -, -, hw, hc⟩ := h
  have hwait : w = x.policy.waitTaken x.wait := by
    rw [hw]
    cases x.policy <;> simp [SwitchPolicy.waitTaken, clamp]
  exact ⟨hwait, by rw [hc, hwait]; rfl⟩

theorem CueAdd.enters.lateness_eq (h : x.enters now w c s) :
    lateness now x.due = (now + 152882380800000000 - x.due) % 152882380800000000 := lateness_of_lt h.1.2.2.1

/-- The cue is entered in its place, for the due time that it is to wait for. -/
theorem CueAdd.enters.entered (h : x.enters now w c s) (hi : s.insertion < 4294967295) (due : Nat) :
    Entered { c with due := due } s (enterCue (x.cue due) s) := by
  obtain ⟨-, hc⟩ := h.cue_eq
  obtain ⟨-, -, -, hnew, -⟩ := h
  have hnone : s = { s with cues := withoutCue (x.cue due).id s.cues } := by
    have : withoutCue x.id s.cues = s.cues := List.filter_eq_self.2 fun y hy => by simpa using hnew y hy
    rw [show (x.cue due).id = x.id from rfl, this]
  rw [hc]
  exact enterCue_entered (x.cue due) hi hnone

/-- What stands in the schedule once a cue is entered. -/
theorem Entered.place (h : Entered c s u) (hc : c.insertion = s.insertion) :
    ∃ pre post, s.cues = pre ++ post ∧ u.cues = pre ++ c :: post ∧
      ∀ y ∈ pre, ¬(c.due < y.due ∨ (c.due = y.due ∧ s.insertion < y.insertion)) := by
  obtain ⟨-, pre, post, hs, hu, hpre, -⟩ := h
  exact ⟨pre, post, hs, by rw [hu, ← hc], hpre⟩

/-- A cue entered with an id of its own leaves the ids distinct. -/
theorem ids_nodup_insert {pre post : List Cue} (hn : ((pre ++ post).map Cue.id).Nodup)
    (hnew : ∀ y ∈ pre ++ post, y.id ≠ c.id) : ((pre ++ c :: post).map Cue.id).Nodup := by
  have hperm : ((pre ++ c :: post).map Cue.id).Perm (c.id :: (pre ++ post).map Cue.id) :=
    (List.perm_middle (a := c) (l₁ := pre) (l₂ := post)).map Cue.id
  rw [hperm.nodup_iff, List.nodup_cons]
  refine ⟨fun hmem => ?_, hn⟩
  obtain ⟨y, hy, he⟩ := List.mem_map.1 hmem
  exact hnew y hy he

/-- A state that a cue has been entered in, told by its fields. -/
theorem Entered.fields (h : Entered c s u) :
    u.insertion = s.insertion + 1 ∧ u.falling = s.falling ∧ u.station = s.station ∧ u.routes = s.routes := by
  obtain ⟨hu, -⟩ := h
  rw [hu]
  exact ⟨rfl, rfl, rfl, rfl⟩

/-- The cue that a CUE_ADD enters stands ready, where no route of its mask waits on its id. -/
theorem CueAdd.enters.standsReady (h : x.enters now w c s) (hu : Entered c s u) (hi : s.insertion + 1 < 4294967295)
    (hn : (s.cues.map Cue.id).Nodup) (hf : s.falling = [])
    (hwait : ∀ g : RegionId, x.mask.getLsbD g = true → (s.route g x.slot).waiter ≠ some (.cue x.id)) : u.standsReady c := by
  obtain ⟨-, hc⟩ := h.cue_eq
  obtain ⟨⟨-, -, -, hmask, -⟩, -, -, hnew, -⟩ := h
  obtain ⟨pre, post, hs, hcues, -⟩ := hu.place (by rw [hc])
  obtain ⟨hins, hfall, -, hroutes⟩ := hu.fields
  subst hc
  refine ⟨?_, hcues ▸ by simp, rfl, hmask, rfl, hins ▸ hi, hfall.trans hf, fun g hg => ?_⟩
  · rw [hcues]
    exact ids_nodup_insert (hs ▸ hn) fun y hy => hnew y (hs ▸ hy)
  · have hroute : u.route g x.slot = s.route g x.slot := by simp only [State.route, hroutes]
    exact hroute.symm ▸ hwait g hg

/-- Another cue that stands ready stands so beside the cue entered. -/
theorem Entered.standsReady (hu : Entered c s u) (hi : s.insertion + 1 < 4294967295) (hc : c.insertion = s.insertion)
    (hnew : ∀ y ∈ s.cues, y.id ≠ c.id) (hy : s.standsReady y) : u.standsReady y := by
  obtain ⟨hn, hmem, hp, hmask, hout, -, hf, hwait⟩ := hy
  obtain ⟨pre, post, hs, hcues, -⟩ := hu.place hc
  obtain ⟨hins, hfall, -, hroutes⟩ := hu.fields
  refine ⟨?_, ?_, hp, hmask, hout, hins ▸ hi, hfall.trans hf, fun g hg => ?_⟩
  · rw [hcues]
    exact ids_nodup_insert (hs ▸ hn) fun z hz => hnew z (hs ▸ hz)
  · rw [hcues]
    rw [hs] at hmem
    simp only [List.mem_append, List.mem_cons] at hmem ⊢
    tauto
  · have hroute : u.route g y.slot = s.route g y.slot := by simp only [State.route, hroutes]
    exact hroute.symm ▸ hwait g hg

/-! ## CUE_ADD (R93 to R97, R136) -/

theorem addCue_future {late : Nat} (h : 76441190400000000 ≤ late) :
    addCue x late s = .ok (x.reply x.due false) (enterCue (x.cue x.due) s) := if_pos h

theorem addCue_due {late : Nat} (h : late ≤ 270000000) :
    addCue x late s = .ok (x.reply x.due true) (fallNow x.id (enterCue (x.cue x.due) s)) := by
  unfold addCue
  rw [if_neg (by simp only [Config.halfSpan]; omega), if_pos h]

theorem addCue_late {late : Nat} (h : 270000000 < late) (h' : late < 76441190400000000) :
    addCue x late s =
      .ok (x.reply (advanceDue x.due late) false) (enterCue (x.cue (advanceDue x.due late)) s) := by
  unfold addCue
  rw [if_neg (Nat.not_le.2 h'), if_neg (Nat.not_le.2 h)]

/-- A CUE_ADD that enters a cue is answered as its lateness decides. -/
theorem CueAdd.enters.answers {reply : List Byte} (h : x.enters now w c s) (hc : canTake l s)
    (hlate : x.rpt = .once → lateness now x.due ≤ 270000000 ∨ 76441190400000000 ≤ lateness now x.due)
    (hadd : addCue x (lateness now x.due) s = .ok reply u) : Answers l 0x1B (cueRequest x) s reply u :=
  answers_of_serve (fun _ => rfl) hc (.inr rfl) h.1.reads ((h.taken hlate).trans hadd)

theorem refuses_cueAdd {r : Result} {refs : List ObjRef} (hc : canTake l s) (hx : x.wellFormed)
    (h : doCueAdd x s = .refused r refs) : Refuses l 0x1B (cueRequest x) s r refs :=
  refuses_of_serve (fun _ => rfl) hc (.inr rfl) hx.reads h

/-- Settles O33: a CUE_ADD that passes its checks is taken by its lateness, and the checks refuse in their order. -/
theorem cueAddPlacesOrRefusesACue : Obligations.CueAddPlacesOrRefusesACue := by
  refine ⟨fun l x now late w c s hc h hi hlate => ?taken, fun l x s hc => ⟨fun hid hdue hwait howner hbad => ?malformed,
    fun hx => ⟨fun hst => ?notReady, fun now hst => ⟨fun hlen => ?full, fun hlen => ⟨fun hdup => ?duplicate,
      fun hnew => ⟨fun hbad => ?target, fun hlegal => ⟨fun g owner hclaim => ?claimed,
        fun htouch hr hl hl' => ?tooLate⟩⟩⟩⟩⟩⟩⟩
  case taken =>
    rw [← h.lateness_eq] at hlate
    obtain ⟨rfl, hceq⟩ := h.cue_eq
    subst hlate
    have hentered := h.entered (by omega) x.due
    have hdue : { c with due := x.due } = c := by rw [hceq]; rfl
    rw [hdue] at hentered
    refine ⟨fun hfuture => ⟨_, h.answers hc (fun _ => .inr hfuture) (addCue_future hfuture), hentered⟩,
      fun hnow hn hf hwait holder => ⟨enterCue (x.cue x.due) s, _,
        h.answers hc (fun _ => .inl hnow) (addCue_due hnow), hentered, ?due⟩,
      fun hlate hpast hr => ?daily⟩
    case due =>
      obtain ⟨pre, post, hs, hcues, hpre⟩ := hentered.place (by rw [hceq])
      obtain ⟨-, -, hstation, hroutes⟩ := hentered.fields
      have hst : (enterCue (x.cue x.due) s).station = some now := hstation.trans h.2.1
      have hid : c.id = x.id := by rw [hceq]; rfl
      have hready := h.standsReady hentered (by omega) hn hf fun g hg => hwait g x.id hg
      rw [← hid]
      refine fallNow_ready hst (by rw [← lateness_due, hceq]; exact hnow) hcues (fun y hy => ?_) ⟨hready, fun g i hg => ?_⟩
      · refine isDue_eq_false fun m hm hp he => ?_
        obtain rfl : now = m := Option.some.inj (hst.symm.trans hm)
        exact hpre y hy (holder y (hs ▸ List.mem_append_left _ hy) hp he)
      · have hroute : (enterCue (x.cue x.due) s).route g c.slot = s.route g x.slot := by
          rw [hceq]
          simp only [State.route, hroutes]
          rfl
        rw [hroute]
        exact hwait g i (by rw [hceq] at hg; exact hg)
    case daily =>
      obtain ⟨days, h0, hlt, hle, hdays⟩ := advanceDue_advancedTo c (lateness now x.due)
      have hcdue : c.due = x.due := by rw [hceq]; rfl
      rw [hcdue] at hdays
      exact ⟨days, advanceDue x.due (lateness now x.due), _, hlt, hle, h0, hdays,
        h.answers hc (fun ho => absurd (ho.symm.trans hr) (by decide)) (addCue_late hlate hpast), h.entered (by omega) _⟩
  case malformed =>
    refine refuses_badField_of_serve (fun _ => rfl) hc (.inr rfl) ?_
    rw [readAll_cueRequest hid hdue hwait howner, if_pos hbad]
  case notReady => exact refuses_cueAdd hc hx (doCueAdd_notReady hst)
  case full => exact refuses_cueAdd hc hx (doCueAdd_full hst hlen)
  case duplicate => exact refuses_cueAdd hc hx (doCueAdd_duplicate hst hlen hdup)
  all_goals refine refuses_cueAdd hc hx ((doCueAdd_room hst hlen hnew).trans ?_)
  case target => exact if_pos (Bool.eq_false_iff.2 fun hok => hbad (targetOk_iff.1 hok))
  case claimed =>
    rw [targetOk_iff.2 hlegal, if_neg (by simp), claimedBy_first hclaim]
    rfl
  case tooLate =>
    rw [targetOk_iff.2 hlegal, if_neg (by simp), claimedBy_none htouch]
    rw [← lateness_of_lt hx.2.2.1] at hl hl'
    exact if_pos ⟨hr, hl, hl'⟩

end Sys2Proof.Machine
end

section
/-!
PROOFS. A cue falls due at its tick, or at once when it is added, behind the cues of the same tick that stand before it
(R97 to R103, R121).
-/
namespace Sys2Proof.Machine

variable {s u : State} {c y : Cue} {now : Nat} {w : Option Nat} {l : Link} {x : CueAdd} {pre post : List Cue}

/-! ## The cues of one tick in the schedule (R98) -/

/-- A PENDING cue whose due time is this tick. -/
def Cue.fallsAt (now : Nat) (y : Cue) : Bool :=
  decide (y.state = .pending) && decide (y.due % 152882380800000000 = now)

theorem Cue.fallsAt_iff (hnow : now < 152882380800000000) :
    y.fallsAt now = true ↔ y.state = .pending ∧ y.late now = 0 := by
  simp [Cue.fallsAt, late_eq_zero hnow]

/-- Among the cues other than the one that falls due at once, an event deals with those of this tick. -/
theorem filter_inTurn (hnow : now < 152882380800000000) {cs : List Cue} (hne : ∀ y ∈ cs, y.id ≠ c.id) :
    (cs.filter fun z => decide (z.state = .pending) && decide (z.late now ≤ 270000000)).filter
        (fun z => decide (z.id = c.id ∨ z.late now = 0)) = cs.filter (Cue.fallsAt now) := by
  rw [List.filter_filter]
  refine List.filter_congr fun z hz => ?_
  rw [Bool.eq_iff_iff, Cue.fallsAt_iff hnow]
  simp only [Bool.and_eq_true, decide_eq_true_eq, hne z hz, false_or]
  constructor
  · rintro ⟨h0, hp, -⟩
    exact ⟨hp, h0⟩
  · rintro ⟨hp, h0⟩
    exact ⟨h0, hp, by omega⟩

theorem inTurn_place (hst : s.station = some now) (hl : s.cues = pre ++ c :: post) (hn : (s.cues.map Cue.id).Nodup)
    (hp : c.state = .pending) (hlate : c.late now ≤ 270000000) :
    s.inTurn now c.id = (pre.filter (Cue.fallsAt now) ++ [c]) ++ post.filter (Cue.fallsAt now) := by
  have hnow := station_lt hst
  rw [hl] at hn
  have hparts : ∀ y ∈ pre ++ post, y.id ≠ c.id := by
    have hmid : ((c :: (pre ++ post)).map Cue.id).Nodup := (List.perm_middle.map Cue.id).nodup_iff.1 hn
    exact fun y hy e => (List.nodup_cons.1 hmid).1 (e ▸ List.mem_map_of_mem hy)
  have hpre := filter_inTurn hnow fun y hy => hparts y (List.mem_append_left _ hy)
  have hpost := filter_inTurn hnow fun y hy => hparts y (List.mem_append_right _ hy)
  unfold State.inTurn State.ripe
  rw [hl, List.filter_append, List.filter_append, hpre, List.filter_cons_of_pos (by simp [hp, hlate]),
    List.filter_cons_of_pos (by simp), hpost, List.append_assoc, List.singleton_append]

/-- A cue of the schedule, late by 10 s or less, falls due at once: the event hands over the cues of this tick that stand
before it, and then the cue. -/
theorem fallNow_inTurn (hst : s.station = some now) (hl : s.cues = pre ++ c :: post) (hlate : c.late now ≤ 270000000)
    (hready : s.standsReady c) (hpre : ∀ z ∈ pre, z.fallsAt now = true → s.standsReady z) (hw : s.activesWait)
    (hi : s.insertion + 9 * ((pre.filter (Cue.fallsAt now)).length + 1) < 4294967295) :
    HandedInTurn (pre.filter (Cue.fallsAt now) ++ [c]) s (fallNow c.id s) := by
  have ⟨hn, _, hp, _, _, _, hf, _⟩ := hready
  have hnil : ({ s with falling := [] } : State) = s := by rw [← hf]
  have hlen := List.length_filter_le (Cue.fallsAt now) pre
  have hturning : Turning now c (pre.filter (Cue.fallsAt now) ++ [c]) (post.filter (Cue.fallsAt now))
      { s with falling := [c.id] } := by
    refine ⟨hst, hn, rfl, hw, inTurn_place hst hl hn hp hlate, fun z hz => ?ready, ?room⟩
    case ready =>
      rw [show ({ ({ s with falling := [c.id] } : State) with falling := [] } : State) = s from hnil]
      rcases List.mem_append.1 hz with h | h
      · obtain ⟨hmem, hz'⟩ := List.mem_filter.1 h
        exact hpre z hmem hz'
      · obtain rfl := List.mem_singleton.1 h
        exact hready
    case room =>
      rw [List.length_append, List.length_singleton]
      show s.insertion + _ < _
      omega
  have hturns := hturning.handedInTurn (n := 2 * s.cues.length + 1) (by rw [hl, List.length_append]; omega)
  rwa [show ({ ({ s with falling := [c.id] } : State) with falling := [] } : State) = s from hnil] at hturns

/-! ## A cue that is added due (R97, log entry 34) -/

/-- A PENDING cue that is entered is none of the ACTIVE ones, which wait as they did. -/
theorem Entered.activesWait (h : Entered c s u) (hp : c.state = .pending) (hs : s.activesWait) : u.activesWait := by
  obtain ⟨pre, post, hcues, hu, -⟩ := h.2
  obtain ⟨-, -, hstation, -⟩ := h.fields
  intro y hy ha
  rw [hu] at hy
  have hmem : y ∈ s.cues := by
    rw [hcues]
    rcases List.mem_append.1 hy with h | h
    · exact List.mem_append_left _ h
    · rcases List.mem_cons.1 h with rfl | h
      · exact absurd (hp.symm.trans ha) (by decide)
      · exact List.mem_append_right _ h
  exact fun hr m hm => hs y hmem ha hr m (hstation.symm.trans hm)

/-- Settles O34: while no cue is due nothing happens, the first that is due is handed over after the waits that it
supersedes, and a cue added due has its turn behind those of its tick. -/
theorem cueFallsDueAtItsTime : Obligations.CueFallsDueAtItsTime := by
  refine ⟨fun s h => congrArg Host.Outcome.next (cueDue_none fun y hy => isDue_eq_false fun now hst => h now hst y hy),
    fun c pre post s hst hl hpre => ?tick,
    fun l x now w c s hc h hlate hn hf hi hw hwait hholder => ?added⟩
  case tick =>
    have hlate : c.late c.due = 0 := (late_eq_zero (station_lt hst)).2 (Nat.mod_eq_of_lt (station_lt hst))
    have hidle : ∀ y ∈ pre, s.isDue y = false := fun y hy =>
      isDue_eq_false fun m hm hp => Option.some.inj (hst.symm.trans hm) ▸ hpre y hy hp
    have hexec : s.standsReady c → exec .cueFallsDue s = .next (fallNow c.id s) := fun hready =>
      congrArg Host.Outcome.next (cueDue_first hl hidle ((isDue_iff hst).2 ⟨hready.2.2.1, hlate⟩))
    refine ⟨fun hready => ⟨_, hexec hready.1, fallNow_ready hst (by omega) hl hidle hready⟩, fun hready hi hw => ?_⟩
    have hnone : pre.filter (Cue.fallsAt c.due) = [] := List.filter_eq_nil_iff.2 fun y hy hfalls => by
      obtain ⟨hp, h0⟩ := (Cue.fallsAt_iff (station_lt hst)).1 hfalls
      exact hpre y hy hp ((late_eq_zero (station_lt hst)).1 h0)
    obtain ⟨u, t, hsup, hover, rfl⟩ := hnone ▸ fallNow_inTurn hst hl (by omega) hready
      (fun z hz hfalls => absurd (List.mem_filter.2 ⟨hz, hfalls⟩) (by simp [hnone])) hw.actives
      (by rw [hnone, List.length_nil]; omega)
    exact ⟨u, _, hexec hready, hsup, hover⟩
  case added =>
    rw [← h.lateness_eq] at hlate
    have hentered := h.entered (by omega) x.due
    obtain ⟨rfl, hceq⟩ := h.cue_eq
    obtain ⟨hid, hdue, hins, hpend⟩ : c.id = x.id ∧ c.due = x.due ∧ c.insertion = s.insertion ∧ c.state = .pending := by
      rw [hceq]
      exact ⟨rfl, rfl, rfl, rfl⟩
    rw [show { c with due := x.due } = c by rw [← hdue]] at hentered
    obtain ⟨pre, post, hs, hcues, -⟩ := hentered.place hins
    obtain ⟨hnext, -, hstation, -⟩ := hentered.fields
    have hst := h.2.1
    have hlen : pre.length ≤ 128 := by
      have := h.2.2.1
      rw [hs, List.length_append] at this
      omega
    have hfew := List.length_filter_le (Cue.fallsAt now) pre
    refine ⟨enterCue (x.cue x.due) s, pre, post, fallNow x.id (enterCue (x.cue x.due) s), hentered, hcues,
      h.answers hc (fun _ => .inl hlate) (addCue_due hlate), hid ▸ fallNow_inTurn (hstation.trans hst) hcues ?late
        (h.standsReady hentered (by omega) hn hf hwait) (fun z hz hfalls => ?ready) (hentered.activesWait hpend hw.actives)
        (by omega)⟩
    case late => rw [← lateness_due, hdue]; exact hlate
    case ready =>
      have hz' : z ∈ s.cues := hs ▸ List.mem_append_left _ hz
      have hfalls' : z.state = .pending ∧ z.due % 152882380800000000 = now := by simpa [Cue.fallsAt] using hfalls
      exact hentered.standsReady (by omega) hins (fun y hy => hid ▸ h.2.2.2.1 y hy) (hholder z hz' hfalls'.1 hfalls'.2)

end Sys2Proof.Machine
end

section
/-!
PROOFS. CUE_CANCEL and CUE_CONFIRM: their refusals in order, the routes that abandon their waits or end them, and the
outcomes that a cue gets with which it completes (R104 to R108, R125, R126, R136).
-/
namespace Sys2Proof.Machine

variable {s t u : State} {c b : Cue} {g : RegionId} {sl : SlotId} {o : CueOutcome} {id : Nat} {r : Route} {l : Link}

/-! ## The checks of CUE_CANCEL and CUE_CONFIRM (R105, R107) -/

theorem doCueCancel_unknown {owner : Nat} (h : s.cue id = none) : doCueCancel (id, owner) s = .refused .unknown [] := by
  simp only [doCueCancel, h]

theorem doCueCancel_claimed {owner claimant : Nat} (h : s.cue id = some c) (hg : s.firstClaimed c.mask owner g claimant) :
    doCueCancel (id, owner) s = .refused .claimed [.region g, .owner claimant] := by
  simp only [doCueCancel, h, claimedBy_first hg]
  rfl

theorem doCueCancel_taken {owner : Nat} (h : s.cue id = some c) (hg : s.mayTouch c.mask owner) :
    doCueCancel (id, owner) s = .ok (e1 c.state.code ++ eList eOutcome c.cancelled.outcomes) (cancelCue c s) := by
  simp only [doCueCancel, h, claimedBy_none hg]

theorem doCueConfirm_unknown {owner : Nat} (h : s.cue id = none) : doCueConfirm (id, owner) s = .refused .unknown [] := by
  simp only [doCueConfirm, h]

theorem doCueConfirm_claimed {owner claimant : Nat} (h : s.cue id = some c) (hg : s.firstClaimed c.mask owner g claimant) :
    doCueConfirm (id, owner) s = .refused .claimed [.region g, .owner claimant] := by
  simp only [doCueConfirm, h, claimedBy_first hg]
  rfl

/-- The claim test of CUE_CONFIRM passed. -/
theorem doCueConfirm_touches {owner : Nat} (h : s.cue id = some c) (hg : s.mayTouch c.mask owner) :
    doCueConfirm (id, owner) s =
      if c.state = .pending then .refused .notDue []
      else if c.policy ≠ .onConfirm then .refused .wrongPolicy []
      else .ok (eList eOutcome (s.confirmed c)) (confirmCue c s) := by
  simp only [doCueConfirm, h, claimedBy_none hg]

/-! ## A route whose wait is cancelled (R126) -/

/-- The routes of a mask and slot. -/
theorem mem_regionsOf_routes {mask : RegionMask} {h : RegionId} {y : SlotId} :
    (h, y) ∈ (regionsOf mask).map (fun g => (g, sl)) ↔ y = sl ∧ mask.getLsbD h = true := by
  rw [List.mem_map]
  constructor
  · rintro ⟨g, hg, he⟩
    obtain ⟨rfl, rfl⟩ := Prod.mk.inj he
    exact ⟨rfl, mem_regionsOf.1 hg⟩
  · rintro ⟨rfl, hg⟩
    exact ⟨h, mem_regionsOf.2 hg, rfl⟩

theorem OnlySwitching.abandon (h : OnlySwitching s t) (r : Route) : t.abandon r = s.abandon r :=
  (congrArg (fun x => State.abandon x r) h.1 :)

/-- What the cancel of a cue does to a route. -/
def State.cancels (s : State) (id : Nat) (r : Route) : Route := if r.waiter = some (.cue id) then s.abandon r else r

theorem cancelRoute_route (h : RegionId) (y : SlotId) :
    (cancelRoute id sl s g).route h y = if (g, sl) = (h, y) then s.cancels id (s.route h y) else s.route h y := by
  unfold cancelRoute State.cancels
  dsimp only
  simp only [Prod.mk.injEq]
  by_cases hw : (s.route g sl).waiter = some (.cue id)
  · rw [if_pos hw, commitRoute_route]
    split
    · next e => rw [← e.1, ← e.2, if_pos hw]
    · rfl
  · rw [if_neg hw]
    split
    · next e => rw [← e.1, ← e.2, if_neg hw]
    · rfl

/-- The cancel of a cue that has left the schedule moves nothing in it. -/
theorem cancelRoute_sameSchedule (h : ∀ y ∈ s.cues, y.id ≠ id) : SameSchedule s (cancelRoute id sl s g) := by
  unfold cancelRoute
  dsimp only
  split
  · obtain ⟨u, hu, hgive⟩ := commitRoute_gives s g sl (s.abandon (s.route g sl)) .cancel (some (.cancelled, .cue id))
    have hsame : giveOutcome g (some (.cancelled, .cue id)) u = u :=
      recordOutcome_pending fun y hy hid => absurd hid (h y (hu.cues ▸ hy))
    rw [hgive, hsame]
    exact hu
  · exact .refl s

/-- What the cancel of an ACTIVE cue does: the cue leaves the schedule, and the routes of its mask and slot abandon the
waits on it. -/
theorem cancelCue_active (ha : c.state = .active) :
    (cancelCue c s).cues = withoutCue c.id s.cues ∧ (cancelCue c s).insertion = s.insertion ∧
      (cancelCue c s).changes = s.changes + 1 ∧
        ∀ (g : RegionId) (sl : SlotId), (cancelCue c s).route g sl =
          if sl = c.slot ∧ c.mask.getLsbD g ∧ (s.route g sl).waiter = some (.cue c.id) then s.abandon (s.route g sl)
          else s.route g sl := by
  have hcancel : cancelCue c s = notifyBoth (.cueDone c.cancelled none)
      ((regionsOf c.mask).foldl (cancelRoute c.id c.slot) (removeCue c.id s)) := by
    simp only [cancelCue, ha]
  have hsame : SameSchedule (removeCue c.id s) ((regionsOf c.mask).foldl (cancelRoute c.id c.slot) (removeCue c.id s)) :=
    List.foldlRecOn (regionsOf c.mask) (cancelRoute c.id c.slot) (motive := SameSchedule (removeCue c.id s)) (.refl _)
      fun u hu g _ => hu.trans (cancelRoute_sameSchedule fun y hy => (mem_withoutCue.1 (hu.cues ▸ hy)).2)
  have hnodup : ((regionsOf c.mask).map fun g => (g, c.slot)).Nodup :=
    (regionsOf_nodup c.mask).map fun _ _ e => (Prod.mk.inj e).1
  have hstep : ∀ u g, OnlySwitching s u → OnlySwitching u (cancelRoute c.id c.slot u g) ∧ ∀ h y,
      (cancelRoute c.id c.slot u g).route h y = if (g, c.slot) = (h, y) then s.cancels c.id (u.route h y) else u.route h y :=
    fun u g hu => ⟨cancelRoute_only u c.id c.slot g, fun h y => by
      rw [cancelRoute_route, State.cancels, hu.abandon]
      rfl⟩
  rw [hcancel]
  refine ⟨hsame.cues, hsame.insertion, hsame.changes, fun g sl => ?_⟩
  have hroute := foldl_route hstep hnodup (removeCue_only s c.id) g sl
  refine hroute.trans ?_
  simp only [mem_regionsOf_routes, State.cancels, ← ite_and, and_assoc]
  rfl

/-! ## A route whose wait is confirmed (R125) -/

/-- What the confirmation of a cue does to a route: one that waits on it switches, or falls back from a variant that is not
HEALTHY. -/
def State.confirms (s : State) (id : Nat) (r : Route) : Route :=
  match r.state with
  | .awaitConfirm (.variant v) (some i) _ =>
    if i = id then if s.healthy v then r.switchTo (.variant v) else r.fallBack v (s.fallbackOf v) else r
  | .awaitConfirm .national (some i) _ => if i = id then r.switchTo .national else r
  | .awaitConfirm _ none _ | .steady | .pendingSplice _ _ _ | .fallback | .returning _ _ => r

/-- The outcome that the confirmation of a cue brings on a route. -/
def State.confirmTells (s : State) (id : Nat) (r : Route) (g : RegionId) : Option (RegionId × Nat × CueOutcome) :=
  match r.state with
  | .awaitConfirm x (some i) _ => if i = id then some (g, id, if s.fit x then .switched else .fallback) else none
  | .awaitConfirm _ none _ | .steady | .pendingSplice _ _ _ | .fallback | .returning _ _ => none

/-- A route waits on the confirmation of a cue for a target. -/
def Route.awaitsCue (r : Route) (id : Nat) (x : Target) : Prop := ∃ d, r.state = .awaitConfirm x (some id) d

theorem State.confirmTells_awaits {x : Target} (h : r.awaitsCue id x) (g : RegionId) :
    s.confirmTells id r g = some (g, id, if s.fit x then .switched else .fallback) := by
  obtain ⟨d, hd⟩ := h
  simp [State.confirmTells, hd]

theorem State.confirms_fit {x : Target} (h : r.awaitsCue id x) (hx : s.fit x = true) : s.confirms id r = r.switchTo x := by
  obtain ⟨d, hd⟩ := h
  cases x with
  | national => simp [State.confirms, hd]
  | variant v =>
    have hv : s.healthy v = true := hx
    simp [State.confirms, hd, hv]

theorem State.confirms_unfit {v : VariantId} (h : r.awaitsCue id (.variant v)) (hv : s.healthy v = false) :
    s.confirms id r = r.fallBack v (s.fallbackOf v) := by
  obtain ⟨d, hd⟩ := h
  simp [State.confirms, hd, hv]

/-- The confirmation of a cue passes over a route that does not wait on it. -/
theorem State.confirms_other (h : ∀ x, ¬r.awaitsCue id x) : s.confirms id r = r ∧ s.confirmTells id r g = none := by
  unfold State.confirms State.confirmTells
  cases hr : r.state with
  | awaitConfirm x i d =>
    cases i with
    | none => cases x <;> exact ⟨rfl, rfl⟩
    | some i =>
      have hne : i ≠ id := fun e => h x ⟨d, by rw [hr, e]⟩
      cases x <;> exact ⟨if_neg hne, if_neg hne⟩
  | steady | pendingSplice x i d | fallback | returning v d => exact ⟨rfl, rfl⟩

/-- What a confirmation does to one route, said once: a route that waits on the cue ends its wait and gives its outcome;
any other stands as it was. -/
theorem confirmRoute_cases (s : State) (id : Nat) (sl : SlotId) (g : RegionId) :
    (∃ x, (s.route g sl).awaitsCue id x ∧ confirmRoute id sl s g =
        commitRoute g sl (s.confirms id (s.route g sl)) .confirm
          (some (if s.fit x then .switched else .fallback, .cue id)) none s) ∨
      ((∀ x, ¬(s.route g sl).awaitsCue id x) ∧ confirmRoute id sl s g = s) := by
  by_cases h : ∃ x, (s.route g sl).awaitsCue id x
  · obtain ⟨x, hx⟩ := h
    refine .inl ⟨x, hx, ?_⟩
    have ⟨d, hd⟩ := hx
    unfold confirmRoute
    dsimp only
    rw [hd]
    dsimp only
    rw [if_pos rfl]
    cases hfit : s.fit x with
    | true => rw [State.confirms_fit hx hfit]; cases x <;> rfl
    | false =>
      cases x with
      | national => exact absurd hfit (by simp [State.fit])
      | variant v => rw [State.confirms_unfit hx hfit]; rfl
  · have hnot : ∀ x, ¬(s.route g sl).awaitsCue id x := fun x hx => h ⟨x, hx⟩
    refine .inr ⟨hnot, ?_⟩
    unfold confirmRoute
    dsimp only
    cases hr : (s.route g sl).state with
    | awaitConfirm x i d =>
      cases i with
      | none => rfl
      | some i => exact if_neg fun e => hnot x ⟨d, by rw [hr, e]⟩
    | steady | pendingSplice x i d | fallback | returning v d => rfl

theorem confirmRoute_route (h : RegionId) (y : SlotId) :
    (confirmRoute id sl s g).route h y = if (g, sl) = (h, y) then s.confirms id (s.route h y) else s.route h y := by
  simp only [Prod.mk.injEq]
  rcases confirmRoute_cases s id sl g with ⟨x, -, he⟩ | ⟨hnot, he⟩
  · rw [he, commitRoute_route]
    split
    · next e => rw [e.1, e.2]
    · rfl
  · rw [he]
    split
    · next e => rw [← e.1, ← e.2, (State.confirms_other (g := g) hnot).1]
    · rfl

/-- A confirmation moves in the schedule what the outcome of the route moves. -/
theorem confirmRoute_gives (s : State) (id : Nat) (sl : SlotId) (g : RegionId) :
    SameSchedule (giveAll (s.confirmTells id (s.route g sl) g).toList s) (confirmRoute id sl s g) := by
  rcases confirmRoute_cases s id sl g with ⟨x, hx, he⟩ | ⟨hnot, he⟩
  · obtain ⟨u, hu, hgive⟩ := commitRoute_gives s g sl (s.confirms id (s.route g sl)) .confirm
      (some (if s.fit x then .switched else .fallback, .cue id))
    rw [he, hgive, State.confirmTells_awaits hx]
    exact hu.recordOutcome _ _ _
  · rw [he, (State.confirms_other hnot).2]
    exact .refl s

theorem OnlySwitching.confirmTells (h : OnlySwitching s t) (id : Nat) (r : Route) (g : RegionId) :
    t.confirmTells id r g = s.confirmTells id r g := (congrArg (fun x => State.confirmTells x id r g) h.1 :)

theorem OnlySwitching.confirms (h : OnlySwitching s t) (id : Nat) (r : Route) : t.confirms id r = s.confirms id r :=
  (congrArg (fun x => State.confirms x id r) h.1 :)

/-- A confirmation moves in the schedule what the outcomes of the regions' routes move, region after region. -/
theorem foldl_confirmRoute_gives {gs : List RegionId} (hgs : gs.Nodup) :
    SameSchedule (giveAll (gs.filterMap fun g => s.confirmTells id (s.route g sl) g) s)
      (gs.foldl (confirmRoute id sl) s) := by
  induction gs generalizing s with
  | nil => exact .refl s
  | cons g gs ih =>
    rw [List.nodup_cons] at hgs
    have hlater : (gs.filterMap fun h => (confirmRoute id sl s g).confirmTells id ((confirmRoute id sl s g).route h sl) h) =
        gs.filterMap fun h => s.confirmTells id (s.route h sl) h := by
      refine List.filterMap_congr fun h hh => ?_
      have hne : (g, sl) ≠ (h, sl) := fun e => hgs.1 (by rwa [(Prod.mk.inj e).1])
      rw [confirmRoute_route, if_neg hne, (confirmRoute_only s id sl g).confirmTells]
    have hcons : ((g :: gs).filterMap fun h => s.confirmTells id (s.route h sl) h) =
        (s.confirmTells id (s.route g sl) g).toList ++ gs.filterMap fun h => s.confirmTells id (s.route h sl) h := by
      rw [List.filterMap_cons]
      cases s.confirmTells id (s.route g sl) g <;> rfl
    rw [hcons, giveAll_append, ← hlater]
    exact ((confirmRoute_gives s id sl g).giveAll _).trans (ih hgs.2)

/-- A confirmation reaches the routes of its cue's mask and slot, and no others. -/
theorem foldl_confirmRoute_route (mask : RegionMask) (h : RegionId) (y : SlotId) :
    ((regionsOf mask).foldl (confirmRoute id sl) s).route h y =
      if y = sl ∧ mask.getLsbD h = true then s.confirms id (s.route h y) else s.route h y := by
  have hnodup : ((regionsOf mask).map fun g => (g, sl)).Nodup :=
    (regionsOf_nodup mask).map fun _ _ e => (Prod.mk.inj e).1
  have hstep : ∀ u g, OnlySwitching s u → OnlySwitching u (confirmRoute id sl u g) ∧ ∀ h y,
      (confirmRoute id sl u g).route h y = if (g, sl) = (h, y) then s.confirms id (u.route h y) else u.route h y :=
    fun u g hu => ⟨confirmRoute_only u id sl g, fun h y => by rw [confirmRoute_route, hu.confirms]⟩
  rw [foldl_route hstep hnodup (.refl s)]
  simp only [mem_regionsOf_routes]

/-! ## All the outcomes that a cue is missing (R102, R108) -/

/-- The cue with one outcome in every region that has none. -/
def Cue.closed (o : CueOutcome) (b : Cue) : Cue :=
  { b with outcomes := b.outcomes.map fun x => if x.2 = .none then (x.1, o) else x }

theorem Cue.record_closed (ho : o ≠ .none) (b : Cue) (g : RegionId) : (b.record g o).closed o = b.closed o := by
  unfold Cue.closed Cue.record
  simp only [List.map_map]
  congr 1
  refine List.map_congr_left fun x _ => ?_
  by_cases hx : x.1 = g ∧ x.2 = .none
  · simp [hx, ho]
  · simp [hx]

/-- A region misses its outcome after one has been recorded where it missed it before and is another region. -/
theorem Cue.missing_record (ho : o ≠ .none) (b : Cue) (g k : RegionId) :
    (k, CueOutcome.none) ∈ (b.record g o).outcomes ↔ k ≠ g ∧ (k, CueOutcome.none) ∈ b.outcomes := by
  unfold Cue.record
  rw [List.mem_map]
  constructor
  · rintro ⟨x, hx, he⟩
    split at he
    · exact absurd (Prod.mk.inj he).2 ho
    · next hne =>
      subst he
      exact ⟨fun e => hne ⟨e, rfl⟩, hx⟩
  · rintro ⟨hne, hx⟩
    exact ⟨_, hx, if_neg fun h => hne h.1⟩

/-- The outcome of the only region that misses one closes the cue. -/
theorem Cue.record_last (hmiss : ∀ k, (k, CueOutcome.none) ∈ b.outcomes → k = g) : b.record g o = b.closed o := by
  unfold Cue.closed Cue.record
  congr 1
  refine List.map_congr_left fun x hx => ?_
  by_cases h : x.2 = .none
  · have hg : x.1 = g := hmiss x.1 (by rw [← h]; exact hx)
    simp [h, hg]
  · simp [h]

theorem Cue.allGiven_iff : b.allGiven = true ↔ ∀ k, (k, CueOutcome.none) ∉ b.outcomes := by
  simp only [Cue.allGiven, List.all_eq_true, decide_eq_true_eq]
  exact ⟨fun h k hk => h _ hk rfl, fun h x hx he => h x.1 (by rw [← he]; exact hx)⟩

theorem mem_mapCue_self (hb : b ∈ s.cues) {b' : Cue} : b' ∈ mapCue b.id (fun _ => b') s.cues :=
  List.mem_map.2 ⟨b, hb, if_pos rfl⟩

/-- One outcome given in each region that misses one closes the cue, and completes it. -/
theorem giveAll_closes {gs : List RegionId} (hn : (s.cues.map Cue.id).Nodup) (hb : b ∈ s.cues) (ha : b.state = .active)
    (ho : o ≠ .none) (hgs : gs.Nodup) (hne : gs ≠ []) (hmiss : ∀ k, (k, CueOutcome.none) ∈ b.outcomes ↔ k ∈ gs) :
    giveAll (gs.map fun g => (g, b.id, o)) s =
      completeCue (b.closed o) { s with cues := mapCue b.id (fun _ => b.closed o) s.cues } := by
  induction gs generalizing b s with
  | nil => exact absurd rfl hne
  | cons g gs ih =>
    rw [List.nodup_cons] at hgs
    have hrecord := recordOutcome_active (State.cue_of_mem hn hb) ha g o
    have hleft : ∀ k, (k, CueOutcome.none) ∈ (b.record g o).outcomes ↔ k ∈ gs := fun k => by
      rw [Cue.missing_record ho, hmiss, List.mem_cons]
      constructor
      · rintro ⟨hk, h⟩
        exact h.resolve_left hk
      · exact fun h => ⟨fun e => hgs.1 (e ▸ h), .inr h⟩
    cases gs with
    | nil =>
      have hall : (b.record g o).allGiven = true := Cue.allGiven_iff.2 fun k hk => absurd ((hleft k).1 hk) (by simp)
      have hlast : b.record g o = b.closed o := Cue.record_last fun k hk => by simpa using (hmiss k).1 hk
      rw [if_pos hall, hlast] at hrecord
      exact hrecord
    | cons k gs =>
      have hnot : ¬(b.record g o).allGiven = true := fun h => Cue.allGiven_iff.1 h k ((hleft k).2 (by simp))
      rw [if_neg hnot] at hrecord
      have hrest := ih (b := b.record g o) (s := { s with cues := mapCue b.id (fun _ => b.record g o) s.cues })
        ((mapCue_ids b.id (b.record g o) rfl s.cues).symm ▸ hn) (mem_mapCue_self hb) ha hgs.2 (by simp) hleft
      rw [Cue.record_closed ho] at hrest
      calc giveAll ((g :: k :: gs).map fun g => (g, b.id, o)) s
          = giveAll ((k :: gs).map fun g => (g, b.id, o)) (recordOutcome b.id g o s) := rfl
        _ = _ := by
          rw [hrecord]
          refine hrest.trans ?_
          rw [← mapCue_mapCue b.id (b.record g o) (b.closed o) rfl s.cues]
          rfl

/-- A cue is re-entered as it was written, whatever outcomes its occurrence has got. -/
theorem Completed.of_closed (h : Completed (b.closed o) s t) : Completed b s t := by
  have hreentered : ∀ due n, (b.closed o).reentered due n = b.reentered due n := by
    intro due n
    unfold Cue.reentered Cue.closed
    simp only [List.map_map]
    congr 1
    refine List.map_congr_left fun x _ => ?_
    by_cases hx : x.2 = .none <;> simp [hx]
  unfold Completed at h ⊢
  simp only [hreentered] at h
  exact h

theorem Completed.sameSchedule (h : Completed c s t) (hu : SameSchedule t u) : Completed c s u := by
  unfold Completed at *
  rw [hu.cues, hu.insertion]
  exact h

/-! ## The confirmation of a cue (R107, R108, R125) -/

/-- The regions in which a cue misses an outcome are those whose routes wait on it, and they wait for its target. -/
structure Awaited (c : Cue) (s : State) : Prop where
  missing : ∀ g : RegionId, (g, CueOutcome.none) ∈ c.outcomes ↔
    c.mask.getLsbD g = true ∧ (s.route g c.slot).awaitsCue c.id c.target
  target : ∀ g x, (s.route g c.slot).awaitsCue c.id x → x = c.target

/-- A route of the mask that waits on no target of the cue is one whose region has its outcome. -/
theorem Awaited.given (h : Awaited c s) (hg : c.mask.getLsbD g = true) (hm : (g, CueOutcome.none) ∉ c.outcomes) (x : Target) :
    ¬(s.route g c.slot).awaitsCue c.id x := fun hx =>
  hm ((h.missing g).2 ⟨hg, h.target g x hx ▸ hx⟩)

/-- The outcomes that the confirmation brings are the cue's own, one in each region that misses one. -/
theorem Awaited.tells (h : Awaited c s) :
    ((regionsOf c.mask).filterMap fun g => s.confirmTells c.id (s.route g c.slot) g) =
      ((regionsOf c.mask).filter fun g => decide ((g, CueOutcome.none) ∈ c.outcomes)).map
        fun g => (g, c.id, s.confirmOutcome c) := by
  rw [← List.filterMap_eq_map, List.filterMap_filter]
  refine List.filterMap_congr fun g hg => ?_
  by_cases hm : (g, CueOutcome.none) ∈ c.outcomes
  · simp [hm, State.confirmTells_awaits ((h.missing g).1 hm).2, State.confirmOutcome]
  · simp [hm, (State.confirms_other (g := g) (h.given (mem_regionsOf.1 hg) hm)).2]

theorem State.confirmOutcome_ne_none (s : State) (c : Cue) : s.confirmOutcome c ≠ .none := by
  unfold State.confirmOutcome
  split <;> decide

/-- A confirmed cue has every outcome and completes, and the event has no other cue to deal with. -/
theorem Awaited.completes (h : Awaited c s) (hc : c ∈ s.cues) (hn : (s.cues.map Cue.id).Nodup) (ha : c.state = .active)
    (hi : c.rpt = .daily → s.insertion < 4294967295) (hw : s.nextWaits c) (hf : s.falling = [])
    (hsome : ∃ g, (g, CueOutcome.none) ∈ c.outcomes) :
    confirmCue c s = (regionsOf c.mask).foldl (confirmRoute c.id c.slot) s ∧ Completed c s (confirmCue c s) ∧
      (confirmCue c s).falling = [] := by
  have hmem : ∀ g, (g, CueOutcome.none) ∈ c.outcomes ↔
      g ∈ (regionsOf c.mask).filter fun g => decide ((g, CueOutcome.none) ∈ c.outcomes) := fun g => by
    rw [List.mem_filter, decide_eq_true_eq, mem_regionsOf]
    exact ⟨fun hm => ⟨((h.missing g).1 hm).1, hm⟩, And.right⟩
  obtain ⟨g, hg⟩ := hsome
  have hcloses := giveAll_closes hn hc ha (s.confirmOutcome_ne_none c) ((regionsOf_nodup c.mask).filter _)
    (List.ne_nil_of_mem ((hmem g).1 hg)) hmem
  have hsame : SameSchedule _ ((regionsOf c.mask).foldl (confirmRoute c.id c.slot) s) :=
    foldl_confirmRoute_gives (regionsOf_nodup c.mask)
  rw [h.tells, hcloses] at hsame
  obtain ⟨hcompleted, -, hfall⟩ := completeCue_completed
    { s with cues := mapCue c.id (fun _ => c.closed (s.confirmOutcome c)) s.cues } (c.closed (s.confirmOutcome c)) hi hw
  have hnone : ((regionsOf c.mask).foldl (confirmRoute c.id c.slot) s).falling = [] := hsame.falling.trans (hfall.trans hf)
  have hsettle : confirmCue c s = (regionsOf c.mask).foldl (confirmRoute c.id c.slot) s := settle_nil _ hnone
  rw [hsettle]
  have hothers := hcompleted.of_others (s := s) rfl rfl
    (withoutCue_mapCue c.id (c.closed (s.confirmOutcome c)) rfl s.cues)
  exact ⟨rfl, hothers.of_closed.sameSchedule hsame, hnone⟩

/-- Settles O35: the checks of CUE_CANCEL and CUE_CONFIRM in their order, a cancel by the state of the cue, and a
confirmation that ends every wait on it. -/
theorem cueCancelAndConfirm : Obligations.CueCancelAndConfirm := by
  refine ⟨fun l id owner s hc h0 hid ho => ?cancel, fun l id owner s hc h0 hid ho => ?confirm⟩
  all_goals have hreads := readAll_cueOwner h0 hid ho
  case cancel =>
    have hrefuses : ∀ {r refs}, doCueCancel (id, owner) s = .refused r refs → Refuses l 0x1C (e2 id ++ e1 owner) s r refs :=
      fun h => refuses_of_serve (fun _ => rfl) hc (.inr rfl) hreads h
    refine ⟨fun h => hrefuses (doCueCancel_unknown (State.cue_none h)), ?_⟩
    rintro c _ hmem rfl hn rfl
    have hcue := State.cue_of_mem hn hmem
    refine ⟨fun g claimant hg => hrefuses (doCueCancel_claimed hcue hg), fun htouch => ?_⟩
    have hanswers : Answers l 0x1C (e2 c.id ++ e1 owner) s (e1 c.state.code ++ eList eOutcome c.cancelled.outcomes)
        (cancelCue c s) :=
      answers_of_serve (fun _ => rfl) hc (.inr rfl) hreads (doCueCancel_taken hcue htouch)
    refine ⟨fun hp => ?pending, fun ha => ?active⟩
    case pending =>
      have hcancel : cancelCue c s = notifyBoth (.cueDone c.cancelled none) (removeCue c.id s) := by
        simp only [cancelCue, hp]
      rw [hp, hcancel] at hanswers
      exact hanswers
    case active =>
      rw [ha] at hanswers
      exact ⟨_, hanswers, cancelCue_only c s, cancelCue_active ha⟩
  case confirm =>
    have hrefuses : ∀ {r refs}, doCueConfirm (id, owner) s = .refused r refs → Refuses l 0x1D (e2 id ++ e1 owner) s r refs :=
      fun h => refuses_of_serve (fun _ => rfl) hc (.inr rfl) hreads h
    refine ⟨fun h => hrefuses (doCueConfirm_unknown (State.cue_none h)), ?_⟩
    rintro c hmem rfl hn
    have hcue := State.cue_of_mem hn hmem
    refine ⟨fun g claimant hg => hrefuses (doCueConfirm_claimed hcue hg), fun htouch => ?_⟩
    have htouches := doCueConfirm_touches hcue htouch
    refine ⟨fun hp => hrefuses (htouches.trans (if_pos hp)), fun ha hpolicy => ?wrongPolicy,
      fun ha hpolicy hi hw hf _ hsome hmissing htarget => ?taken⟩
    all_goals rw [if_neg (by rw [ha]; decide)] at htouches
    case wrongPolicy => exact hrefuses (htouches.trans (if_pos hpolicy))
    case taken =>
      have hawaited : Awaited c s := ⟨hmissing, fun g x ⟨d, hd⟩ => htarget g x d hd⟩
      obtain ⟨⟨g, o⟩, hg, rfl : o = .none⟩ := hsome
      obtain ⟨hfold, hcompleted, hfalling⟩ := hawaited.completes hmem hn ha hi hw hf ⟨g, hg⟩
      refine ⟨confirmCue c s, answers_of_serve (fun _ => rfl) hc (.inr rfl) hreads
        (htouches.trans (if_neg (not_not.2 hpolicy))), ?only, hcompleted, hfalling, fun g sl => ?routes⟩
      case only =>
        rw [hfold]
        exact foldl_switching _ _ (fun t g => confirmRoute_only t _ _ g) _
      case routes =>
        rw [hfold, foldl_confirmRoute_route]
        constructor
        · rintro ⟨rfl, hm⟩
          obtain ⟨hg, hawaits⟩ := (hawaited.missing g).1 hm
          rw [if_pos ⟨rfl, hg⟩]
          exact ⟨State.confirms_fit hawaits, fun v hv => State.confirms_unfit (hv ▸ hawaits)⟩
        · intro hm
          by_cases hreached : sl = c.slot ∧ c.mask.getLsbD g = true
          · obtain ⟨rfl, hg⟩ := hreached
            rw [if_pos ⟨rfl, hg⟩]
            exact (State.confirms_other (g := g) (hawaited.given hg fun h => hm ⟨rfl, h⟩)).1
          · exact if_neg hreached

end Sys2Proof.Machine
end

section
/-!
PROOFS. The routes stay consistent: a route that has settled carries its intended source, and one that waits is not held
(7.1, R118, R120, R130).
-/
namespace Sys2Proof.Machine

variable {s t : State} {r new : Route} {g : RegionId} {sl : SlotId} {v : VariantId} {p : PortId} {a : Arrived}
  {c : ComponentId} {k : Component}

/-! ## One route -/

/-- A route that waits on no cue and no take is consistent where it is not STEADY or carries its intended source. -/
theorem Route.ok_of_unawaited (hc : r.state = .steady → r.current = r.intended.source) (hw : r.waiter = none) : r.ok :=
  ⟨hc, fun h => absurd hw h⟩

/-- A route that is not STEADY is consistent where it is not held. -/
theorem Route.ok_of_unheld (hst : r.state ≠ .steady) (hh : r.hold = false) : r.ok := ⟨fun h => absurd h hst, fun _ => hh⟩

theorem Route.ok_switchTo (r : Route) (x : Target) : (r.switchTo x).ok := ok_of_unawaited (fun _ => rfl) rfl

theorem Route.ok_fallBack (r : Route) (v : VariantId) (src : Source) : (r.fallBack v src).ok :=
  ok_of_unawaited (fun h => nomatch h) rfl

/-- The hold flag is free on a route that waits on no cue and no take. -/
theorem Route.ok.withHold (h : r.ok) (hw : r.waiter = none) (b : Bool) : { r with hold := b }.ok := ok_of_unawaited h.1 hw

theorem Route.ok.freed (h : r.ok) : { r with hold := false }.ok := ⟨h.1, fun _ => rfl⟩

theorem State.returning_ok (s : State) (v : VariantId) (r : Route) : (s.returning v r).ok := by
  unfold State.returning
  split
  · exact r.ok_switchTo _
  · exact Route.ok_of_unawaited (fun h => nomatch h) rfl

theorem State.returning_waiter (s : State) (v : VariantId) (r : Route) : (s.returning v r).waiter = none := by
  unfold State.returning
  split <;> rfl

/-- A route that abandons its wait has settled on its current source, or on its way back to its intended one (R120). -/
theorem State.abandon_ok (s : State) (r : Route) : (s.abandon r).ok := by
  unfold State.abandon
  split
  · next h => exact Route.ok_of_unawaited (fun _ => h) rfl
  · next h => exact Route.ok_of_unawaited (fun _ => h) rfl
  · split
    · split
      · exact s.returning_ok _ _
      · exact Route.ok_of_unawaited (fun h => nomatch h) rfl
    · exact Route.ok_of_unawaited (fun h => nomatch h) rfl

theorem State.abandon_waiter (s : State) (r : Route) : (s.abandon r).waiter = none := by
  unfold State.abandon
  split
  · rfl
  · rfl
  · split
    · split
      · exact s.returning_waiter _ _
      · rfl
    · rfl

/-- A cue or take that is decided on leaves the route switched, fallen back, or waiting unheld (R122). -/
theorem State.decideRoute_ok (s : State) {r : Route} (a : Ask) (hh : r.hold = false) : (s.decideRoute r a).1.ok := by
  unfold State.decideRoute
  split
  · exact r.ok_fallBack _ _
  · split
    · exact r.ok_switchTo _
    · split
      · exact r.ok_switchTo _
      · exact Route.ok_of_unheld (fun h => nomatch h) hh
    · exact Route.ok_of_unheld (fun h => nomatch h) hh

theorem State.reachRoute_ok (s : State) (a : Ask) (h : r.ok) : (s.reachRoute r a).1.ok := by
  unfold State.reachRoute
  split
  · exact h
  · next hheld =>
    split
    · next hcur => exact Route.ok_of_unawaited (fun _ => hcur) rfl
    · split
      · exact h
      · exact s.decideRoute_ok a (by simpa using hheld)

/-! ## The shared operations of the schedule and the routes -/

theorem State.routesOk.of_routes (hs : s.routesOk) (h : t.routes = s.routes) : t.routesOk := by
  intro g sl
  have hroute : t.route g sl = s.route g sl := by simp only [State.route, h]
  exact hroute ▸ hs g sl

theorem commitRoute_routesOk {cause : RouteCause} {given earlier : Option Given} (hs : s.routesOk) (hnew : new.ok) :
    (commitRoute g sl new cause given earlier s).routesOk := by
  intro h y
  rw [commitRoute_route]
  split
  · exact hnew
  · exact hs h y

theorem foldl_routesOk {α : Type} {f : State → α → State} (h : ∀ t x, t.routesOk → (f t x).routesOk) (l : List α)
    (hs : s.routesOk) : (l.foldl f s).routesOk :=
  List.foldlRecOn l f (motive := State.routesOk) hs fun t ht x _ => h t x ht

theorem reach_routesOk (x : Ask) (hs : s.routesOk) : (reach g sl x s).routesOk :=
  commitRoute_routesOk hs (s.reachRoute_ok x (hs g sl))

theorem handOver_routesOk (x : Cue) (hs : s.routesOk) : (handOver x s).routesOk :=
  foldl_routesOk (fun _ _ ht => reach_routesOk x.ask ht) _ (hs.of_routes rfl)

theorem measureCue_routesOk (x : Cue) (hs : s.routesOk) : (measureCue x s).routesOk := by
  unfold measureCue
  split
  · dsimp only
    split
    · exact hs
    · split
      · exact handOver_routesOk x hs
      · exact hs.of_routes (expireCue_routes _ _ _)
  · exact hs

theorem settleCues_routesOk (n : Nat) (hs : s.routesOk) : (settleCues n s).routesOk := by
  induction n generalizing s with
  | zero => exact hs.of_routes rfl
  | succ n ih =>
    unfold settleCues
    split
    · exact hs.of_routes rfl
    · exact ih (measureCue_routesOk _ (hs.of_routes rfl))

theorem settle_routesOk (hs : s.routesOk) : (settle s).routesOk := settleCues_routesOk _ hs

theorem fallNow_routesOk (id : Nat) (hs : s.routesOk) : (fallNow id s).routesOk := settle_routesOk (hs.of_routes rfl)

/-! ## Events on one route -/

theorem markRoute_routesOk (x : Target) (hs : s.routesOk) : (markRoute sl x s g).routesOk := by
  unfold markRoute
  dsimp only
  split
  · split
    · exact commitRoute_routesOk hs (Route.ok_switchTo _ _)
    · exact hs
  · split
    · exact commitRoute_routesOk hs (Route.ok_switchTo _ _)
    · exact hs
  all_goals exact hs

theorem takeMark_routesOk (x : Target) (hs : s.routesOk) : (takeMark sl x s).routesOk :=
  foldl_routesOk (fun _ _ ht => markRoute_routesOk x ht) _ hs

theorem expireRoute_routesOk (hs : s.routesOk) : (expireRoute g sl s).routesOk := by
  unfold expireRoute
  dsimp only
  split
  · exact (commitRoute_routesOk hs (Route.ok_switchTo _ _)).of_routes (raiseEvent_routes _ _ _)
  · exact commitRoute_routesOk hs (s.abandon_ok _)
  · exact (commitRoute_routesOk hs (Route.ok_switchTo _ _)).of_routes (raiseEvent_routes _ _ _)
  all_goals exact hs

theorem confirmRoute_routesOk (id : Nat) (hs : s.routesOk) : (confirmRoute id sl s g).routesOk := by
  unfold confirmRoute
  dsimp only
  split
  · split
    · split
      · exact commitRoute_routesOk hs (Route.ok_fallBack _ _ _)
      · exact commitRoute_routesOk hs (Route.ok_switchTo _ _)
    · exact hs
  all_goals exact hs

theorem cancelRoute_routesOk (id : Nat) (hs : s.routesOk) : (cancelRoute id sl s g).routesOk := by
  unfold cancelRoute
  dsimp only
  split
  · exact commitRoute_routesOk hs (s.abandon_ok _)
  · exact hs

/-- A hold leaves no route waiting on a cue or a take (R130). -/
theorem holdRoute_routesOk (hs : s.routesOk) : (holdRoute sl s g).routesOk := by
  unfold holdRoute
  dsimp only
  split
  · exact commitRoute_routesOk hs ((s.abandon_ok _).withHold (s.abandon_waiter _) true)
  · next hw => exact commitRoute_routesOk hs ((hs g sl).withHold hw true)

theorem freeRoute_routesOk (hs : s.routesOk) : (freeRoute sl s g).routesOk := commitRoute_routesOk hs (hs g sl).freed

/-! ## Health changes (R127, R128) -/

theorem starveRoute_routesOk (x : RegionId × SlotId) (hs : s.routesOk) : (starveRoute v s x).routesOk := by
  unfold starveRoute
  dsimp only
  split
  · split
    · exact commitRoute_routesOk hs (Route.ok_fallBack _ _ _)
    · exact hs
  · split
    · exact commitRoute_routesOk hs (Route.ok_fallBack _ _ _)
    · split
      · exact commitRoute_routesOk hs (Route.ok_switchTo _ _)
      · exact hs
  · next hst =>
    split
    · refine commitRoute_routesOk hs ⟨fun h => ?_, (hs x.1 x.2).2⟩
      exact nomatch hst.symm.trans h
    · exact hs
  · exact hs
  · split
    · exact commitRoute_routesOk hs (Route.ok_of_unawaited (fun h => nomatch h) rfl)
    · exact hs

theorem starve_routesOk (cause : HealthCause) (hs : s.routesOk) : (starve v cause s).routesOk := by
  unfold starve
  split
  · exact hs
  · split
    · exact hs
    · refine foldl_routesOk (fun _ x ht => starveRoute_routesOk x ht) _ (hs.of_routes ?_)
      unfold notifyHealth
      split <;> simp

theorem healthyRoute_routesOk (x : RegionId × SlotId) (hs : s.routesOk) : (healthyRoute v s x).routesOk := by
  unfold healthyRoute
  dsimp only
  split
  · split
    · exact commitRoute_routesOk hs (s.returning_ok _ _)
    · exact hs
  all_goals exact hs

theorem becomeHealthy_routesOk (d : VariantDef) (x : Option Deadline) (cause : HealthCause) (hs : s.routesOk) :
    (becomeHealthy v d x cause s).routesOk :=
  foldl_routesOk (fun _ x ht => healthyRoute_routesOk x ht) _ (hs.of_routes rfl)

theorem anchorArrival_routesOk (err : Bool) (hs : s.routesOk) : (anchorArrival v err s).routesOk := by
  unfold anchorArrival
  split
  · exact hs
  · dsimp only
    split
    · split
      · exact hs
      · split
        · exact becomeHealthy_routesOk _ _ _ hs
        · exact hs.of_routes (notifyMgmt_routes _ _)
    all_goals exact hs.of_routes rfl

theorem starvationExpires_routesOk (hs : s.routesOk) : (starvationExpires v s).routesOk := by
  unfold starvationExpires
  split
  · exact settle_routesOk (starve_routesOk _ hs)
  · exact hs

theorem recoveryExpires_routesOk (hs : s.routesOk) : (recoveryExpires v s).routesOk := by
  unfold recoveryExpires
  split
  · exact hs
  · split
    · exact settle_routesOk (becomeHealthy_routesOk _ _ _ hs)
    · exact hs

theorem portLost_routesOk (cause : HealthCause) (hs : s.routesOk) : (portLost p cause s).routesOk := by
  refine foldl_routesOk (fun t v ht => ?_) _ hs
  split
  · exact starve_routesOk cause ht
  · exact ht

end Sys2Proof.Machine
end

section
/-!
PROOFS. What leaves the routes alone: the links, the bytes of the ports, the feeds, the tables, the carousels and the
regions.
-/
namespace Sys2Proof.Machine

variable {s t : State}

/-! ## The links leave the routes alone -/

theorem foldl_routes {α : Type} {f : State → α → State} (h : ∀ t x, (f t x).routes = t.routes) (l : List α) (s : State) :
    (l.foldl f s).routes = s.routes :=
  List.foldlRecOn l f (motive := fun t => t.routes = s.routes) rfl fun t ht x _ => (h t x).trans ht

@[simp] theorem notifyPort_routes (p : PortId) : (notifyPort p s).routes = s.routes := rfl

@[simp] theorem addReply_routes (l : Link) (f : Frame) (body : List Byte) : (addReply l f body s).routes = s.routes := by
  simp [addReply]

@[simp] theorem refuse_routes (l : Link) (f : Frame) (r : Result) (refs : List ObjRef) :
    (refuse l f r refs s).routes = s.routes := by
  simp [refuse]

theorem acceptItem_routes (l : Link) (x : RxItem) : (acceptItem l s x).routes = s.routes := by
  cases x with
  | discarded => rfl
  | good f =>
    change (acceptFrame l f s).routes = s.routes
    unfold acceptFrame
    split
    · simp
    · split <;> simp

@[simp] theorem closeGap_routes (l : Link) : (closeGap l s).routes = s.routes := by
  unfold closeGap
  split <;> simp

theorem receiveByte_routes (l : Link) (b : Byte) : (receiveByte l b s).routes = s.routes := by
  simp [receiveByte, foldl_routes fun t x => acceptItem_routes (s := t) l x]

theorem beginSend_routes (l : Link) : (beginSend l s).routes = s.routes := by
  unfold beginSend
  dsimp only
  split
  · rfl
  · split
    · simp
    · split <;> simp

theorem refuseUnsupported_routes (l : Link) : (refuseUnsupported l s).routes = s.routes := by
  unfold refuseUnsupported
  split
  · rfl
  · next h =>
    split
    · rfl
    · obtain ⟨k, rfl⟩ := takeRequest_some h
      simp

/-! ## The ports and the feeds leave the routes alone -/

@[simp] theorem clearLastSeen_routes (p : PortId) : (clearLastSeen p s).routes = s.routes := rfl

@[simp] theorem raiseFlag_routes (p : PortId) (f : PortFlags → PortFlags) : (raiseFlag p f s).routes = s.routes := by
  unfold raiseFlag
  dsimp only
  split <;> simp

theorem offerFifo_routes (p : PortId) (q : Packet) : (offerFifo p q s).routes = s.routes := by
  unfold offerFifo
  dsimp only
  split <;> simp

theorem gatherByte_routes (p : PortId) (bad left : Nat) (q : Option Packet) (b : Byte) :
    (gatherByte p bad left q b s).routes = s.routes := by
  unfold gatherByte
  dsimp only
  split
  · split
    · simp [offerFifo_routes]
    · simp
  · simp

theorem verifySync_routes (p : PortId) (good : Nat) (b : Byte) : (verifySync p good b s).routes = s.routes := by
  unfold verifySync
  split
  · split <;> simp
  · simp

theorem bindFeed_routes (fd : FeedId) (x : Option RegionId) : (bindFeed fd x s).routes = s.routes := by
  unfold bindFeed
  split <;> simp

theorem idleFeed_routes (fd : FeedId) : (idleFeed fd s).routes = s.routes := by
  unfold idleFeed
  split <;> simp

theorem clockWrap_routes : (clockWrap s).routes = s.routes := by
  unfold clockWrap
  split <;> rfl

/-! ## The tables leave the routes alone -/

theorem rewriteAll_routes (own : RegEntry → Bool) (want : RegionId → List Registration) :
    (rewriteAll own want s).routes = s.routes := (congrArg State.routes (rewriteAll_only own want s) :)

theorem writeSlot_routes (sl : SlotId) (d : SlotDef) : (writeSlot sl d s).routes = s.routes :=
  (congrArg State.routes (writeSlot_only sl d s) :)

theorem writeVariant_routes (v : VariantId) (d : VariantDef) : (writeVariant v d s).routes = s.routes :=
  (congrArg State.routes (writeVariant_only v d s) :)

/-! ## The carousels and the regions leave the routes alone -/

@[simp] theorem registerLive_routes (k : CarouselId) (l : List Packet) (g : Option RegionId) :
    (registerLive k l g s).routes = s.routes := by
  unfold registerLive
  split <;> simp

@[simp] theorem swapEffect_routes (k : CarouselId) : (swapEffect k s).routes = s.routes := by simp [swapEffect]

@[simp] theorem settleSwap_routes (k : CarouselId) : (settleSwap k s).routes = s.routes := by
  unfold settleSwap
  split <;> simp

@[simp] theorem endCycle_routes (k : CarouselId) : (endCycle k s).routes = s.routes := by simp [endCycle]

theorem finishCycle_routes (k : CarouselId) : (finishCycle k s).routes = s.routes := by
  unfold finishCycle
  dsimp only
  split
  · simp
  · split <;> simp

theorem advanceCursor_routes (k : CarouselId) : (advanceCursor k s).routes = s.routes := by
  unfold advanceCursor
  dsimp only
  split
  · rfl
  · split
    · simp
    · exact finishCycle_routes k

theorem intervalReached_routes (k : CarouselId) : (intervalReached k s).routes = s.routes := by
  unfold intervalReached
  dsimp only
  split
  · split <;> simp
  · rfl

theorem takeSwap_routes (k : CarouselId) : (takeSwap k s).routes = s.routes := by
  unfold takeSwap
  split <;> simp

@[simp] theorem releaseAll_routes (es : List QEntry) : (releaseAll es s).routes = s.routes := rfl

@[simp] theorem discardLate_routes (g : RegionId) (now : Clock) : (discardLate g now s).routes = s.routes := by
  simp [discardLate, foldl_routes fun t (_ : QEntry) => raiseEvent_routes t _ _]

@[simp] theorem beginChoice_routes (g : RegionId) (now : Clock) (x : Choice) :
    (beginChoice g now s x).2.routes = s.routes := by
  cases x <;> simp [beginChoice, advanceCursor_routes]

theorem slotInstant_routes (g : RegionId) : (slotInstant g s).routes = s.routes := by
  unfold slotInstant
  split
  · dsimp only
    split <;> simp [sendPacket]
  · rfl

theorem startRegion_routes (g : RegionId) : (startRegion g s).routes = s.routes := slotInstant_routes g

theorem stopRegion_routes (g : RegionId) : (stopRegion g s).routes = s.routes := by
  unfold stopRegion
  refine (foldl_routes (fun t k => ?_) _ _).trans rfl
  split <;> simp

end Sys2Proof.Machine
end

section
/-!
PROOFS. What the requests leave of the routes: those of the schedule, of the routes, of the ports and of time keep them
consistent, and the others leave them alone.
-/
namespace Sys2Proof.Machine

variable {s t : State} {p : PortId} {a : Arrived} {c : ComponentId} {k : Component} {g : RegionId} {sl : SlotId}

/-! ## The ports -/

theorem loseSync_routesOk (hs : s.routesOk) : (loseSync p s).routesOk := by
  refine settle_routesOk (State.routesOk.of_routes (portLost_routesOk _ (hs.of_routes ?_)) (notifyPort_routes p))
  simp

theorem lineByte_routesOk (b : Byte) (hs : s.routesOk) : (lineByte p b s).routesOk := by
  unfold lineByte
  split
  · exact hs
  · split
    · exact hs.of_routes (State.setPort_routes _ _ _)
    · exact hs
  · exact hs.of_routes (verifySync_routes _ _ _)
  · exact hs.of_routes (State.setPort_routes _ _ _)
  · unfold lockedSync
    split
    · exact hs.of_routes (State.setPort_routes _ _ _)
    · split
      · exact hs.of_routes (State.setPort_routes _ _ _)
      · exact loseSync_routesOk hs
  · exact hs.of_routes (gatherByte_routes _ _ _ _ _)

theorem stopPort_routesOk (hs : s.routesOk) : (stopPort p s).routesOk := by
  unfold stopPort
  dsimp only
  refine settle_routesOk ?_
  have hlost : ∀ x : Port, (if (s.port p).isLocked then portLost p .portLost (clearLastSeen p (s.setPort p x))
      else s.setPort p x).routesOk := fun x => by
    split
    · exact portLost_routesOk _ (hs.of_routes rfl)
    · exact hs.of_routes rfl
  split
  · exact hlost _
  · exact (hlost _).of_routes (notifyPort_routes p)

theorem configPort_routesOk (x : PortConfig) (hs : s.routesOk) : (configPort x s).routesOk := by
  unfold configPort
  dsimp only
  split
  · exact hs.of_routes rfl
  · refine settle_routesOk (State.routesOk.of_routes ?_ (notifyPort_routes _))
    split
    · exact portLost_routesOk _ (hs.of_routes rfl)
    · exact hs.of_routes rfl

/-! ## The handling of a packet (R42) -/

/-- The copies take the mark-pending flags of the routes, and nothing else of them. -/
theorem State.routesOk.of_queuesAndMarks (hs : s.routesOk) (h : QueuesAndMarks s t) : t.routesOk := by
  intro g sl
  rw [h.2 g sl]
  exact hs g sl

theorem reported_routesOk (hs : s.routesOk) : (reported p a c k s).routesOk := by
  have harrived : (reportArrival k.binding a.packet (metered p a c k s)).routesOk := by
    unfold reportArrival
    split
    · exact anchorArrival_routesOk _ (hs.of_routes metered_checks.routes)
    · exact hs.of_routes metered_checks.routes
  unfold reported reportMark
  split
  · split
    · exact takeMark_routesOk _ harrived
    · exact harrived
  · exact harrived

theorem handleMatched_routesOk (hs : s.routesOk) : (handleMatched p a c k s).routesOk := by
  by_cases hpass : s.passesMeter k a
  · rw [handleMatched_passes hpass]
    exact (reported_routesOk hs).of_queuesAndMarks (placeCopies_queues _ _ _ _ _)
  · rw [handleMatched_fails hpass]
    exact hs.of_routes metered_checks.routes

theorem applyPolicy_routesOk (pol : Policy) (why : CapReason) (hs : s.routesOk) : (applyPolicy pol why p a s).routesOk := by
  cases pol with
  | discard => exact hs
  | capture => exact hs.of_queuesAndMarks (placeCopies_queues _ _ _ _ _)

theorem handlePacket_routesOk (hs : s.routesOk) : (handlePacket p a s).routesOk := by
  unfold handlePacket
  split
  · split
    · exact hs
    · exact applyPolicy_routesOk _ _ hs
  · split
    · exact hs
    · split
      · exact applyPolicy_routesOk _ _ hs
      · exact handleMatched_routesOk hs

theorem takePacket_routesOk (hs : s.routesOk) : (takePacket s).routesOk := by
  unfold takePacket
  split
  · exact hs
  · split
    · exact hs
    · exact settle_routesOk (handlePacket_routesOk (hs.of_routes rfl))

/-! ## The requests of the schedule and of the routes, of the ports and of time -/

theorem cueDue_routesOk (hs : s.routesOk) : (cueDue s).routesOk := by
  unfold cueDue
  split
  · exact fallNow_routesOk _ hs
  · exact hs

theorem addCue_routesOk (x : CueAdd) (late : Nat) (hs : s.routesOk) : (addCue x late s).Leaves State.routesOk := by
  have hentered : ∀ y : Cue, (enterCue y s).routesOk := fun y => hs.of_routes (enterCue_routes s y)
  unfold addCue
  split
  · exact hentered _
  · split
    · exact fallNow_routesOk _ (hentered _)
    · exact hentered _

theorem doCueAdd_routesOk (x : CueAdd) (s : State) (hs : s.routesOk) : (doCueAdd x s).Leaves State.routesOk := by
  unfold doCueAdd
  split
  · trivial
  · refine .unless (.unless (.unless ?_))
    split
    · trivial
    · exact .unless (addCue_routesOk x _ hs)

theorem cancelCue_routesOk (x : Cue) (hs : s.routesOk) : (cancelCue x s).routesOk := by
  refine State.routesOk.of_routes ?_ (notifyBoth_routes _ _)
  split
  · exact hs.of_routes rfl
  · exact foldl_routesOk (fun _ _ ht => cancelRoute_routesOk _ ht) _ (hs.of_routes rfl)

theorem doCueCancel_routesOk (x : Nat × Nat) (s : State) (hs : s.routesOk) : (doCueCancel x s).Leaves State.routesOk := by
  unfold doCueCancel
  split
  · trivial
  · split
    · trivial
    · exact cancelCue_routesOk _ hs

theorem doCueConfirm_routesOk (x : Nat × Nat) (s : State) (hs : s.routesOk) : (doCueConfirm x s).Leaves State.routesOk := by
  unfold doCueConfirm
  split
  · trivial
  · split
    · trivial
    · exact .unless (.unless (settle_routesOk (foldl_routesOk (fun _ _ ht => confirmRoute_routesOk _ ht) _ hs)))

theorem doCueList_routesOk (x : CueSelect) (s : State) (hs : s.routesOk) : (doCueList x s).Leaves State.routesOk := by
  unfold doCueList
  split
  · split
    · exact hs
    · trivial
  · exact hs

theorem routeExpires_routesOk (hs : s.routesOk) : (routeExpires g sl s).routesOk := by
  unfold routeExpires
  split
  · exact settle_routesOk (expireRoute_routesOk hs)
  · exact hs

theorem doRouteTake_routesOk (x : RouteTake) (s : State) (hs : s.routesOk) : (doRouteTake x s).Leaves State.routesOk := by
  refine .unless ?_
  split
  · trivial
  · exact settle_routesOk (foldl_routesOk (fun _ _ ht => reach_routesOk x.ask ht) _ hs)

theorem doRouteHold_routesOk (x : RouteMask) (s : State) (hs : s.routesOk) : (doRouteHold x s).Leaves State.routesOk := by
  unfold doRouteHold
  split
  · trivial
  · exact settle_routesOk (foldl_routesOk (fun _ _ ht => holdRoute_routesOk ht) _ hs)

theorem doRouteFree_routesOk (x : RouteMask) (s : State) (hs : s.routesOk) : (doRouteFree x s).Leaves State.routesOk := by
  unfold doRouteFree
  split
  · trivial
  · exact foldl_routesOk (fun _ _ ht => freeRoute_routesOk ht) _ hs

theorem doRouteRead_routesOk (x : RegionId × Option SlotId) (s : State) (hs : s.routesOk) :
    (doRouteRead x s).Leaves State.routesOk := by
  unfold doRouteRead
  split <;> exact hs

theorem doTimeSet_routesOk (n : Nat) (s : State) (hs : s.routesOk) : (doTimeSet n s).Leaves State.routesOk :=
  settle_routesOk (hs.of_routes rfl)

theorem doPortStop_routesOk (p : PortId) (s : State) (hs : s.routesOk) : (doPortStop p s).Leaves State.routesOk :=
  stopPort_routesOk hs

theorem doPortConfig_routesOk (x : PortConfig) (s : State) (hs : s.routesOk) : (doPortConfig x s).Leaves State.routesOk :=
  configPort_routesOk x hs

/-! ## Requests that leave the routes as they are -/

/-- Two states hold the same routes. -/
def SameRoutes (s t : State) : Prop := t.routes = s.routes

theorem doReportSet_routes (x : Link × Byte) (s : State) : (doReportSet x s).Leaves (SameRoutes s) :=
  State.setLink_routes _ _ _

theorem doPortStart_routes (p : PortId) (s : State) : (doPortStart p s).Leaves (SameRoutes s) := by
  unfold doPortStart
  split <;> exact (rfl : s.routes = s.routes)

theorem doFeedBind_routes (x : FeedId × Option RegionId) (s : State) : (doFeedBind x s).Leaves (SameRoutes s) :=
  bindFeed_routes _ _

theorem doComponentWrite_routes (x : ComponentId × Component) (s : State) :
    (doComponentWrite x s).Leaves (SameRoutes s) := by
  refine .unless (.unless (.unless (.unless (.unless ?_))))
  split
  · trivial
  · exact rewriteAll_routes _ _

theorem doComponentClear_routes (c : ComponentId) (s : State) : (doComponentClear c s).Leaves (SameRoutes s) :=
  .unless (rewriteAll_routes (s := s.setComponent c none) _ _)

theorem doSlotWrite_routes (x : SlotId × SlotDef) (s : State) : (doSlotWrite x s).Leaves (SameRoutes s) := by
  refine .unless ?_
  split
  · trivial
  · split
    · trivial
    · exact writeSlot_routes _ _

theorem doSlotClear_routes (sl : SlotId) (s : State) : (doSlotClear sl s).Leaves (SameRoutes s) := by
  unfold doSlotClear
  split
  · trivial
  · exact rewriteAll_routes _ _

theorem doVariantWrite_routes (x : VariantId × VariantDef) (s : State) : (doVariantWrite x s).Leaves (SameRoutes s) :=
  .unless (.unless (.unless (.unless (writeVariant_routes (s := s) x.1 x.2))))

theorem doVariantClear_routes (v : VariantId) (s : State) : (doVariantClear v s).Leaves (SameRoutes s) :=
  .unless (P := SameRoutes s) rfl

theorem setClaims_routes (o : Option Nat) (l : List RegionId) (s : State) :
    (l.foldl (fun t g => t.setClaim g o) s).routes = s.routes :=
  foldl_routes (fun t _ => State.setClaim_routes t _ _) l s

theorem doClaim_routes (x : RegionMask × Nat) (s : State) : (doClaim x s).Leaves (SameRoutes s) := by
  unfold doClaim
  split
  · trivial
  · exact setClaims_routes _ _ _

theorem doUnclaim_routes (x : RegionMask × Nat) (s : State) : (doUnclaim x s).Leaves (SameRoutes s) :=
  setClaims_routes _ _ _

theorem doClaimBreak_routes (x : RegionMask) (s : State) : (doClaimBreak x s).Leaves (SameRoutes s) :=
  setClaims_routes _ _ _

theorem doRegionStart_routes (g : RegionId) (s : State) : (doRegionStart g s).Leaves (SameRoutes s) := by
  unfold doRegionStart
  split
  · exact (rfl : s.routes = s.routes)
  · exact startRegion_routes g

theorem doRegionStop_routes (g : RegionId) (s : State) : (doRegionStop g s).Leaves (SameRoutes s) := by
  unfold doRegionStop
  split
  · exact (rfl : s.routes = s.routes)
  · exact stopRegion_routes g

theorem doRegionRead_routes (x : RegionId × Option Ident) (s : State) : (doRegionRead x s).Leaves (SameRoutes s) := by
  unfold doRegionRead
  split <;> exact (rfl : s.routes = s.routes)

theorem doCarouselConfig_routes (x : CarouselConfig) (s : State) : (doCarouselConfig x s).Leaves (SameRoutes s) := by
  unfold doCarouselConfig
  dsimp only
  split
  · exact (rfl : s.routes = s.routes)
  · refine .unless ?_
    split
    · trivial
    · exact registerLive_routes _ _ _

theorem doCarouselAppend_routes (x : CarouselAppend) (s : State) : (doCarouselAppend x s).Leaves (SameRoutes s) :=
  .unless (.unless (P := SameRoutes s) rfl)

theorem doCarouselSwap_routes (k : CarouselId) (s : State) : (doCarouselSwap k s).Leaves (SameRoutes s) := by
  unfold doCarouselSwap
  dsimp only
  split
  · trivial
  · refine .unless (.unless ?_)
    split
    · trivial
    · exact takeSwap_routes k

theorem doCarouselStart_routes (k : CarouselId) (s : State) : (doCarouselStart k s).Leaves (SameRoutes s) := by
  unfold doCarouselStart
  dsimp only
  split
  · trivial
  · refine .unless ?_
    split <;> exact (rfl : s.routes = s.routes)

theorem doCarouselStop_routes (k : CarouselId) (s : State) : (doCarouselStop k s).Leaves (SameRoutes s) := by
  change (if (s.carousel k).state = .idle then s else stopCarousel k s).routes = s.routes
  split
  · rfl
  · exact endCycle_routes k

theorem doCarouselClear_routes (k : CarouselId) (s : State) : (doCarouselClear k s).Leaves (SameRoutes s) :=
  .unless (registerLive_routes k [] _)

theorem doMeterWrite_routes (x : MeterWrite) (s : State) : (doMeterWrite x s).Leaves (SameRoutes s) :=
  State.setMeter_routes s _ _

theorem doMeterRead_routes (x : MeterId × Bool) (s : State) : (doMeterRead x s).Leaves (SameRoutes s) := by
  change (if x.2 then s.setMeter x.1 { s.meter x.1 with excess := false } else s).routes = s.routes
  split <;> rfl

theorem refreshMeter_routes (m : MeterId) : (refreshMeter m s).routes = s.routes := by
  unfold refreshMeter
  split
  · split <;> rfl
  · rfl

/-! ## Every command and every step -/

theorem resetPart_routesOk (cause : ResetCause) (s : State) : (resetPart cause s).routesOk := by
  intro g sl
  have hroute : (resetPart cause s).route g sl = Route.reset := by
    simp [resetPart, State.resetBy, State.route]
  rw [hroute]
  exact Route.ok_of_unawaited (fun _ => rfl) rfl

theorem frameDone_routesOk (l : Link) (hs : s.routesOk) : (frameDone l s).routesOk := by
  unfold frameDone
  split
  · exact hs
  · split
    · exact resetPart_routesOk _ _
    · exact hs.of_routes (State.setLink_routes _ _ _)

theorem resetTaken_routesOk (hs : s.routesOk) : (if s.sendsResetReply then resetPart .request s else s).routesOk := by
  split
  · exact resetPart_routesOk _ _
  · exact hs

theorem serve_routesOk {α : Type} {l : Link} {kind : Byte} {m : List Byte → Bool} {p : List Byte → Option α}
    {run : α → State → Answer} (hrun : ∀ x t, t.routesOk → (run x t).Leaves State.routesOk) (hs : s.routesOk) :
    (serve l kind m p run s).routesOk :=
  serve_keeps (P := State.routesOk) (fun t l k ht => ht.of_routes (State.setLink_routes t l k))
    (fun _ _ _ ht => ht.of_routes rfl) hrun hs

theorem serve_sameRoutes {α : Type} {l : Link} {kind : Byte} {m : List Byte → Bool} {p : List Byte → Option α}
    {run : α → State → Answer} (hrun : ∀ x t, (run x t).Leaves (SameRoutes t)) (hs : s.routesOk) :
    (serve l kind m p run s).routesOk :=
  serve_routesOk (fun x t ht => (hrun x t).mono fun _ h => ht.of_routes h) hs

/-- Every command completes, and keeps the routes consistent. -/
theorem exec_routesOk (i : Instr) (hs : s.routesOk) : ∃ t, exec i s = .next t ∧ t.routesOk := by
  cases i with
  | powerOnReset => exact ⟨_, rfl, resetPart_routesOk _ s⟩
  | resetTakesEffect => exact ⟨_, rfl, resetTaken_routesOk hs⟩
  | linkByteReceived l b => exact ⟨_, rfl, hs.of_routes (receiveByte_routes l b)⟩
  | frameGapTimeout l => exact ⟨_, rfl, hs.of_routes (closeGap_routes l)⟩
  | frameSendBegin l => exact ⟨_, rfl, hs.of_routes (beginSend_routes l)⟩
  | frameSent l => exact ⟨_, rfl, frameDone_routesOk l hs⟩
  | unsupportedKind l => exact ⟨_, rfl, hs.of_routes (refuseUnsupported_routes l)⟩
  | identify l => exact ⟨_, rfl, serve_sameRoutes (fun _ _ => rfl) hs⟩
  | statusRead l => exact ⟨_, rfl, serve_sameRoutes (fun _ _ => rfl) hs⟩
  | statusClear l => exact ⟨_, rfl, serve_sameRoutes (fun _ _ => rfl) hs⟩
  | reportSet l => exact ⟨_, rfl, serve_sameRoutes doReportSet_routes hs⟩
  | reset l => exact ⟨_, rfl, serve_sameRoutes (fun _ _ => rfl) hs⟩
  | timeSet l => exact ⟨_, rfl, serve_routesOk doTimeSet_routesOk hs⟩
  | timeRead l => exact ⟨_, rfl, serve_sameRoutes (fun _ _ => rfl) hs⟩
  | localClockWrap => exact ⟨_, rfl, hs.of_routes clockWrap_routes⟩
  | portStart l => exact ⟨_, rfl, serve_sameRoutes doPortStart_routes hs⟩
  | portStop l => exact ⟨_, rfl, serve_routesOk doPortStop_routesOk hs⟩
  | portConfig l => exact ⟨_, rfl, serve_routesOk doPortConfig_routesOk hs⟩
  | portClear l => exact ⟨_, rfl, serve_sameRoutes (fun _ _ => rfl) hs⟩
  | portRead l => exact ⟨_, rfl, serve_sameRoutes (fun _ _ => rfl) hs⟩
  | portLineByte p b => exact ⟨_, rfl, lineByte_routesOk b hs⟩
  | classifierTake => exact ⟨_, rfl, takePacket_routesOk hs⟩
  | componentWrite l => exact ⟨_, rfl, serve_sameRoutes doComponentWrite_routes hs⟩
  | componentClear l => exact ⟨_, rfl, serve_sameRoutes doComponentClear_routes hs⟩
  | componentRead l => exact ⟨_, rfl, serve_sameRoutes (fun _ _ => rfl) hs⟩
  | meterWrite l => exact ⟨_, rfl, serve_sameRoutes doMeterWrite_routes hs⟩
  | meterRead l => exact ⟨_, rfl, serve_sameRoutes doMeterRead_routes hs⟩
  | meterIdleRefresh m => exact ⟨_, rfl, hs.of_routes (refreshMeter_routes m)⟩
  | slotWrite l => exact ⟨_, rfl, serve_sameRoutes doSlotWrite_routes hs⟩
  | slotClear l => exact ⟨_, rfl, serve_sameRoutes doSlotClear_routes hs⟩
  | slotRead l => exact ⟨_, rfl, serve_sameRoutes (fun _ _ => rfl) hs⟩
  | variantWrite l => exact ⟨_, rfl, serve_sameRoutes doVariantWrite_routes hs⟩
  | variantClear l => exact ⟨_, rfl, serve_sameRoutes doVariantClear_routes hs⟩
  | variantRead l => exact ⟨_, rfl, serve_sameRoutes (fun _ _ => rfl) hs⟩
  | starvationExpiry v => exact ⟨_, rfl, starvationExpires_routesOk hs⟩
  | recoveryExpiry v => exact ⟨_, rfl, recoveryExpires_routesOk hs⟩
  | cueAdd l => exact ⟨_, rfl, serve_routesOk doCueAdd_routesOk hs⟩
  | cueFallsDue => exact ⟨_, rfl, cueDue_routesOk hs⟩
  | cueCancel l => exact ⟨_, rfl, serve_routesOk doCueCancel_routesOk hs⟩
  | cueConfirm l => exact ⟨_, rfl, serve_routesOk doCueConfirm_routesOk hs⟩
  | cueList l => exact ⟨_, rfl, serve_routesOk doCueList_routesOk hs⟩
  | routeDeadline g sl => exact ⟨_, rfl, routeExpires_routesOk hs⟩
  | routeTake l => exact ⟨_, rfl, serve_routesOk doRouteTake_routesOk hs⟩
  | routeHold l => exact ⟨_, rfl, serve_routesOk doRouteHold_routesOk hs⟩
  | routeFree l => exact ⟨_, rfl, serve_routesOk doRouteFree_routesOk hs⟩
  | routeRead l => exact ⟨_, rfl, serve_routesOk doRouteRead_routesOk hs⟩
  | tallyBind l => exact ⟨_, rfl, serve_sameRoutes (fun _ _ => rfl) hs⟩
  | claim l => exact ⟨_, rfl, serve_sameRoutes doClaim_routes hs⟩
  | unclaim l => exact ⟨_, rfl, serve_sameRoutes doUnclaim_routes hs⟩
  | claimBreak l => exact ⟨_, rfl, serve_sameRoutes doClaimBreak_routes hs⟩
  | claimRead l => exact ⟨_, rfl, serve_sameRoutes (fun _ _ => rfl) hs⟩
  | regionConfig l => exact ⟨_, rfl, serve_sameRoutes (fun _ _ => rfl) hs⟩
  | regionStart l => exact ⟨_, rfl, serve_sameRoutes doRegionStart_routes hs⟩
  | regionStop l => exact ⟨_, rfl, serve_sameRoutes doRegionStop_routes hs⟩
  | regionRead l => exact ⟨_, rfl, serve_sameRoutes doRegionRead_routes hs⟩
  | slotInstant g => exact ⟨_, rfl, hs.of_routes (slotInstant_routes g)⟩
  | feedBind l => exact ⟨_, rfl, serve_sameRoutes doFeedBind_routes hs⟩
  | carouselConfig l => exact ⟨_, rfl, serve_sameRoutes doCarouselConfig_routes hs⟩
  | carouselAppend l => exact ⟨_, rfl, serve_sameRoutes doCarouselAppend_routes hs⟩
  | carouselSwap l => exact ⟨_, rfl, serve_sameRoutes doCarouselSwap_routes hs⟩
  | carouselStart l => exact ⟨_, rfl, serve_sameRoutes doCarouselStart_routes hs⟩
  | carouselIntervalDeadline k => exact ⟨_, rfl, hs.of_routes (intervalReached_routes k)⟩
  | carouselStop l => exact ⟨_, rfl, serve_sameRoutes doCarouselStop_routes hs⟩
  | carouselClear l => exact ⟨_, rfl, serve_sameRoutes doCarouselClear_routes hs⟩
  | carouselRead l => exact ⟨_, rfl, serve_sameRoutes (fun _ _ => rfl) hs⟩
  | captureRead l => exact ⟨_, rfl, serve_sameRoutes (fun _ _ => rfl) hs⟩
  | captureRelease l => exact ⟨_, rfl, serve_sameRoutes (fun _ _ => rfl) hs⟩
  | feedGoesIdle fd => exact ⟨_, rfl, hs.of_routes (idleFeed_routes fd)⟩

theorem exec_keeps_routesOk (i : Instr) (s t : State) (hs : s.routesOk) (h : exec i s = .next t) : t.routesOk := by
  obtain ⟨u, hu, hok⟩ := exec_routesOk i hs
  rw [hu] at h
  exact Host.Outcome.next.inj h ▸ hok

/-- Settles O59: every command keeps the routes consistent, and a tick leaves them alone. -/
theorem stepKeepsRoutesConsistent : Obligations.StepKeepsRoutesConsistent := fun _ _ hs hstep =>
  step_keeps exec_keeps_routesOk (fun _ h => h.of_routes rfl) (fun _ _ h => h.of_routes rfl)
    (fun _ _ h => h.of_routes rfl) hs hstep

end Sys2Proof.Machine
end

section
/-!
PROOFS. The claims: what CLAIM, UNCLAIM and CLAIM_BREAK make of the claimants, and the four requests as they arrive
(R136 to R140).
-/
namespace Sys2Proof.Machine

variable {s : State} {l : Link} {mask : RegionMask} {owner : Nat} {g : RegionId}

/-! ## A request that the cue link refuses -/

/-- A request whose body makes it one of the management link is refused on the cue link. -/
theorem refuses_notPermitted_of_serve {α : Type} {kind : Byte} {body : List Byte} {m : List Byte → Bool}
    {p : List Byte → Option α} {run : α → State → Answer}
    (hx : ∀ t, exec (commandOf .cue kind) t = .next (serve .cue kind m p run t)) (hc : canTake .cue s)
    (hm : m body = true) : Refuses .cue kind body s .notPermitted [] := by
  intro tag
  have hserve := serve_received s .cue { kind := kind, tag := tag, body := body } m p run hc
  rw [hx, hserve, answerRequest_notPermitted _ _ _ _ _ hm]

/-! ## The claimants -/

theorem setClaims_only (o : Option Nat) (gs : List RegionId) (s : State) :
    gs.foldl (fun t g => t.setClaim g o) s =
      { s with claims := (gs.foldl (fun t g => t.setClaim g o) s).claims } :=
  List.foldlRecOn gs _ (motive := fun t : State => t = { s with claims := t.claims }) rfl fun t ht g _ => by
    rw [ht]
    rfl

theorem setClaims_claimant (o : Option Nat) (gs : List RegionId) (s : State) (g : RegionId) :
    (gs.foldl (fun t g => t.setClaim g o) s).claimant g = if g ∈ gs then o else s.claimant g := by
  induction gs generalizing s with
  | nil => simp
  | cons h gs ih =>
    rw [List.foldl_cons, ih]
    by_cases hmem : g ∈ gs
    · simp [hmem]
    · by_cases hg : h = g
      · simp [hg]
      · rw [State.setClaim_claimant_ne _ _ _ _ hg]
        simp [hmem, Ne.symm hg]

/-- The claimants in the order of the regions. -/
theorem eClaims_eq (s : State) : eClaims s = (List.finRange 8).flatMap fun g => eOpt e1 (s.claimant g) := by
  have hlist : s.claims.toList = (List.finRange 8).map s.claimant :=
    List.ext_getElem (by simp) fun i hi hj => by simp [State.claimant]
  rw [eClaims, hlist, List.flatMap_map]

theorem mem_claimedOf : g ∈ s.claimedOf mask owner ↔ mask.getLsbD g = true ∧ s.claimant g = some owner := by
  rw [State.claimedOf, List.mem_filter, mem_regionsOf, decide_eq_true_eq]

theorem claimAll_claimant : (claimAll mask owner s).claimant g = if mask.getLsbD g then some owner else s.claimant g := by
  simp only [claimAll, setClaims_claimant, mem_regionsOf]

theorem unclaimAll_claimant (gs : List RegionId) : (unclaimAll gs s).claimant g = if g ∈ gs then none else s.claimant g :=
  setClaims_claimant _ _ _ _

/-! ## The bodies (R137 to R139) -/

theorem rClaimant_e1 (ho : owner < 256) : rClaimant (e1 owner) = if 1 ≤ owner ∧ owner ≤ 127 then some (owner, []) else none := by
  have hnum : rNat 1 (e1 owner) = some (owner, []) := by simpa using rNat_e1 owner [] ho
  simp [rClaimant, rWhen, hnum]

theorem readAll_rMask : readAll rMask [mask] = if mask = 0 then none else some mask := by
  have h := rMask_byte mask []
  rw [List.append_nil] at h
  by_cases hmask : mask = 0
  · rw [if_pos hmask] at h ⊢
    simp [readAll, h]
  · rw [if_neg hmask] at h ⊢
    exact readAll_some _ _ _ h

/-- A mask and an owner that claims read as themselves. -/
theorem readAll_claim (hmask : mask ≠ 0) (h0 : 0 < owner) (ho : owner ≤ 127) :
    readAll (rThen rMask rClaimant) ([mask] ++ e1 owner) = some (mask, owner) :=
  readAll_some _ _ _ (rThen_some _ _ _ _ _ _ _ (by rw [rMask_byte, if_neg hmask])
    (by rw [rClaimant_e1 (by omega), if_pos ⟨h0, ho⟩]))

/-- An empty mask, and an owner that may not claim, are no body of CLAIM and UNCLAIM. -/
theorem readAll_claim_none {o : Byte} (h : mask = 0 ∨ o = 0 ∨ 127 < o.toNat) :
    readAll (rThen rMask rClaimant) [mask, o] = none := by
  have hbytes : [mask, o] = [mask] ++ e1 o.toNat := by simp [e1_eq]
  have hread : rThen rMask rClaimant [mask, o] = none := by
    rw [hbytes]
    by_cases hmask : mask = 0
    · exact rThen_none_left (by rw [rMask_byte, if_pos hmask])
    · refine rThen_none (by rw [rMask_byte, if_neg hmask]) ?_
      rw [rClaimant_e1 o.isLt, if_neg]
      rintro ⟨h1, h127⟩
      rcases h with h | h | h
      · exact hmask h
      · simp [h] at h1
      · omega
  simp [readAll, hread]

/-! ## The requests -/

theorem doClaim_refused {claimant : Nat} (h : s.firstClaimed mask owner g claimant) :
    doClaim (mask, owner) s = .refused .claimed [.region g, .owner claimant] := by
  unfold doClaim
  rw [claimedBy_first h]
  rfl

theorem doClaim_ok (h : s.mayTouch mask owner) :
    doClaim (mask, owner) s = .ok (eClaims (claimAll mask owner s)) (claimAll mask owner s) := by
  unfold doClaim
  rw [claimedBy_none h]

/-- Settles O43: each request by what its fold of the regions leaves of the claimants, and the bodies that are none. -/
theorem claimsReserveRegions : Obligations.ClaimsReserveRegions := by
  refine ⟨fun l mask owner s hc hmask h0 ho => ⟨fun g claimant hfirst => ?claimed, fun htouch => ?claim, ?unclaim,
    fun hl => ?broken, ?read⟩, fun l mask o s hc hbad => ⟨?claimBody, ?unclaimBody⟩, fun s hc => ?breakBody,
    fun body s hc => ?notPermitted⟩
  case claimed =>
    exact refuses_of_serve (fun _ => rfl) hc (.inr rfl) (readAll_claim hmask h0 ho) (doClaim_refused hfirst)
  case claim =>
    refine ⟨_, answers_of_serve (fun _ => rfl) hc (.inr rfl) (readAll_claim hmask h0 ho) ?_, setClaims_only _ _ _,
      fun g => claimAll_claimant⟩
    rw [doClaim_ok htouch, eClaims_eq]
    rfl
  case unclaim =>
    refine ⟨unclaimAll (s.claimedOf mask owner) s, answers_of_serve (fun _ => rfl) hc (.inr rfl)
      (readAll_claim hmask h0 ho) ?_, setClaims_only _ _ _, fun g => ?_⟩
    · simp only [doUnclaim, eClaims_eq, State.claimedOf, regionsOf, List.filter_filter, Bool.and_comm]
    · simp only [unclaimAll_claimant, mem_claimedOf]
  case broken =>
    subst hl
    refine ⟨unclaimAll (regionsOf mask) s, answers_of_serve (fun _ => rfl) hc (.inl rfl)
      (readAll_rMask.trans (if_neg hmask)) rfl, setClaims_only _ _ _, fun g => ?_⟩
    simp only [unclaimAll_claimant, mem_regionsOf]
  case read =>
    refine answers_of_serve (a := ()) (fun _ => rfl) hc (.inr rfl) rfl ?_
    rw [doClaimRead, eClaims_eq]
  case claimBody => exact refuses_badField_of_serve (fun _ => rfl) hc (.inr rfl) (readAll_claim_none hbad)
  case unclaimBody => exact refuses_badField_of_serve (fun _ => rfl) hc (.inr rfl) (readAll_claim_none hbad)
  case breakBody => exact refuses_badField_of_serve (fun _ => rfl) hc (.inl rfl) (readAll_rMask.trans (if_pos rfl))
  case notPermitted => exact refuses_notPermitted_of_serve (fun _ => rfl) hc rfl

end Sys2Proof.Machine
end

section
/-!
PROOFS. ROUTE_READ and TALLY_BIND: the bytes of a route and of the tally lines, and the bodies of the two requests
(R132, R134, R135).
-/
namespace Sys2Proof.Machine

variable {s t : State} {g : RegionId} {sl : SlotId}

/-! ## The bytes of a route and of a tally line (R132, R134) -/

/-- A route is reported in the order of 7.1. -/
theorem eRoute_eq (s : State) (g : RegionId) (sl : SlotId) : eRoute s g sl = routeBytes s g sl := by
  unfold eRoute routeBytes
  dsimp only
  cases (s.route g sl).state <;> rfl

/-- A tally line is active exactly while the route that it is bound to carries a variant. -/
theorem tallyActive_iff {x : TallyId} :
    s.tallyActive x = true ↔ ∃ g sl v, s.tallies[x] = some (g, sl) ∧ (s.route g sl).current = .variant v := by
  unfold State.tallyActive
  cases hx : s.tallies[x] with
  | none => simp
  | some y =>
    obtain ⟨g, sl⟩ := y
    cases hcur : (s.route g sl).current with
    | national => simp [hcur]
    | variant v => exact ⟨fun _ => ⟨g, sl, v, rfl, hcur⟩, fun _ => by simp [hcur]⟩
    | blank => simp [hcur]

/-- Binding a line has no bearing on the routes, so that a line is active by the routes as they stand. -/
theorem bindTally_active_iff {tl x : TallyId} {b : Option (RegionId × SlotId)} :
    (bindTally tl b s).tallyActive x = true ↔
      ∃ g sl v, (bindTally tl b s).tallies[x] = some (g, sl) ∧ (s.route g sl).current = .variant v :=
  tallyActive_iff

/-! ## The bodies (R132, R135) -/

theorem rIndex_byte {n : Nat} {x : Byte} (h : n ≤ x.toNat) (rest : List Byte) : rIndex n (x :: rest) = none :=
  dif_neg (Nat.not_lt.2 h)

/-- An index below 256 in its byte is read where it belongs to its set. -/
theorem rIndex_cases {n : Nat} (x : Byte) (rest : List Byte) :
    (n ≤ x.toNat ∧ rIndex n (x :: rest) = none) ∨ ∃ i, rIndex n (x :: rest) = some (i, rest) := by
  by_cases h : x.toNat < n
  · exact .inr ⟨⟨x.toNat, h⟩, dif_pos h⟩
  · exact .inl ⟨Nat.not_lt.1 h, dif_neg h⟩

theorem rOpt_present {α : Type} {r : Reader α} {rest : List Byte} (h : r rest = none) : rOpt r (1 :: rest) = none := by
  simp [rOpt, h]

theorem readAll_none {α : Type} {r : Reader α} {b : List Byte} (h : r b = none) : readAll r b = none := by
  simp [readAll, h]

theorem readAll_routeRead (g : RegionId) (x : Option SlotId) :
    readAll (rThen (rIndex 8) (rOpt (rIndex 24))) (e1 g ++ eOpt (fun i : SlotId => e1 i) x) = some (g, x) :=
  readAll_some _ _ _ (rThen_some _ _ _ _ _ _ _ (rIndex_e1 g (by decide) _) (by simpa using rOpt_index (by decide) x []))

/-- A region index outside its set is no body of ROUTE_READ, whatever follows it. -/
theorem readAll_routeRead_region {x : Byte} (h : 8 ≤ x.toNat) (rest : List Byte) :
    readAll (rThen (rIndex 8) (rOpt (rIndex 24))) (x :: rest) = none :=
  readAll_none (rThen_none_left (rIndex_byte h rest))

theorem readAll_routeRead_none {x y : Byte} (h : 8 ≤ x.toNat ∨ 24 ≤ y.toNat) :
    readAll (rThen (rIndex 8) (rOpt (rIndex 24))) [x, 1, y] = none := by
  rcases rIndex_cases (n := 8) x [1, y] with ⟨hx, -⟩ | ⟨i, hread⟩
  · exact readAll_routeRead_region hx _
  · rcases h with hx | hy
    · exact readAll_routeRead_region hx _
    · exact readAll_none (rThen_none hread (rOpt_present (rIndex_byte hy [])))

theorem readAll_tallyBind (tl : TallyId) (b : Option (RegionId × SlotId)) :
    readAll (rThen (rIndex 8) (rOpt (rThen (rIndex 8) (rIndex 24))))
      (e1 tl ++ eOpt (fun x : RegionId × SlotId => e1 x.1 ++ e1 x.2) b) = some (tl, b) := by
  refine readAll_some _ _ _ (rThen_some _ _ _ _ _ _ _ (rIndex_e1 tl (by decide) _) ?_)
  cases b with
  | none => rfl
  | some x =>
    have hroute : rThen (rIndex 8) (rIndex 24) (e1 x.1 ++ e1 x.2 ++ []) = some (x, []) := by
      rw [List.append_assoc]
      exact rThen_some _ _ _ _ _ _ _ (rIndex_e1 x.1 (by decide) _) (rIndex_e1 x.2 (by decide) _)
    simpa using rOpt_some _ (fun x : RegionId × SlotId => e1 x.1 ++ e1 x.2) x [] hroute

/-- A line index outside its set is no body of TALLY_BIND, whatever follows it. -/
theorem readAll_tallyBind_line {x : Byte} (h : 8 ≤ x.toNat) (rest : List Byte) :
    readAll (rThen (rIndex 8) (rOpt (rThen (rIndex 8) (rIndex 24)))) (x :: rest) = none :=
  readAll_none (rThen_none_left (rIndex_byte h rest))

theorem readAll_tallyBind_none {x y z : Byte} (h : 8 ≤ x.toNat ∨ 8 ≤ y.toNat ∨ 24 ≤ z.toNat) :
    readAll (rThen (rIndex 8) (rOpt (rThen (rIndex 8) (rIndex 24)))) [x, 1, y, z] = none := by
  rcases rIndex_cases (n := 8) x [1, y, z] with ⟨hx, -⟩ | ⟨i, hread⟩
  · exact readAll_tallyBind_line hx _
  · refine readAll_none ?_
    rcases h with hx | h
    · exact rThen_none_left (rIndex_byte hx _)
    · refine rThen_none hread (rOpt_present ?_)
      rcases rIndex_cases (n := 8) y [z] with ⟨-, hregion⟩ | ⟨j, hregion⟩
      · exact rThen_none_left hregion
      · rcases h with hy | hz
        · exact rThen_none_left (rIndex_byte hy _)
        · exact rThen_none hregion (rIndex_byte hz _)

/-! ## The requests -/

theorem doRouteRead_route : doRouteRead (g, some sl) s = .ok (routeBytes s g sl) s := by
  rw [← eRoute_eq]
  rfl

theorem doRouteRead_region : doRouteRead (g, none) s = .ok ((List.finRange 24).flatMap fun sl => routeBytes s g sl) s := by
  simp only [← eRoute_eq]
  rfl

/-- The reply of TALLY_BIND reports each line with its binding and whether it is active. -/
theorem doTallyBind_ok {tl : TallyId} {b : Option (RegionId × SlotId)} {active : TallyId → Bool}
    (hactive : ∀ x, active x = (bindTally tl b s).tallyActive x) :
    doTallyBind (tl, b) s =
      .ok ((List.finRange 8).flatMap fun x =>
        eOpt (fun y : RegionId × SlotId => e1 y.1 ++ e1 y.2) (bindTally tl b s).tallies[x] ++ e1 (active x).toNat)
        (bindTally tl b s) := by
  simp only [hactive]
  rfl

/-- Settles O42: a read by its selector, a binding by what it makes of the lines, and the bodies that are none. -/
theorem routeReadAndTallyLines : Obligations.RouteReadAndTallyLines := by
  refine ⟨fun l g s hc => ⟨fun sl => ?route, ?region⟩, fun l g sl s hc => ⟨fun hg => ?readRegion, fun hbad => ?readRoute⟩,
    fun tl g sl s hc => ⟨fun htl => ?bindLine, fun hbad => ?bindRoute⟩, fun body s hc => ?notPermitted,
    fun tl b active s t hc ht hactive => ?bind⟩
  case route =>
    exact answers_of_serve (fun _ => rfl) hc (.inr rfl) (by simpa [eOpt] using readAll_routeRead g (some sl))
      doRouteRead_route
  case region => exact answers_of_serve (fun _ => rfl) hc (.inr rfl) (readAll_routeRead g none) doRouteRead_region
  case readRegion => exact refuses_badField_of_serve (fun _ => rfl) hc (.inr rfl) (readAll_routeRead_region hg _)
  case readRoute => exact refuses_badField_of_serve (fun _ => rfl) hc (.inr rfl) (readAll_routeRead_none hbad)
  case bindLine => exact refuses_badField_of_serve (fun _ => rfl) hc (.inl rfl) (readAll_tallyBind_line htl _)
  case bindRoute => exact refuses_badField_of_serve (fun _ => rfl) hc (.inl rfl) (readAll_tallyBind_none hbad)
  case notPermitted => exact refuses_notPermitted_of_serve (fun _ => rfl) hc rfl
  case bind =>
    subst ht
    refine answers_of_serve (fun _ => rfl) hc (.inl rfl) (readAll_tallyBind tl b) (doTallyBind_ok fun x => ?_)
    exact Bool.eq_iff_iff.2 ((hactive x).trans bindTally_active_iff.symm)

end Sys2Proof.Machine
end

section
/-!
PROOFS. Events that reach one route after another: what such a run makes of the routes, and that in the schedule it moves
what the outcomes of its routes move, route after route (R100, R118, log entry 7).
-/
namespace Sys2Proof.Machine

variable {s t u : State} {g : RegionId} {sl : SlotId} {r new : Route} {o : CueOutcome}
  {l : List (RegionId × Nat × CueOutcome)}

/-! ## An event on one route -/

/-- An event on one route: it leaves the route `new`, moves no other, and moves in the schedule what one outcome, or none,
moves. -/
structure MovesRoute (g : RegionId) (sl : SlotId) (new : Route) (told : Option (RegionId × Nat × CueOutcome))
    (s t : State) : Prop where
  only : OnlySwitching s t
  route : ∀ h y, t.route h y = if (g, sl) = (h, y) then new else s.route h y
  schedule : SameSchedule (giveAll told.toList s) t

/-- An event that passes over its route. -/
theorem MovesRoute.still : MovesRoute g sl (s.route g sl) none s s := by
  refine ⟨.refl s, fun h y => ?_, .refl s⟩
  split
  · next e => rw [(Prod.mk.inj e).1, (Prod.mk.inj e).2]
  · rfl

theorem commitRoute_moves_given {cause : RouteCause} {given : Option Given}
    {told : Option (RegionId × Nat × CueOutcome)} (h : ∀ u, giveOutcome g given u = giveAll told.toList u) (s : State) :
    MovesRoute g sl new told s (commitRoute g sl new cause given none s) := by
  refine ⟨commitRoute_only _ _ _ _ _ _ _, fun k y => ?_, ?_⟩
  · simp only [commitRoute_route, Prod.mk.injEq]
  · obtain ⟨u, hu, hgive⟩ := commitRoute_gives s g sl new cause given
    rw [hgive, h]
    exact hu.giveAll _

/-- A wait that ends gives its outcome where a cue began it. -/
theorem commitRoute_moves {cause : RouteCause} :
    MovesRoute g sl new ((s.route g sl).tells g o) s
      (commitRoute g sl new cause ((s.route g sl).waiter.map fun w => (o, w)) none s) :=
  commitRoute_moves_given (fun _ => giveOutcome_tells _) s

/-- A route that moves while it waits for nothing, or without an end of its wait, gives no outcome. -/
theorem commitRoute_moves_silent {cause : RouteCause} :
    MovesRoute g sl new none s (commitRoute g sl new cause none none s) := commitRoute_moves_given (fun _ => rfl) s

theorem Route.tells_none (h : ∀ id, r.waiter ≠ some (.cue id)) : r.tells g o = none := by
  cases hw : r.tells g o with
  | none => rfl
  | some y => exact absurd (Route.tells_cue hw) (h _)

/-! ## One route after another -/

/-- A run of events on the routes of the keys given: each leaves what `F` makes of its route, and what `T` tells of it. -/
structure MovesRoutes {α : Type} (key : α → RegionId × SlotId) (F : Route → Route)
    (T : Route → α → Option (RegionId × Nat × CueOutcome)) (l : List α) (s t : State) : Prop where
  only : OnlySwitching s t
  route : ∀ h y, t.route h y = if (h, y) ∈ l.map key then F (s.route h y) else s.route h y
  schedule : SameSchedule (giveAll (l.filterMap fun x => T (s.route (key x).1 (key x).2) x) s) t

/-- Events that each move one route by a rule that reads the clock and the variants alone make such a run, where no two are
for one route. -/
theorem foldl_movesRoutes {α : Type} {f : State → α → State} {key : α → RegionId × SlotId} {F : Route → Route}
    {T : Route → α → Option (RegionId × Nat × CueOutcome)}
    (hf : ∀ u x, OnlySwitching s u →
      MovesRoute (key x).1 (key x).2 (F (u.route (key x).1 (key x).2)) (T (u.route (key x).1 (key x).2) x) u (f u x))
    {l : List α} (hl : (l.map key).Nodup) (hu : OnlySwitching s u) : MovesRoutes key F T l u (l.foldl f u) := by
  induction l generalizing u with
  | nil => exact ⟨.refl u, fun h y => by simp, .refl u⟩
  | cons x l ih =>
    rw [List.map_cons, List.nodup_cons] at hl
    have hx := hf u x hu
    have hrest := ih hl.2 (hu.trans hx.only)
    have hother : ∀ k ∈ l.map key, (f u x).route k.1 k.2 = u.route k.1 k.2 := fun k hk => by
      rw [hx.route, if_neg]
      exact fun e : key x = k => hl.1 (e ▸ hk)
    refine ⟨hx.only.trans hrest.only, fun h y => ?_, ?_⟩
    · rw [List.foldl_cons, hrest.route]
      by_cases hmem : (h, y) ∈ l.map key
      · have hcons : (h, y) ∈ (x :: l).map key := List.mem_cons_of_mem _ hmem
        rw [if_pos hmem, if_pos hcons, hother _ hmem]
      · rw [if_neg hmem, hx.route]
        by_cases hkey : key x = (h, y)
        · rw [if_pos hkey, if_pos (by simp [hkey]), hkey]
        · rw [if_neg hkey, if_neg]
          rintro hcons
          exact (List.mem_cons.1 hcons).elim (fun e => hkey e.symm) hmem
    · have hlater : (l.filterMap fun z => T ((f u x).route (key z).1 (key z).2) z) =
          l.filterMap fun z => T (u.route (key z).1 (key z).2) z :=
        List.filterMap_congr fun z hz => by rw [hother _ (List.mem_map_of_mem hz)]
      have hcons : ((x :: l).filterMap fun z => T (u.route (key z).1 (key z).2) z) =
          (T (u.route (key x).1 (key x).2) x).toList ++ l.filterMap fun z => T (u.route (key z).1 (key z).2) z := by
        rw [List.filterMap_cons]
        cases T (u.route (key x).1 (key x).2) x <;> rfl
      rw [hcons, giveAll_append, ← hlater]
      exact (hx.schedule.giveAll _).trans hrest.schedule

/-! ## What a run leaves but routes and outcomes -/

theorem OnlySwitching.reports (h : OnlySwitching s t) (hs : SameSchedule s t) :
    OnlyReports { s with routes := t.routes } t := by
  obtain ⟨hst, hmgmt, hcue⟩ := h
  refine ⟨?_, hmgmt, hcue⟩
  rw [hs.cues, hs.insertion, hs.changes, hs.falling] at hst
  exact hst

/-- Beside the outcomes given and the routes, only reports are made. -/
theorem OnlySwitching.reports_giveAll (h : OnlySwitching s t) (hs : SameSchedule (giveAll l s) t) :
    OnlyReports { giveAll l s with routes := t.routes } t :=
  ((giveAll_only l s).of_common h (giveAll_keeps l s)).reports hs

/-- Where no DAILY cue falls due again at once, a run leaves the event no cue to deal with. -/
theorem SameSchedule.nothing_falls (hs : SameSchedule (Machine.giveAll l s) t) (hw : s.dailiesWait) (hf : s.falling = []) :
    t.falling = [] := hs.falling.trans ((giveAll_waits hw.actives l).1.trans hf)

end Sys2Proof.Machine
end

section
/-!
PROOFS. ROUTE_TAKE: the body that it reads, its refusals, and the run of its take over the routes of its mask (R121, R122,
R129).
-/
namespace Sys2Proof.Machine

variable {s : State} {g : RegionId} {sl : SlotId} {a : Ask} {x : RouteTake}

/-! ## The body of ROUTE_TAKE (R129, R200) -/

/-- The body of ROUTE_TAKE with the fields given. -/
def routeTakeBody (x : RouteTake) : List Byte :=
  [x.mask] ++ e1 x.slot ++ eTarget x.target ++ e1 x.policy.code ++ e4 x.wait ++ e1 x.owner

/-- A ROUTE_TAKE reads as the fields that it carries, where its mask and its owner are such. -/
theorem readAll_routeTake (hp : x.policy ≠ .onConfirm) (hwait : x.wait < 2 ^ 32) (howner : x.owner < 256) :
    readAll rRouteTake (routeTakeBody x) = if x.mask = 0 ∨ 127 < x.owner then none else some x := by
  have hmask := fun rest => rMask_byte x.mask rest
  have hslot := fun rest => rIndex_e1 x.slot (by decide) rest
  have htarget := fun rest => rTarget_eTarget x.target rest
  have hpolicy : ∀ rest, rEnum [SwitchPolicy.immediate, .atMark] (e1 x.policy.code ++ rest) = some (x.policy, rest) := by
    intro rest
    cases hpol : x.policy with
    | immediate => exact rEnum_e1 _ _ _ _ (by decide) rfl
    | atMark => exact rEnum_e1 _ _ _ _ (by decide) rfl
    | onConfirm => exact absurd hpol hp
  have hms := fun rest => rNat_e4 x.wait rest (by simpa using hwait)
  have howner' : rOwner (e1 x.owner) = if x.owner ≤ 127 then some (x.owner, []) else none := by
    simpa using rOwner_e1 howner []
  simp only [readAll, rRouteTake, routeTakeBody, List.append_assoc]
  by_cases hm : x.mask = 0
  · rw [rThen_none_left (by rw [hmask, if_pos hm])]
    simp [hm]
  simp only [if_neg hm] at hmask
  by_cases ho : x.owner ≤ 127
  · rw [if_pos ho] at howner'
    rw [rThen_some _ _ _ _ _ _ _ (hmask _) (rThen_some _ _ _ _ _ _ _ (hslot _) (rThen_some _ _ _ _ _ _ _ (htarget _)
      (rThen_some _ _ _ _ _ _ _ (hpolicy _) (rThen_some _ _ _ _ _ _ _ (hms _) howner'))))]
    exact (if_neg (not_or.2 ⟨hm, Nat.not_lt.2 ho⟩)).symm
  · rw [if_neg ho] at howner'
    rw [rThen_none (hmask _) (rThen_none (hslot _) (rThen_none (htarget _) (rThen_none (hpolicy _)
      (rThen_none (hms _) howner'))))]
    simp [Nat.not_le.1 ho]

/-! ## The refusals (R129, R136) -/

theorem doRouteTake_badField (h : ¬s.targetLegal x.slot x.target) : doRouteTake x s = .refused .badField [] := by
  have hbad : s.targetOk x.slot x.target = false := Bool.eq_false_iff.2 fun e => h (targetOk_iff.1 e)
  exact if_pos (by rw [hbad]; rfl)

/-- The test of the target passed. -/
theorem doRouteTake_legal (h : s.targetLegal x.slot x.target) :
    doRouteTake x s =
      match s.claimedBy x.mask x.owner with
      | some y => .refused .claimed (claimRefs y)
      | none =>
        .ok (eOpt e4 (x.policy.waitTaken x.wait) ++ eList eOutcome ((regionsOf x.mask).map fun g => (g, s.takeOutcome x g)))
          (settle (takeRoutes x s)) := if_neg (by rw [targetOk_iff.2 h]; decide)

theorem doRouteTake_claimed {claimant : Nat} (h : s.targetLegal x.slot x.target)
    (hg : s.firstClaimed x.mask x.owner g claimant) : doRouteTake x s = .refused .claimed [.region g, .owner claimant] := by
  rw [doRouteTake_legal h, claimedBy_first hg]
  rfl

theorem doRouteTake_ok (h : s.targetLegal x.slot x.target) (hg : s.mayTouch x.mask x.owner) :
    doRouteTake x s =
      .ok (eOpt e4 (x.policy.waitTaken x.wait) ++ eList eOutcome ((regionsOf x.mask).map fun g => (g, s.takeOutcome x g)))
        (settle (takeRoutes x s)) := by
  rw [doRouteTake_legal h, claimedBy_none hg]

/-! ## The take reaches its routes (R121, R122) -/

/-- The SUPERSEDED that a take brings the cue on which a route waits: a held route keeps its wait. -/
def Route.supersedeTells (r : Route) (g : RegionId) : Option (RegionId × Nat × CueOutcome) :=
  if r.hold then none else r.tells g .superseded

/-- A take's own outcome moves nothing in the schedule, so that it moves there what the SUPERSEDED of an earlier wait
moves. -/
theorem reach_moves (ha : a.waiter = .take) (s : State) (g : RegionId) (sl : SlotId) :
    MovesRoute g sl (s.reachRoute (s.route g sl) a).1 ((s.route g sl).supersedeTells g) s (reach g sl a s) := by
  refine ⟨reach_only s g sl a, fun h y => ?_, ?_⟩
  · simp only [reach, commitRoute_route, Prod.mk.injEq]
  · obtain ⟨x, hx, -, -, hreach⟩ := reach_supersedes s g sl a
    have hown : giveOutcome g (givenTo (s.reachRoute (s.route g sl) a).2.1 a.waiter) x = x := by
      rw [ha, givenTo]
      split <;> rfl
    rw [supersededOutcomes_single] at hx
    rw [hreach, hown]
    exact hx

/-- A take makes a run over the routes of its mask. -/
theorem takeRoutes_moves (x : RouteTake) (s : State) :
    MovesRoutes (fun g => (g, x.slot)) (fun r => (s.reachRoute r x.ask).1) Route.supersedeTells (regionsOf x.mask) s
      (takeRoutes x s) := by
  have hnodup : ((regionsOf x.mask).map fun g => (g, x.slot)).Nodup :=
    (regionsOf_nodup x.mask).map fun _ _ e => (Prod.mk.inj e).1
  refine foldl_movesRoutes (fun u g hu => ?_) hnodup (.refl s)
  rw [← hu.reachRoute]
  exact reach_moves rfl u g x.slot

/-- Where no cue waits on a route of the mask, none gets its SUPERSEDED. -/
theorem supersededOutcomes_nil {gs : List RegionId}
    (h : ∀ g ∈ gs, ∀ id, (s.route g sl).waiter ≠ some (.cue id)) : s.supersededOutcomes sl gs = [] := by
  refine List.filterMap_eq_nil_iff.2 fun g hg => ?_
  rw [Route.tells_none (h g hg), ite_self]

theorem takeRoutes_supersedes (x : RouteTake) (s : State) :
    SameSchedule (giveAll (s.supersededOutcomes x.slot (regionsOf x.mask)) s) (takeRoutes x s) :=
  (takeRoutes_moves x s).schedule

theorem takeRoutes_settle (hw : s.dailiesWait) (hf : s.falling = []) : settle (takeRoutes x s) = takeRoutes x s :=
  settle_nil _ ((takeRoutes_supersedes x s).nothing_falls hw hf)

/-- What the take makes of the routes: those of its mask have met it, and the others stand as they were. -/
theorem takeRoutes_route (x : RouteTake) (s : State) (h : RegionId) (y : SlotId) :
    (takeRoutes x s).route h y =
      if y = x.slot ∧ x.mask.getLsbD h = true then (s.reachRoute (s.route h y) x.ask).1 else s.route h y := by
  simp only [(takeRoutes_moves x s).route, mem_regionsOf_routes]

/-- Settles O37: the body and the checks in their order, and then the run of the take over the routes of its mask. -/
theorem routeTakeMeetsEachRoute : Obligations.RouteTakeMeetsEachRoute := by
  intro l mask sl t p wait owner w body s hc hwait howner hp hbody
  have hpolicy : p ≠ .onConfirm := by rcases hp with ⟨rfl, -⟩ | ⟨rfl, -⟩ <;> decide
  obtain rfl : p.waitTaken wait = w := by rcases hp with ⟨rfl, rfl⟩ | ⟨rfl, rfl⟩ <;> rfl
  obtain ⟨x, rfl, rfl, rfl, rfl, rfl, rfl⟩ : ∃ x : RouteTake, x.mask = mask ∧ x.slot = sl ∧ x.target = t ∧
      x.policy = p ∧ x.wait = wait ∧ x.owner = owner := ⟨⟨mask, sl, t, p, wait, owner⟩, rfl, rfl, rfl, rfl, rfl, rfl⟩
  have hread : readAll rRouteTake body = if x.mask = 0 ∨ 127 < x.owner then none else some x := by
    rw [hbody]
    exact readAll_routeTake hpolicy hwait howner
  refine ⟨fun hbad => ?badField, fun hmask hown hlegal => ?formed⟩
  case badField =>
    by_cases hform : x.mask = 0 ∨ 127 < x.owner
    · exact refuses_badField_of_serve (fun _ => rfl) hc (.inr rfl) (hread.trans (if_pos hform))
    · have hlegal : ¬s.targetLegal x.slot x.target := hbad.elim (fun h => absurd (.inl h) hform)
        fun h => h.elim (fun h => absurd (.inr h) hform) id
      exact refuses_of_serve (fun _ => rfl) hc (.inr rfl) (hread.trans (if_neg hform)) (doRouteTake_badField hlegal)
  case formed =>
    have hreads : readAll rRouteTake body = some x := hread.trans (if_neg fun h => h.elim hmask (by omega))
    refine ⟨fun g claimant hfirst => refuses_of_serve (fun _ => rfl) hc (.inr rfl) hreads
      (doRouteTake_claimed hlegal hfirst), fun htouch hf hw => ⟨takeRoutes x s, s.takeOutcome x, ?_, ?_⟩⟩
    · refine answers_of_serve (fun _ => rfl) hc (.inr rfl) hreads ?_
      rw [doRouteTake_ok hlegal htouch, takeRoutes_settle hw hf]
    have honly := (takeRoutes_moves x s).only
    have hschedule := takeRoutes_supersedes x s
    refine ⟨honly, fun hfree => ?unawaited, fun hn hi => ⟨_, ?gives, honly.reports_giveAll hschedule⟩, fun g y => ⟨?meets, ?other⟩⟩
    case unawaited =>
      rw [supersededOutcomes_nil fun g hg id => hfree g id (mem_regionsOf.1 hg)] at hschedule
      exact honly.reports hschedule
    case gives =>
      have hlen : (s.supersededOutcomes x.slot (regionsOf x.mask)).length ≤ 8 :=
        (List.length_filterMap_le _ _).trans ((List.length_filter_le _ _).trans (List.length_finRange).le)
      exact supersedesWaits_iff.2 (giveAll_gives hn (by omega) hw.actives)
    case meets =>
      rintro rfl hg
      rw [takeRoutes_route, if_pos ⟨rfl, hg⟩]
      exact reachRoute_meets s (s.route g x.slot) x.ask
    case other =>
      intro hnot
      rw [takeRoutes_route, if_neg]
      rintro ⟨rfl, hg⟩
      exact hnot.elim (fun h => h rfl) fun h => absurd (hg.symm.trans h) (by decide)

end Sys2Proof.Machine
end

section
/-!
PROOFS. ROUTE_HOLD and ROUTE_FREE: the body that they read, the wait that a hold ends, and the runs of the two over the
routes of the mask (R120, R130, R131).
-/
namespace Sys2Proof.Machine

variable {s t : State} {g : RegionId} {sl : SlotId} {r : Route} {x : RouteMask} {v : VariantId}

/-! ## The body of the two requests (R130, R131, R200) -/

theorem readAll_routeMask (howner : x.owner < 256) :
    readAll rRouteMask ([x.mask] ++ e1 x.slot ++ e1 x.owner) = if x.mask = 0 ∨ 127 < x.owner then none else some x := by
  have hmask := rMask_byte x.mask (e1 x.slot ++ e1 x.owner)
  have hslot := rIndex_e1 x.slot (by decide) (e1 x.owner)
  have howner' : rOwner (e1 x.owner) = if x.owner ≤ 127 then some (x.owner, []) else none := by
    simpa using rOwner_e1 howner []
  simp only [readAll, rRouteMask, List.append_assoc]
  by_cases hm : x.mask = 0
  · rw [if_pos hm] at hmask
    rw [rThen_none_left hmask]
    simp [hm]
  rw [if_neg hm] at hmask
  by_cases ho : x.owner ≤ 127
  · rw [if_pos ho] at howner'
    rw [rThen_some _ _ _ _ _ _ _ hmask (rThen_some _ _ _ _ _ _ _ hslot howner')]
    exact (if_neg (not_or.2 ⟨hm, Nat.not_lt.2 ho⟩)).symm
  · rw [if_neg ho] at howner'
    rw [rThen_none hmask (rThen_none hslot howner')]
    simp [Nat.not_le.1 ho]

/-! ## A wait that is abandoned (R120) -/

theorem State.abandon_national (h : r.current = .national) :
    s.abandon r = { r with intended := .national, state := .steady } := by
  unfold State.abandon
  rw [h]

theorem State.abandon_variant (h : r.current = .variant v) :
    s.abandon r = { r with intended := .variant v, state := .steady } := by
  unfold State.abandon
  rw [h]

/-- From BLANK the route goes back to the variant that it intends, where that is HEALTHY. -/
theorem State.abandon_blank (h : r.current = .blank) (hi : r.intended = .variant v) :
    s.abandon r = if s.healthy v then s.returning v r else { r with state := .fallback } := by
  unfold State.abandon
  rw [h, hi]

/-! ## A route that is held (R130) -/

/-- What a hold makes of a route. -/
def State.held (s : State) (r : Route) : Route :=
  { if r.waiter = none then r else s.abandon r with hold := true }

theorem State.held_unawaited (h : r.waiter = none) : s.held r = { r with hold := true } := by
  unfold State.held
  rw [if_pos h]

theorem State.held_awaited (h : r.waiter ≠ none) : s.held r = { s.abandon r with hold := true } := by
  unfold State.held
  rw [if_neg h]

theorem OnlySwitching.held (h : OnlySwitching s t) (r : Route) : t.held r = s.held r := by
  unfold State.held
  rw [h.abandon]

/-- A hold, said once: the cue or take waited on gets HELD where there is one. -/
theorem holdRoute_eq (s : State) (sl : SlotId) (g : RegionId) :
    holdRoute sl s g =
      commitRoute g sl (s.held (s.route g sl)) .hold ((s.route g sl).waiter.map fun w => (.held, w)) none s := by
  unfold holdRoute
  dsimp only
  cases hw : (s.route g sl).waiter with
  | none => rw [State.held_unawaited hw]; rfl
  | some w => rw [State.held_awaited (by simp [hw])]; rfl

theorem holdRoute_moves (s : State) (sl : SlotId) (g : RegionId) :
    MovesRoute g sl (s.held (s.route g sl)) ((s.route g sl).tells g .held) s (holdRoute sl s g) := by
  rw [holdRoute_eq]
  exact commitRoute_moves

/-- A hold makes a run over the routes of its mask. -/
theorem foldl_holdRoute_moves (s : State) (sl : SlotId) (mask : RegionMask) :
    MovesRoutes (fun g => (g, sl)) s.held (fun r g => r.tells g .held) (regionsOf mask) s
      ((regionsOf mask).foldl (holdRoute sl) s) := by
  refine foldl_movesRoutes (fun u g hu => ?_) ((regionsOf_nodup mask).map fun _ _ e => (Prod.mk.inj e).1) (.refl s)
  rw [← hu.held]
  exact holdRoute_moves u sl g

theorem freeRoute_moves (s : State) (sl : SlotId) (g : RegionId) :
    MovesRoute g sl { s.route g sl with hold := false } none s (freeRoute sl s g) := commitRoute_moves_silent

theorem foldl_freeRoute_moves (s : State) (sl : SlotId) (mask : RegionMask) :
    MovesRoutes (fun g => (g, sl)) (fun r => { r with hold := false }) (fun _ _ => none) (regionsOf mask) s
      ((regionsOf mask).foldl (freeRoute sl) s) :=
  foldl_movesRoutes (fun u g _ => freeRoute_moves u sl g) ((regionsOf_nodup mask).map fun _ _ e => (Prod.mk.inj e).1)
    (.refl s)

theorem foldl_holdRoute_route (s : State) (sl : SlotId) (mask : RegionMask) (h : RegionId) (y : SlotId) :
    ((regionsOf mask).foldl (holdRoute sl) s).route h y =
      if y = sl ∧ mask.getLsbD h = true then s.held (s.route h y) else s.route h y := by
  simp only [(foldl_holdRoute_moves s sl mask).route, mem_regionsOf_routes]

theorem foldl_freeRoute_route (s : State) (sl : SlotId) (mask : RegionMask) (h : RegionId) (y : SlotId) :
    ((regionsOf mask).foldl (freeRoute sl) s).route h y =
      if y = sl ∧ mask.getLsbD h = true then { s.route h y with hold := false } else s.route h y := by
  simp only [(foldl_freeRoute_moves s sl mask).route, mem_regionsOf_routes]

/-! ## The two requests -/

theorem doRouteHold_claimed {claimant : Nat} (h : s.firstClaimed x.mask x.owner g claimant) :
    doRouteHold x s = .refused .claimed [.region g, .owner claimant] := by
  unfold doRouteHold
  rw [claimedBy_first h]
  rfl

theorem doRouteFree_claimed {claimant : Nat} (h : s.firstClaimed x.mask x.owner g claimant) :
    doRouteFree x s = .refused .claimed [.region g, .owner claimant] := by
  unfold doRouteFree
  rw [claimedBy_first h]
  rfl

/-- A hold replies with the routes as it leaves them; no DAILY cue falls due again at once. -/
theorem doRouteHold_ok (h : s.mayTouch x.mask x.owner) (hw : s.dailiesWait) (hf : s.falling = []) :
    doRouteHold x s =
      .ok (eRouteStates ((regionsOf x.mask).foldl (holdRoute x.slot) s) x) ((regionsOf x.mask).foldl (holdRoute x.slot) s) := by
  unfold doRouteHold
  rw [claimedBy_none h]
  dsimp only
  rw [settle_nil _ ((foldl_holdRoute_moves s x.slot x.mask).schedule.nothing_falls hw hf)]

/-- A freed route keeps its state and its current source, so that the reply tells them as they stood. -/
theorem doRouteFree_ok (h : s.mayTouch x.mask x.owner) :
    doRouteFree x s = .ok (eRouteStates s x) ((regionsOf x.mask).foldl (freeRoute x.slot) s) := by
  have hkept : ∀ g, (((regionsOf x.mask).foldl (freeRoute x.slot) s).route g x.slot).state = (s.route g x.slot).state ∧
      (((regionsOf x.mask).foldl (freeRoute x.slot) s).route g x.slot).current = (s.route g x.slot).current := fun g => by
    rw [foldl_freeRoute_route]
    split <;> exact ⟨rfl, rfl⟩
  unfold doRouteFree
  rw [claimedBy_none h]
  simp only [eRouteStates, hkept]

/-- Settles O38: the body and the claim test, and then the run of the hold, or of the freeing, over the routes of the
mask. -/
theorem routeHoldAndFree : Obligations.RouteHoldAndFree := by
  intro l mask sl owner body s hc howner hbody
  obtain ⟨x, rfl, rfl, rfl⟩ : ∃ x : RouteMask, x.mask = mask ∧ x.slot = sl ∧ x.owner = owner :=
    ⟨⟨mask, sl, owner⟩, rfl, rfl, rfl⟩
  have hread : readAll rRouteMask body = if x.mask = 0 ∨ 127 < x.owner then none else some x := by
    rw [hbody]
    exact readAll_routeMask howner
  have hreads : x.mask ≠ 0 → x.owner ≤ 127 → readAll rRouteMask body = some x := fun hmask hown =>
    hread.trans (if_neg fun h => h.elim hmask (by omega))
  refine ⟨fun hbad => ⟨?holdBody, ?freeBody⟩, fun hmask hown g claimant hfirst => ⟨?holdClaimed, ?freeClaimed⟩,
    fun hmask hown htouch hf hw => ⟨⟨(regionsOf x.mask).foldl (holdRoute x.slot) s, ?held, ?holds⟩,
      (regionsOf x.mask).foldl (freeRoute x.slot) s, ?freed, ?frees⟩⟩
  case holdBody => exact refuses_badField_of_serve (fun _ => rfl) hc (.inr rfl) (hread.trans (if_pos hbad))
  case freeBody => exact refuses_badField_of_serve (fun _ => rfl) hc (.inr rfl) (hread.trans (if_pos hbad))
  case holdClaimed =>
    exact refuses_of_serve (fun _ => rfl) hc (.inr rfl) (hreads hmask hown) (doRouteHold_claimed hfirst)
  case freeClaimed =>
    exact refuses_of_serve (fun _ => rfl) hc (.inr rfl) (hreads hmask hown) (doRouteFree_claimed hfirst)
  case held => exact answers_of_serve (fun _ => rfl) hc (.inr rfl) (hreads hmask hown) (doRouteHold_ok htouch hw hf)
  case freed => exact answers_of_serve (fun _ => rfl) hc (.inr rfl) (hreads hmask hown) (doRouteFree_ok htouch)
  case frees =>
    have hmoves := foldl_freeRoute_moves s x.slot x.mask
    have hschedule := hmoves.schedule
    rw [List.filterMap_none] at hschedule
    exact ⟨hmoves.only.reports hschedule, foldl_freeRoute_route s x.slot x.mask⟩
  case holds =>
    have hmoves := foldl_holdRoute_moves s x.slot x.mask
    refine ⟨hmoves.only, fun hfree => ?unawaited, fun hn hi => ⟨_, ?gives, hmoves.only.reports_giveAll hmoves.schedule⟩,
      fun g y r hr => ⟨fun hnot => ?other, ?routes⟩⟩
    case unawaited =>
      have hnil : ((regionsOf x.mask).filterMap fun g => (s.route g x.slot).tells g .held) = [] :=
        List.filterMap_eq_nil_iff.2 fun g hg => Route.tells_none fun id => hfree g id (mem_regionsOf.1 hg)
      have hschedule := hmoves.schedule
      dsimp only at hschedule
      rw [hnil] at hschedule
      exact hmoves.only.reports hschedule
    case gives =>
      have hlen : ((regionsOf x.mask).filterMap fun g => (s.route g x.slot).tells g .held).length ≤ 8 :=
        (List.length_filterMap_le _ _).trans ((List.length_filter_le _ _).trans (List.length_finRange).le)
      exact giveAll_gives hn (Nat.lt_of_le_of_lt (Nat.add_le_add_left hlen _) (by omega)) hw.actives
    case other =>
      rw [foldl_holdRoute_route, if_neg, hr]
      rintro ⟨rfl, hg⟩
      exact hnot.elim (fun h => h rfl) fun h => absurd (hg.symm.trans h) (by decide)
    case routes =>
      rintro rfl hg
      rw [foldl_holdRoute_route, if_pos ⟨rfl, hg⟩, ← hr]
      refine ⟨fun hno => State.held_unawaited hno, fun hyes hcur => ?_, fun v hyes hcur => ?_,
        fun v hyes hcur hint hv => ?_, fun v hyes hcur hint hv hticks => ?_, fun v hyes hcur hint hv hticks => ?_⟩
      all_goals rw [State.held_awaited hyes]
      · rw [State.abandon_national hcur]
      · rw [State.abandon_variant hcur]
      · rw [State.abandon_blank hcur hint, hv]
        rfl
      · rw [State.abandon_blank hcur hint, if_pos hv, State.returning, if_neg hticks]
      · rw [State.abandon_blank hcur hint, if_pos hv, State.returning, if_pos hticks]
        simp [Route.switchTo, Route.carry, Target.source, hcur, hint]

end Sys2Proof.Machine
end

section
/-!
PROOFS. A change of a variant's health and the routes concerned with it: what a starvation makes of one route and tells the
cue that it waits on, and the two expiries as runs over all the routes (R119, R127, R128).
-/
namespace Sys2Proof.Machine

variable {s t : State} {v : VariantId} {d : VariantDef} {r : Route} {src : Source} {x : RegionId × SlotId}
  {l : List (RegionId × Nat × CueOutcome)}

/-! ## One route at a starvation (R127) -/

/-- A route after a variant with the fallback source `src` has become STARVED, by its state and the variant's place in
it. -/
def Route.starved (r : Route) (v : VariantId) (src : Source) : Route :=
  match r.state with
  | .steady => if r.current = .variant v then r.fallBack v src else r
  | .pendingSplice w _ _ =>
    if w = .variant v then r.fallBack v src else if r.current = .variant v then r.switchTo w else r
  | .awaitConfirm w _ _ =>
    if w ≠ .variant v ∧ r.current = .variant v then { r with current := src, intended := .variant v, markPending := true }
    else r
  | .fallback => r
  | .returning w _ => if w = v then { r with state := .fallback } else r

/-- The outcome that the starvation brings the cue on which a route waits. -/
def Route.starveTells (r : Route) (v : VariantId) (g : RegionId) : Option (RegionId × Nat × CueOutcome) :=
  match r.state with
  | .pendingSplice w _ _ =>
    if w = .variant v then r.tells g .fallback else if r.current = .variant v then r.tells g .forced else none
  | .steady | .awaitConfirm _ _ _ | .fallback | .returning _ _ => none

theorem State.fallbackOf_ne (s : State) (v w : VariantId) : s.fallbackOf v ≠ .variant w := by
  unfold State.fallbackOf
  split
  · next d _ => cases d.fallback <;> exact fun h => nomatch h
  · exact fun h => nomatch h

/-- A route that loses its variant while it waits on a confirmation has changed its source (R117). -/
theorem Route.carry_fallback (s : State) (v w : VariantId) (h : r.current = .variant w) :
    { r.carry (s.fallbackOf v) with intended := .variant v } =
      { r with current := s.fallbackOf v, intended := .variant v, markPending := true } := by
  have hne : r.current ≠ s.fallbackOf v := fun e => s.fallbackOf_ne v w (e.symm.trans h)
  simp [Route.carry, hne]

/-- What a starvation does to one route, said once. -/
theorem starveRoute_moves (s : State) (v : VariantId) (x : RegionId × SlotId) :
    MovesRoute x.1 x.2 ((s.route x.1 x.2).starved v (s.fallbackOf v)) ((s.route x.1 x.2).starveTells v x.1) s
      (starveRoute v s x) := by
  unfold starveRoute Route.starved Route.starveTells
  dsimp only
  cases hst : (s.route x.1 x.2).state with
  | steady =>
    by_cases hcur : (s.route x.1 x.2).current = .variant v
    · simp only [if_pos hcur]
      exact commitRoute_moves_silent
    · simp only [if_neg hcur]
      exact .still
  | pendingSplice w c dl =>
    by_cases hw : w = .variant v
    · simp only [if_pos hw]
      exact commitRoute_moves
    · by_cases hcur : (s.route x.1 x.2).current = .variant v
      · simp only [if_neg hw, if_pos hcur]
        exact commitRoute_moves
      · simp only [if_neg hw, if_neg hcur]
        exact .still
  | awaitConfirm w c dl =>
    by_cases h : w ≠ .variant v ∧ (s.route x.1 x.2).current = .variant v
    · simp only [if_pos h]
      rw [← hst, ← Route.carry_fallback s v v h.2]
      exact commitRoute_moves_silent
    · simp only [if_neg h]
      exact .still
  | fallback => exact .still
  | returning w dl =>
    by_cases hw : w = v
    · simp only [if_pos hw]
      exact commitRoute_moves_silent
    · simp only [if_neg hw]
      exact .still

/-! ## All the routes (R127) -/

theorem starvedOutcomes_eq (s : State) (v : VariantId) :
    s.starvedOutcomes v = allRoutes.filterMap fun x => (s.route x.1 x.2).starveTells v x.1 := by
  unfold State.starvedOutcomes allRoutes
  simp only [List.filterMap_flatMap, List.filterMap_map]
  rfl

theorem starvedOutcomes_length (s : State) (v : VariantId) : (s.starvedOutcomes v).length ≤ 192 := by
  rw [starvedOutcomes_eq]
  exact (List.length_filterMap_le _ _).trans (by simp [allRoutes])

theorem starvedOutcomes_congr (h : t.routes = s.routes) : t.starvedOutcomes v = s.starvedOutcomes v := by
  simp only [starvedOutcomes_eq, State.route, h]

theorem OnlySwitching.fallbackOf (h : OnlySwitching s t) : t.fallbackOf v = s.fallbackOf v :=
  (congrArg (fun x => State.fallbackOf x v) h.1 :)

theorem foldl_starveRoute_moves (s : State) (v : VariantId) :
    MovesRoutes id (fun r => r.starved v (s.fallbackOf v)) (fun r x => r.starveTells v x.1) allRoutes s
      (allRoutes.foldl (starveRoute v) s) := by
  refine foldl_movesRoutes (fun u x hu => ?_) (by rw [List.map_id]; exact allRoutes_nodup) (.refl s)
  dsimp only [id_eq]
  rw [← hu.fallbackOf]
  exact starveRoute_moves u v x

/-! ## A variant that becomes STARVED (R89 to R92) -/

/-- The state in which the routes find a variant that has become STARVED: its record, the event and the notice stand. -/
def starvedVariant (v : VariantId) (d : VariantDef) (cause : HealthCause) (s : State) : State :=
  let s1 := s.setVariant v (some { d with health := .starved, starveTimer := none, recoverTimer := none })
  notifyHealth v d.health .starved cause (if s.concerned v then raiseEvent .variantStarved (.variant v) s1 else s1)

theorem starve_eq {cause : HealthCause} (hv : s.variant v = some d) (hd : d.health ≠ .starved) :
    starve v cause s = allRoutes.foldl (starveRoute v) (starvedVariant v d cause s) := by
  unfold starve
  rw [hv]
  exact if_neg hd

theorem starvedVariant_sameSchedule (s : State) (cause : HealthCause) : SameSchedule s (starvedVariant v d cause s) := by
  unfold starvedVariant
  dsimp only
  split <;> exact ⟨rfl, rfl, rfl, rfl, rfl⟩

theorem starvedVariant_routes (s : State) (cause : HealthCause) : (starvedVariant v d cause s).routes = s.routes := by
  unfold starvedVariant
  dsimp only
  split <;> rfl

theorem starvedVariant_fallbackOf (s : State) (cause : HealthCause) :
    (starvedVariant v d cause s).fallbackOf v = d.fallback.source := by
  have hvar : (starvedVariant v d cause s).variant v =
      some { d with health := .starved, starveTimer := none, recoverTimer := none } := by
    unfold starvedVariant
    dsimp only
    split <;> exact State.setVariant_variant_self _ _ _
  unfold State.fallbackOf
  rw [hvar]

/-- A starvation moves in the schedule what the outcomes of the routes concerned move, route after route. -/
theorem starve_gives {cause : HealthCause} (hv : s.variant v = some d) (hd : d.health ≠ .starved) :
    SameSchedule (giveAll (s.starvedOutcomes v) s) (starve v cause s) := by
  have hrun := (foldl_starveRoute_moves (starvedVariant v d cause s) v).schedule
  dsimp only [id_eq] at hrun
  rw [← starvedOutcomes_eq, starvedOutcomes_congr (starvedVariant_routes s cause), ← starve_eq hv hd] at hrun
  exact ((starvedVariant_sameSchedule s cause).giveAll _).trans hrun

theorem starve_route {cause : HealthCause} (hv : s.variant v = some d) (hd : d.health ≠ .starved) (g : RegionId)
    (sl : SlotId) : (starve v cause s).route g sl = (s.route g sl).starved v d.fallback.source := by
  have hroute : (starvedVariant v d cause s).route g sl = s.route g sl := by
    simp only [State.route, starvedVariant_routes]
  rw [starve_eq hv hd, (foldl_starveRoute_moves _ v).route, List.map_id, if_pos (mem_allRoutes _), hroute,
    starvedVariant_fallbackOf]

/-! ## The reports of a change of health -/

/-- Beside the outcomes given, the routes and the variants, only reports are made. -/
theorem OnlyHealth.reports_giveAll (h : OnlyHealth s t) (hs : SameSchedule (giveAll l s) t) :
    OnlyReports { giveAll l s with routes := t.routes, variants := t.variants } t := by
  obtain ⟨hst, hmgmt, hcue⟩ := h
  obtain ⟨hgiven, hgmgmt, hgcue⟩ := giveAll_only l s
  have hkeeps := giveAll_keeps l s
  refine ⟨?_, hgmgmt.of_common hmgmt hkeeps.1, hgcue.of_common hcue hkeeps.2⟩
  rw [hs.cues, hs.insertion, hs.changes, hs.falling] at hst
  rw [hgiven]
  exact hst

/-- A starvation timer that is reached starves its variant, and leaves the event no cue to deal with. -/
theorem starvationExpires_eq (hv : s.variant v = some d) (hd : d.health ≠ .starved) (hdue : s.starvationDue v = true)
    (hw : s.dailiesWait) (hf : s.falling = []) : starvationExpires v s = starve v .starvationExpiry s := by
  unfold starvationExpires
  rw [if_pos hdue, settle_nil _ ((starve_gives hv hd).nothing_falls hw hf)]

/-- Settles O41: an expiry that is reached starves its variant, or makes it HEALTHY, and each route acts by its rule. -/
theorem healthChangesMoveRoutes : Obligations.HealthChangesMoveRoutes := by
  refine fun v d x s hv hf hw hreached => ⟨fun hx hd => ?starves, fun hx hd => ?recovers⟩
  case starves =>
    have hdue : s.starvationDue v = true := by rw [starvationDue_eq hv, hx, timerReached_some hreached]
    refine ⟨starve v .starvationExpiry s, congrArg Host.Outcome.next (starvationExpires_eq hv hd hdue hw hf), fun hn hi =>
      ⟨_, giveAll_gives hn ?_ hw.actives, (starve_only s v _).reports_giveAll (starve_gives hv hd)⟩, fun g sl r hr => ?_⟩
    · have := starvedOutcomes_length s v
      omega
    · rw [starve_route hv hd, ← hr]
      rfl
  case recovers =>
    have hdue : s.recoveryDue v = true := by rw [recoveryDue_eq hv, hx, timerReached_some hreached, hd]; rfl
    have hmoves := becomeHealthy_moves s v d d.starveTimer .recoveryExpiry
    have hsettle : settle (becomeHealthy v d d.starveTimer .recoveryExpiry s) =
        becomeHealthy v d d.starveTimer .recoveryExpiry s := settle_nil _ (hmoves.schedule.falling.trans hf)
    refine ⟨becomeHealthy v d d.starveTimer .recoveryExpiry s, congrArg Host.Outcome.next ?_,
      (becomeHealthy_only s v d _ _).reports_giveAll (l := []) hmoves.schedule, hmoves.route⟩
    rw [recoveryExpires_eq hv, if_pos hdue, hsettle]

end Sys2Proof.Machine
end

section
/-!
PROOFS. The deadline of a route: how it ends the wait, what that tells the cue waited on, and the DAILY cue that completes by
it and falls due again at once (R98, R103, R119, R120, R124).
-/
namespace Sys2Proof.Machine

variable {s t u : State} {g : RegionId} {sl : SlotId} {r new : Route} {d : Deadline} {o : CueOutcome} {b c again : Cue}
  {now : Nat}

/-! ## The end of a wait (R124) -/

/-- A route with this deadline ends its wait as `new`, with this outcome: a splice and a return switch, a confirmation that
does not come is abandoned. -/
def State.deadlineEnds (s : State) (r : Route) (d : Deadline) (new : Route) (o : CueOutcome) : Prop :=
  (∃ t c, r.state = .pendingSplice t c d ∧ new = r.switchTo t ∧ o = .forced) ∨
    (∃ v, r.state = .returning v d ∧ new = r.switchTo (.variant v) ∧ o = .none) ∨
    ∃ t c, r.state = .awaitConfirm t c d ∧ new = s.abandon r ∧ o = .expired

/-- The route event of a deadline. -/
def deadlineEvent (g : RegionId) (sl : SlotId) (new : Route) (o : CueOutcome) (s : State) : State :=
  commitRoute g sl new .deadline ((s.route g sl).waiter.map fun w => (o, w)) none s

/-- A deadline, said once: the route event, and FORCED_SPLICE where the route switched unasked. -/
theorem expireRoute_eq (h : s.deadlineEnds (s.route g sl) d new o) :
    expireRoute g sl s =
      if o = .expired then deadlineEvent g sl new o s
      else raiseEvent .forcedSplice (.route g sl) (deadlineEvent g sl new o s) := by
  unfold expireRoute deadlineEvent
  dsimp only
  rcases h with ⟨t, c, hst, rfl, rfl⟩ | ⟨v, hst, rfl, rfl⟩ | ⟨t, c, hst, rfl, rfl⟩
  · rw [hst, if_neg (by decide)]
  · have hw : (s.route g sl).waiter = none := by
      unfold Route.waiter
      rw [hst]
    rw [hst, if_neg (by decide), hw]
    rfl
  · rw [hst, if_pos rfl]

theorem expireRoute_routes (h : s.deadlineEnds (s.route g sl) d new o) :
    (expireRoute g sl s).routes = (s.setRoute g sl new).routes := by
  rw [expireRoute_eq h]
  split
  · exact commitRoute_routes _ _ _ _ _ _ _
  · exact commitRoute_routes _ _ _ _ _ _ _

theorem expireRoute_degraded (h : s.deadlineEnds (s.route g sl) d new o) (ho : o ≠ .expired) :
    (expireRoute g sl s).detected.degraded = true := by
  rw [expireRoute_eq h, if_neg ho]
  rfl

/-- A deadline moves in the schedule what the outcome of the wait moves. -/
theorem expireRoute_tells (h : s.deadlineEnds (s.route g sl) d new o) :
    SameSchedule (giveAll ((s.route g sl).tells g o).toList s) (expireRoute g sl s) := by
  have hevent : SameSchedule (giveAll ((s.route g sl).tells g o).toList s) (deadlineEvent g sl new o s) :=
    (commitRoute_moves (g := g) (sl := sl) (new := new) (o := o) (s := s)).schedule
  rw [expireRoute_eq h]
  split
  · exact hevent
  · exact hevent.trans ⟨rfl, rfl, rfl, rfl, rfl⟩

/-- Once the route stands as the deadline leaves it, the rest is the schedule and reports. -/
theorem expireRoute_after (s : State) (g : RegionId) (sl : SlotId) (new : Route) :
    OnlySwitching (s.setRoute g sl new) (expireRoute g sl s) :=
  (setRoute_only s g sl new).of_common (expireRoute_only s g sl) ⟨le_refl _, le_refl _⟩

theorem Route.tells_awaited {id : Nat} (h : r.waiter = some (.cue id)) : r.tells g o = some (g, id, o) := by
  unfold Route.tells
  rw [h]

/-! ## The moment of a deadline (log entry 15) -/

theorem routeExpires_early (h : ∀ d, (s.route g sl).state.deadline = some d → (s.clock - d.set).toNat < d.len) :
    routeExpires g sl s = s := by
  have hdue : s.routeDue g sl = false := by
    unfold State.routeDue
    cases hd : (s.route g sl).state.deadline with
    | none => rfl
    | some d => exact decide_eq_false (Nat.not_le.2 (h d hd))
  unfold routeExpires
  rw [hdue]
  rfl

theorem routeExpires_reached (hd : (s.route g sl).state.deadline = some d) (h : d.len ≤ (s.clock - d.set).toNat) :
    routeExpires g sl s = settle (expireRoute g sl s) := by
  have hdue : s.routeDue g sl = true := by
    unfold State.routeDue
    rw [hd]
    exact decide_eq_true h
  exact if_pos hdue

/-! ## A DAILY cue that completes and falls due again at once (R98, R103) -/

theorem nextOccurrence_again (hst : s.station = some now) (hlate : c.nextLate now ≤ 270000000) :
    nextOccurrence s.station c.due = (c.nextDay, true) := by
  have hd : (c.due + Config.dayTicks) % Config.stationSpan = c.nextDay := rfl
  unfold nextOccurrence
  simp only [hst, hd, lateness_nextDay, Config.halfSpan, Config.lateLimit]
  rw [if_neg (by omega), if_pos hlate]

/-- A cue has been re-entered for an occurrence that falls due at once: it stands in the schedule in place of itself, with
the next insertion number. -/
structure FallsAgain (again : Cue) (s u : State) : Prop where
  cues : u.cues = insertCue again (withoutCue again.id s.cues)
  insertion : u.insertion = s.insertion + 1
  station : u.station = s.station

theorem FallsAgain.sameSchedule (h : FallsAgain again s t) (hu : SameSchedule t u) : FallsAgain again s u :=
  ⟨hu.cues.trans h.cues, hu.insertion.trans h.insertion, hu.station.trans h.station⟩

theorem Cue.reentered_id (c : Cue) (due n : Nat) : (c.reentered due n).id = c.id := rfl

theorem completeCue_again (hr : c.rpt = .daily) (hst : s.station = some now) (hlate : c.nextLate now ≤ 270000000)
    (hi : s.insertion < 4294967295) :
    FallsAgain (c.reentered c.nextDay s.insertion) s (completeCue c s) ∧
      (completeCue c s).falling = s.falling ++ [c.id] := by
  rw [completeCue_daily hr, nextOccurrence_again hst hlate]
  have henter := enterCue_enters (notifyBoth (.cueDone c (some c.nextDay)) s) (c.waiting c.nextDay) hi
  rw [henter, ← Cue.waiting_reentered]
  exact ⟨⟨rfl, rfl, rfl⟩, rfl⟩

theorem FallsAgain.nodup (h : FallsAgain again s u) (hn : (s.cues.map Cue.id).Nodup) : (u.cues.map Cue.id).Nodup := by
  rw [h.cues]
  exact insertCue_withoutCue_nodup hn rfl

theorem FallsAgain.mem_iff (h : FallsAgain again s u) {y : Cue} :
    y ∈ u.cues ↔ y = again ∨ y ∈ s.cues ∧ y.id ≠ again.id := by rw [h.cues, mem_insertCue_iff, mem_withoutCue]

theorem FallsAgain.others (h : FallsAgain again s u) : withoutCue again.id u.cues = withoutCue again.id s.cues := by
  rw [h.cues, withoutCue_insertCue, withoutCue_idem]

/-- A cue that falls due again at once has completed as R103 has it. -/
theorem FallsAgain.completed (h : FallsAgain (c.reentered c.nextDay s.insertion) s u) (hr : c.rpt = .daily)
    (hst : s.station = some now) (hlate : c.nextLate now ≤ 270000000) : Completed c s u := by
  unfold Completed
  rw [hr]
  have hdue : s.reentersAt c c.nextDay := by
    have hnext := nextOccurrence_reenters s c
    rwa [nextOccurrence_again hst hlate] at hnext
  have hothers := h.others
  rw [Cue.reentered_id] at hothers
  exact ⟨⟨c.nextDay, hdue, h.mem_iff.2 (.inl rfl)⟩, hothers, h.insertion⟩

theorem FallsAgain.activesWait (h : FallsAgain again s u) (hp : again.state = .pending)
    (hw : ∀ y ∈ s.cues, y.id ≠ again.id → s.nextWaits y) : u.activesWait := by
  intro y hy ha
  rcases h.mem_iff.1 hy with rfl | ⟨hmem, hne⟩
  · exact absurd (hp.symm.trans ha) (by decide)
  · exact nextWaits_congr h.station rfl rfl (hw y hmem hne)

/-- A cue that stands ready in the schedule before a re-entry stands ready after it. -/
theorem FallsAgain.standsReady (h : FallsAgain again s u) (hf : u.falling = []) (hroutes : u.routes = t.routes)
    (hi : s.insertion + 1 < 4294967295) (hcues : t.cues = s.cues) (hne : c.id ≠ again.id) (hc : t.standsReady c) :
    u.standsReady c := by
  obtain ⟨hn, hmem, hp, hmask, hout, -, -, hwait⟩ := hc
  rw [hcues] at hn hmem
  refine ⟨h.nodup hn, h.mem_iff.2 (.inr ⟨hmem, hne⟩), hp, hmask, hout, h.insertion ▸ hi, hf, fun g hg => ?_⟩
  simp only [State.route, hroutes]
  exact hwait g hg

/-- The re-entered cue, late by 10 s or less, has its turn behind the cues of the same tick that stand before it. -/
theorem FallsAgain.inTurn (h : FallsAgain again s u) (hst : s.station = some now) (hlate : again.late now ≤ 270000000)
    (hself : u.standsReady again) (hw : u.activesWait)
    (hready : ∀ y ∈ s.cues, y.id ≠ again.id → y.state = .pending → y.due % 152882380800000000 = now → u.standsReady y)
    (hlen : s.cues.length ≤ 128) (hi : s.insertion < 4294960000) :
    ∃ pre post, u.cues = pre ++ again :: post ∧
      HandedInTurn (pre.filter (Cue.fallsAt now) ++ [again]) u (fallNow again.id u) := by
  obtain ⟨pre, post, hl, hins, -, -⟩ := insertCue_split again (withoutCue again.id s.cues)
  have hpre : ∀ y ∈ pre, y ∈ s.cues ∧ y.id ≠ again.id := fun y hy => mem_withoutCue.1 (hl ▸ List.mem_append_left _ hy)
  have hshort : pre.length ≤ 128 := by
    have hall : (withoutCue again.id s.cues).length ≤ s.cues.length := List.length_filter_le _ _
    rw [hl, List.length_append] at hall
    omega
  have hfew := List.length_filter_le (Cue.fallsAt now) pre
  refine ⟨pre, post, h.cues.trans hins, fallNow_inTurn (h.station.trans hst) (h.cues.trans hins) hlate hself
    (fun y hy hfalls => ?_) hw (by rw [h.insertion]; omega)⟩
  obtain ⟨hp, hdue⟩ := Bool.and_eq_true_iff.1 hfalls
  exact hready y (hpre y hy).1 (hpre y hy).2 (of_decide_eq_true hp) (of_decide_eq_true hdue)

/-! ## The last outcome of a DAILY cue (R100, R102, R103) -/

theorem Cue.record_nextLate (c : Cue) (g : RegionId) (o : CueOutcome) (now : Nat) :
    (c.record g o).nextLate now = c.nextLate now := rfl

/-- A re-entered cue is the same cue, PENDING for its next occurrence. -/
theorem Cue.record_reentered (c : Cue) (g : RegionId) (o : CueOutcome) (due n : Nat) :
    ((c.record g o).reentered due n).id = c.id ∧ ((c.record g o).reentered due n).mask = c.mask ∧
      ((c.record g o).reentered due n).slot = c.slot ∧ ((c.record g o).reentered due n).state = .pending ∧
      ((c.record g o).reentered due n).due = due := ⟨rfl, rfl, rfl, rfl, rfl⟩

/-- A re-entered cue waits in every region of its mask, whatever outcomes its occurrence got. -/
theorem Cue.reentered_outcomes (h : c.outcomes.map Prod.fst = regionsOf c.mask) (g : RegionId) (o : CueOutcome)
    (due n : Nat) :
    ((c.record g o).reentered due n).outcomes = (regionsOf c.mask).map fun g => (g, CueOutcome.none) := by
  unfold Cue.reentered Cue.record
  rw [← h, List.map_map, List.map_map]
  refine List.map_congr_left fun x _ => ?_
  by_cases hx : x.1 = g ∧ x.2 = .none <;> simp [hx]

/-- The last outcome of a DAILY cue whose next day is the present, or late by 10 s or less, re-enters it to fall due again
within the event. -/
theorem recordOutcome_again (hc : c ∈ s.cues) (hn : (s.cues.map Cue.id).Nodup) (ha : c.state = .active)
    (hr : c.rpt = .daily) (hst : s.station = some now) (hlate : c.nextLate now ≤ 270000000)
    (hi : s.insertion < 4294967295) (hall : (c.record g o).allGiven = true) :
    FallsAgain ((c.record g o).reentered (c.record g o).nextDay s.insertion) s (recordOutcome c.id g o s) ∧
      (recordOutcome c.id g o s).falling = s.falling ++ [c.id] := by
  rw [recordOutcome_active (State.cue_of_mem hn hc) ha, if_pos hall]
  have hothers := withoutCue_mapCue c.id (c.record g o) rfl s.cues
  have hlate' : (c.record g o).nextLate now ≤ 270000000 := (Cue.record_nextLate c g o now).le.trans hlate
  obtain ⟨⟨hcues, hins, hstation⟩, hfall⟩ := completeCue_again (c := c.record g o)
    (s := { s with cues := mapCue c.id (fun _ => c.record g o) s.cues }) hr hst hlate' hi
  refine ⟨⟨hcues.trans ?_, hins, hstation⟩, hfall⟩
  rw [Cue.reentered_id]
  exact congrArg (insertCue _) hothers

/-- A deadline that gives a DAILY cue its last outcome re-enters it so, and leaves the event that cue alone to deal with. -/
theorem expireRoute_again (hends : s.deadlineEnds (s.route g sl) d new o) (hwait : (s.route g sl).waiter = some (.cue c.id))
    (hc : c ∈ s.cues) (hn : (s.cues.map Cue.id).Nodup) (ha : c.state = .active) (hr : c.rpt = .daily)
    (hst : s.station = some now) (hlate : c.nextLate now ≤ 270000000) (hi : s.insertion < 4294967295)
    (hf : s.falling = []) (hall : (c.record g o).allGiven = true) :
    FallsAgain ((c.record g o).reentered (c.record g o).nextDay s.insertion) s (expireRoute g sl s) ∧
      (expireRoute g sl s).falling = [c.id] := by
  have htells := expireRoute_tells hends
  rw [Route.tells_awaited hwait] at htells
  obtain ⟨hrecord, hfall⟩ := recordOutcome_again hc hn ha hr hst hlate hi hall
  exact ⟨hrecord.sameSchedule htells, htells.falling.trans (hfall.trans (by rw [hf]; rfl))⟩

/-- Settles O39: a deadline before its moment and at it; at it, by whether a cue waited, and whether its last outcome makes
it fall due again at once. -/
theorem routeDeadlineEndsTheWait : Obligations.RouteDeadlineEndsTheWait := by
  rintro g sl s r rfl
  refine ⟨fun hearly => congrArg Host.Outcome.next (routeExpires_early hearly), fun d new o hd hreached hf hends => ?_⟩
  have hends : s.deadlineEnds (s.route g sl) d new o := hends
  have hexec : exec (.routeDeadline g sl) s = .next (settle (expireRoute g sl s)) :=
    congrArg Host.Outcome.next (routeExpires_reached hd hreached)
  have hafter := expireRoute_after s g sl new
  have hroutes := expireRoute_routes hends
  have htells := expireRoute_tells hends
  have hdegraded := expireRoute_degraded hends
  refine ⟨fun hfree => ?silent, fun c c' hwait hc hn ha hi hnext hc' => ?given,
    fun c c' again now hwait hc hn ha hr hst hlate hi hlen hothers hmask hout hunawaited hready hc' hall hagain => ?again⟩
  case silent =>
    rw [Route.tells_none hfree] at htells
    have hreports := hafter.reports (t := expireRoute g sl s) ⟨htells.cues, htells.insertion, htells.changes,
      htells.falling, htells.station⟩
    rw [hroutes] at hreports
    rw [settle_nil _ (htells.falling.trans hf)] at hexec
    exact ⟨_, hexec, hreports, hdegraded⟩
  case given =>
    rw [Route.tells_awaited hwait] at htells
    obtain ⟨-, -, hfall, hgiven⟩ := recordOutcome_given s c g o hc hn ha hi hnext
    have hgiven := hgiven c' hc'
    rw [settle_nil _ (htells.falling.trans (hfall.trans hf))] at hexec
    refine ⟨_, hexec, hafter, hroutes, ?_, hdegraded⟩
    split at hgiven
    · next hall =>
      rw [if_pos hall]
      exact hgiven.1.sameSchedule htells
    · next hall =>
      rw [if_neg hall]
      exact ⟨htells.insertion.trans hgiven.2.1, htells.cues.trans hgiven.1⟩
  case again =>
    obtain rfl : c' = c.record g o := hc'
    have hreentered : again = (c.record g o).reentered (c.record g o).nextDay s.insertion := hagain
    obtain ⟨hid, hmask', hslot, hp, hdue⟩ := hreentered ▸ Cue.record_reentered c g o (c.record g o).nextDay s.insertion
    have hallGiven : (c.record g o).allGiven = true := List.all_eq_true.2 fun x hx => decide_eq_true (hall x hx)
    obtain ⟨⟨hcues, hins, hstation⟩, hfalling⟩ := expireRoute_again hends hwait hc hn ha hr hst hlate (by omega) hf hallGiven
    obtain ⟨u, hu⟩ : ∃ u : State, u = { expireRoute g sl s with falling := [] } := ⟨_, rfl⟩
    have hfalls : FallsAgain again s u := hreentered ▸ hu ▸ ⟨hcues, hins, hstation⟩
    have hsettle : settle (expireRoute g sl s) = fallNow again.id u := by
      unfold fallNow
      rw [hu, hid, ← hfalling]
    have huroutes : u.routes = (s.setRoute g sl new).routes := hu ▸ hroutes
    have huempty : u.falling = [] := by rw [hu]
    have hself : u.standsReady again := by
      refine ⟨hfalls.nodup hn, hfalls.mem_iff.2 (.inl rfl), hp, hmask' ▸ hmask, ?_, by rw [hfalls.insertion]; omega, huempty,
        fun h hh => ?_⟩
      · rw [hmask', hreentered]
        exact Cue.reentered_outcomes hout g o _ _
      · rw [hid, hslot]
        simp only [State.route, huroutes]
        exact hunawaited h (hmask' ▸ hh)
    have hagainLate : again.late now ≤ 270000000 := by
      rw [← lateness_due, hdue, lateness_nextDay, Cue.record_nextLate]
      exact hlate
    obtain ⟨pre, post, hl, hturn⟩ := hfalls.inTurn hst hagainLate hself (hfalls.activesWait hp (hid ▸ hothers))
      (fun y hy hne hpend hnow => hfalls.standsReady huempty huroutes (by omega) rfl hne (hready y hy hpend hnow)) hlen hi
    refine ⟨u, pre, post, settle (expireRoute g sl s), hexec, ?_, huroutes, ?_, hl, hsettle ▸ hturn, fun ho => ?_⟩
    · rw [hu]
      exact hafter.trans ⟨rfl, .refl _, .refl _⟩
    · rw [hreentered] at hfalls
      exact hfalls.completed hr hst ((Cue.record_nextLate c g o now).le.trans hlate)
    · rw [settle_detected]
      exact hdegraded ho

end Sys2Proof.Machine
end

section
/-!
PROOFS. What leaves the regions alone: the links, the ports, the feeds, time and the tables, and every request that neither
registers identifiers nor concerns a region's multiplexer.
-/
namespace Sys2Proof.Machine

variable {s t : State}

/-- Two states hold the same regions. -/
def SameRegions (s t : State) : Prop := t.regions = s.regions

theorem SameRegions.region (h : SameRegions s t) (g : RegionId) : t.region g = s.region g :=
  congrArg (fun x : Vector Region 8 => x[g]) h

theorem OnlyHealth.regions (h : OnlyHealth s t) : t.regions = s.regions := (congrArg State.regions h.1 :)

theorem OnlySwitching.regions (h : OnlySwitching s t) : t.regions = s.regions := h.health.regions

theorem Answer.Leaves.sameRegions {x : Answer} (h : x.Leaves (OnlySwitching s)) : x.Leaves (SameRegions s) :=
  h.mono fun _ => OnlySwitching.regions

theorem foldl_regions {α : Type} {f : State → α → State} (h : ∀ t x, (f t x).regions = t.regions) (l : List α) (s : State) :
    (l.foldl f s).regions = s.regions :=
  List.foldlRecOn l f (motive := fun t => t.regions = s.regions) rfl fun t ht x _ => (h t x).trans ht

/-! ## The links -/

@[simp] theorem addReply_regions (l : Link) (f : Frame) (body : List Byte) : (addReply l f body s).regions = s.regions :=
  State.setLink_regions _ _ _

@[simp] theorem refuse_regions (l : Link) (f : Frame) (r : Result) (refs : List ObjRef) :
    (refuse l f r refs s).regions = s.regions := addReply_regions l f _

theorem acceptItem_regions (l : Link) (x : RxItem) : (acceptItem l s x).regions = s.regions := by
  cases x with
  | discarded => rfl
  | good f =>
    change (acceptFrame l f s).regions = s.regions
    unfold acceptFrame
    split
    · simp
    · split <;> simp

@[simp] theorem closeGap_regions (l : Link) : (closeGap l s).regions = s.regions := by
  unfold closeGap
  split <;> simp

theorem receiveByte_regions (l : Link) (b : Byte) : (receiveByte l b s).regions = s.regions := by
  simp [receiveByte, foldl_regions fun t x => acceptItem_regions (s := t) l x]

theorem beginSend_regions (l : Link) : (beginSend l s).regions = s.regions := by
  unfold beginSend
  dsimp only
  split
  · rfl
  · split
    · simp
    · split <;> simp

theorem refuseUnsupported_regions (l : Link) : (refuseUnsupported l s).regions = s.regions := by
  unfold refuseUnsupported
  split
  · rfl
  · next h =>
    split
    · rfl
    · obtain ⟨k, rfl⟩ := takeRequest_some h
      simp

/-! ## The ports, the feeds and time -/

@[simp] theorem settle_regions : (settle s).regions = s.regions := (settle_only s).regions

@[simp] theorem portLost_regions (p : PortId) (c : HealthCause) : (portLost p c s).regions = s.regions :=
  (portLost_only s p c).regions

@[simp] theorem clearLastSeen_regions (p : PortId) : (clearLastSeen p s).regions = s.regions := rfl

@[simp] theorem notifyPort_regions (p : PortId) : (notifyPort p s).regions = s.regions := rfl

@[simp] theorem raiseFlag_regions (p : PortId) (f : PortFlags → PortFlags) : (raiseFlag p f s).regions = s.regions := by
  unfold raiseFlag
  dsimp only
  split <;> simp

@[simp] theorem offerFifo_regions (p : PortId) (q : Packet) : (offerFifo p q s).regions = s.regions := by
  unfold offerFifo
  dsimp only
  split <;> simp

theorem gatherByte_regions (p : PortId) (bad left : Nat) (q : Option Packet) (b : Byte) :
    (gatherByte p bad left q b s).regions = s.regions := by
  unfold gatherByte
  dsimp only
  split
  · split <;> simp
  · simp

theorem verifySync_regions (p : PortId) (good : Nat) (b : Byte) : (verifySync p good b s).regions = s.regions := by
  unfold verifySync
  split
  · split <;> simp
  · simp

theorem lockedSync_regions (p : PortId) (bad : Nat) (b : Byte) : (lockedSync p bad b s).regions = s.regions := by
  unfold lockedSync
  split
  · simp
  · split <;> simp [loseSync]

theorem lineByte_regions (p : PortId) (b : Byte) : (lineByte p b s).regions = s.regions := by
  unfold lineByte
  split
  · rfl
  · split <;> simp
  · exact verifySync_regions _ _ _
  · simp
  · exact lockedSync_regions _ _ _
  · exact gatherByte_regions _ _ _ _ _

theorem stopPort_regions (p : PortId) : (stopPort p s).regions = s.regions := by
  unfold stopPort
  dsimp only
  rw [settle_regions]
  split <;> split <;> simp

theorem configPort_regions (x : PortConfig) : (configPort x s).regions = s.regions := (configPort_only x s).regions

theorem bindFeed_regions (fd : FeedId) (x : Option RegionId) : (bindFeed fd x s).regions = s.regions := by
  unfold bindFeed
  split <;> simp

theorem idleFeed_regions (fd : FeedId) : (idleFeed fd s).regions = s.regions := by
  unfold idleFeed
  split <;> simp

theorem clockWrap_regions : (clockWrap s).regions = s.regions := by
  unfold clockWrap
  split <;> rfl

/-! ## The tables and the meters -/

@[simp] theorem bindComponent_regions (b : Binding) (c : ComponentId) : (bindComponent b c s).regions = s.regions := by
  unfold bindComponent
  split <;> simp

theorem bindRole_regions (sl : SlotId) (e : SlotRole) : (bindRole sl s e).regions = s.regions := by
  unfold bindRole
  split <;> simp

theorem writeVariant_regions (v : VariantId) (d : VariantDef) : (writeVariant v d s).regions = s.regions :=
  (congrArg State.regions (writeVariant_only v d s) :)

theorem refreshMeter_regions (m : MeterId) : (refreshMeter m s).regions = s.regions := by
  unfold refreshMeter
  split
  · split <;> rfl
  · rfl

theorem intervalReached_regions (k : CarouselId) : (intervalReached k s).regions = s.regions := by
  unfold intervalReached
  dsimp only
  split
  · split <;> simp
  · rfl

/-! ## Requests -/

theorem doReportSet_regions (x : Link × Byte) (s : State) : (doReportSet x s).Leaves (SameRegions s) :=
  State.setLink_regions _ _ _

theorem doTimeSet_regions (n : Nat) (s : State) : (doTimeSet n s).Leaves (SameRegions s) := settle_regions

theorem doPortStart_regions (p : PortId) (s : State) : (doPortStart p s).Leaves (SameRegions s) := by
  unfold doPortStart
  split <;> exact (rfl : s.regions = s.regions)

theorem doPortStop_regions (p : PortId) (s : State) : (doPortStop p s).Leaves (SameRegions s) := stopPort_regions p

theorem doPortConfig_regions (x : PortConfig) (s : State) : (doPortConfig x s).Leaves (SameRegions s) :=
  configPort_regions x

theorem doFeedBind_regions (x : FeedId × Option RegionId) (s : State) : (doFeedBind x s).Leaves (SameRegions s) :=
  bindFeed_regions _ _

theorem doMeterRead_regions (x : MeterId × Bool) (s : State) : (doMeterRead x s).Leaves (SameRegions s) := by
  change (if x.2 then s.setMeter x.1 { s.meter x.1 with excess := false } else s).regions = s.regions
  split <;> rfl

theorem doVariantWrite_regions (x : VariantId × VariantDef) (s : State) : (doVariantWrite x s).Leaves (SameRegions s) :=
  .unless (.unless (.unless (.unless (writeVariant_regions (s := s) x.1 x.2))))

theorem doVariantClear_regions (v : VariantId) (s : State) : (doVariantClear v s).Leaves (SameRegions s) :=
  .unless (P := SameRegions s) rfl

theorem setClaims_regions (o : Option Nat) (l : List RegionId) (s : State) :
    (l.foldl (fun t g => t.setClaim g o) s).regions = s.regions :=
  foldl_regions (fun t _ => State.setClaim_regions t _ _) l s

theorem doClaim_regions (x : RegionMask × Nat) (s : State) : (doClaim x s).Leaves (SameRegions s) := by
  unfold doClaim
  split
  · trivial
  · exact setClaims_regions _ _ _

theorem doRegionRead_regions (x : RegionId × Option Ident) (s : State) : (doRegionRead x s).Leaves (SameRegions s) := by
  unfold doRegionRead
  split <;> exact (rfl : s.regions = s.regions)

theorem doCarouselAppend_regions (x : CarouselAppend) (s : State) : (doCarouselAppend x s).Leaves (SameRegions s) :=
  .unless (.unless (P := SameRegions s) rfl)

theorem doCarouselStart_regions (k : CarouselId) (s : State) : (doCarouselStart k s).Leaves (SameRegions s) := by
  unfold doCarouselStart
  dsimp only
  split
  · trivial
  · refine .unless ?_
    split <;> exact (rfl : s.regions = s.regions)

end Sys2Proof.Machine
end

section
/-!
PROOFS. The record of an identifier in a region, by which emission draws its counts: the registry entry, or else the drain
record (R153 to R155, R158).
-/
namespace Sys2Proof.Machine

variable {r r' : Region} {i : Ident} {last : Continuity} {owed : Bool}

/-! ## What the operations on records leave of a region -/

theorem Region.owe_only (r : Region) (i : Ident) :
    r.owe i = { r with registry := (r.owe i).registry, drains := (r.owe i).drains } := by
  unfold Region.owe
  split <;> rfl

theorem Region.oweAll_only (r : Region) (es : List QEntry) :
    r.oweAll es = { r with registry := (r.oweAll es).registry, drains := (r.oweAll es).drains } :=
  List.foldlRecOn es _ (motive := fun x : Region => x = { r with registry := x.registry, drains := x.drains }) rfl
    fun x hx e _ => by
      split
      · rw [x.owe_only, hx]
      · exact hx

theorem Region.note_only (r : Region) (i : Ident) (last : Continuity) (paid : Bool) :
    r.note i last paid =
      { r with registry := (r.note i last paid).registry, drains := (r.note i last paid).drains } := by
  unfold Region.note
  split <;> rfl

/-! ## The record of an identifier -/

/-- What a region holds of an identifier: its definer, absent in a drain record, its last count and its owed flag. -/
structure IdentRecord where
  definer : Option Definer
  last : Continuity
  owed : Bool

/-- The record that an identifier's count and owed flag are drawn from: the registry entry, or else the drain record. -/
def Region.recordOf (r : Region) (i : Ident) : Option IdentRecord :=
  match r.lookup i with
  | some e => some { definer := some e.definer, last := e.last, owed := e.owed }
  | none => (r.drain i).map fun d => { definer := none, last := d.last, owed := d.owed }

/-- A record outlives the last queued entry of its identifier where it is a registration (R158). -/
def IdentRecord.lasts (x : IdentRecord) (queued : Bool) : Bool := x.definer.isSome || queued

theorem Region.drain_ident {d : DrainRec} (h : r.drain i = some d) : d.ident = i := by
  simpa using List.find?_some h

theorem Region.recordOf_lookup {e : RegEntry} (h : r.lookup i = some e) :
    r.recordOf i = some { definer := some e.definer, last := e.last, owed := e.owed } := by
  simp [Region.recordOf, h]

theorem Region.recordOf_drain (h : r.lookup i = none) :
    r.recordOf i = (r.drain i).map fun d => { definer := none, last := d.last, owed := d.owed } := by
  simp [Region.recordOf, h]

theorem Region.recordOf_ne_none : r.recordOf i ≠ none ↔ r.lookup i ≠ none ∨ r.drain i ≠ none := by
  unfold Region.recordOf
  split <;> simp [*]

theorem Region.lastCount_eq (r : Region) (i : Ident) : r.lastCount i = ((r.recordOf i).map IdentRecord.last).getD 15 := by
  unfold Region.lastCount
  split
  · next h => rw [Region.recordOf_lookup h]; rfl
  · next h =>
    rw [Region.recordOf_drain h]
    cases r.drain i <;> rfl

theorem Region.isOwed_eq (r : Region) (i : Ident) : r.isOwed i = ((r.recordOf i).map IdentRecord.owed).getD false := by
  unfold Region.isOwed
  split
  · next h => rw [Region.recordOf_lookup h]; rfl
  · next h =>
    rw [Region.recordOf_drain h]
    cases r.drain i <;> rfl

/-- A record that a drain record holds, or nothing, tells that there is no registration. -/
theorem Region.lookup_of_recordOf {x : Option IdentRecord} (h : r.recordOf i = x)
    (hx : ∀ y ∈ x, y.definer = none) : r.lookup i = none := by
  cases he : r.lookup i with
  | none => rfl
  | some e =>
    rw [Region.recordOf_lookup he] at h
    simpa using hx _ h.symm

/-- `Region.keepsRecord` in terms of the one record. -/
theorem Region.keepsRecord_of_recordOf
    (h : ∀ x, r.recordOf i = some x →
      r'.recordOf i = if x.lasts (r'.queued i) then some { x with last := last, owed := owed } else none) :
    r.keepsRecord r' i last owed := by
  refine ⟨fun e he => ?_, fun d he hd => ?_⟩
  · have hrec := h _ (Region.recordOf_lookup he)
    obtain ⟨-, hident⟩ := r.lookup_some _ _ he
    simp only [IdentRecord.lasts, Option.isSome_some, Bool.true_or, if_true] at hrec
    cases hf : r'.lookup i with
    | none => simp [Region.recordOf_drain hf] at hrec
    | some f =>
      obtain ⟨-, hident'⟩ := r'.lookup_some _ _ hf
      rw [Region.recordOf_lookup hf] at hrec
      cases e
      cases f
      simp_all
  · have hrec := h _ ((Region.recordOf_drain he).trans (congrArg _ hd))
    have hident := Region.drain_ident hd
    have hnone : r'.lookup i = none := Region.lookup_of_recordOf hrec (by split <;> simp)
    refine ⟨hnone, ?_⟩
    have hqueued : (r'.mainQ ++ r'.expQ).any (fun q => decide (q.out = i)) = r'.queued i := by
      simp only [Region.queued, Bool.beq_eq_decide_eq]
    rw [Region.recordOf_drain hnone] at hrec
    simp only [IdentRecord.lasts, Option.isSome_none, Bool.false_or] at hrec
    rw [hqueued]
    cases hd' : r'.drain i with
    | none =>
      rw [hd'] at hrec
      split at hrec
      · simp at hrec
      · next hq => rw [if_neg hq]
    | some d' =>
      have hident' := Region.drain_ident hd'
      rw [hd'] at hrec
      split at hrec
      · next hq =>
        rw [if_pos hq]
        cases d
        cases d'
        simp_all
      · simp at hrec

/-! ## What the operations do to the record of an identifier -/

/-- A lookup in a registry of which the entries of one identifier have been rewritten. -/
theorem Region.lookup_map {f : RegEntry → RegEntry} (hf : ∀ e, (f e).ident = e.ident)
    (h : r'.registry = r.registry.map fun e => if e.ident = i then f e else e) (j : Ident) :
    r'.lookup j = (r.lookup j).map fun e => if j = i then f e else e := by
  have hident : ∀ e, (if e.ident = i then f e else e).ident = e.ident := fun e => by split <;> simp [hf]
  unfold Region.lookup
  rw [h, List.find?_map]
  simp only [Function.comp_def, hident]
  refine Option.map_congr fun e he => ?_
  have hj : e.ident = j := by simpa using List.find?_some he
  rw [hj]

theorem Region.drain_map {f : DrainRec → DrainRec} (hf : ∀ d, (f d).ident = d.ident)
    (h : r'.drains = r.drains.map fun d => if d.ident = i then f d else d) (j : Ident) :
    r'.drain j = (r.drain j).map fun d => if j = i then f d else d := by
  have hident : ∀ d, (if d.ident = i then f d else d).ident = d.ident := fun d => by split <;> simp [hf]
  unfold Region.drain
  rw [h, List.find?_map]
  simp only [Function.comp_def, hident]
  refine Option.map_congr fun d hd => ?_
  have hj : d.ident = j := by simpa using List.find?_some hd
  rw [hj]

/-- An operation that rewrites the record of one identifier, in the registry entry or else in the drain record. -/
theorem Region.recordOf_map {f : RegEntry → RegEntry} {h : DrainRec → DrainRec} {u : IdentRecord → IdentRecord}
    (hf : ∀ e, (f e).ident = e.ident) (hh : ∀ d, (h d).ident = d.ident)
    (huf : ∀ e, u { definer := some e.definer, last := e.last, owed := e.owed } =
      { definer := some (f e).definer, last := (f e).last, owed := (f e).owed })
    (huh : ∀ d : DrainRec, u { definer := none, last := d.last, owed := d.owed } =
      { definer := none, last := (h d).last, owed := (h d).owed })
    (hreg : r.lookup i ≠ none →
      r'.registry = (r.registry.map fun e => if e.ident = i then f e else e) ∧ r'.drains = r.drains)
    (hdrain : r.lookup i = none →
      r'.registry = r.registry ∧ r'.drains = r.drains.map fun d => if d.ident = i then h d else d) (j : Ident) :
    r'.recordOf j = (r.recordOf j).map fun x => if j = i then u x else x := by
  by_cases hi : r.lookup i = none
  · obtain ⟨hregistry, hdrains⟩ := hdrain hi
    have hlookup : r'.lookup j = r.lookup j := by unfold Region.lookup; rw [hregistry]
    cases hj : r.lookup j with
    | some e =>
      have hne : j ≠ i := fun e => by simp [e, hi] at hj
      rw [Region.recordOf_lookup (hlookup.trans hj), Region.recordOf_lookup hj]
      simp [hne]
    | none =>
      rw [Region.recordOf_drain (hlookup.trans hj), Region.recordOf_drain hj, Region.drain_map hh hdrains, Option.map_map,
        Option.map_map]
      refine Option.map_congr fun d _ => ?_
      by_cases hji : j = i <;> simp [hji, huh]
  · obtain ⟨hregistry, hdrains⟩ := hreg hi
    have hlookup := Region.lookup_map hf hregistry j
    cases hj : r.lookup j with
    | some e =>
      rw [hj] at hlookup
      rw [Region.recordOf_lookup hlookup, Region.recordOf_lookup hj]
      by_cases hji : j = i <;> simp [hji, huf]
    | none =>
      have hne : j ≠ i := fun e => hi (e ▸ hj)
      have hdrain' : r'.drain j = r.drain j := by unfold Region.drain; rw [hdrains]
      rw [Region.recordOf_drain (by rw [hlookup, hj]; rfl), Region.recordOf_drain hj, hdrain']
      simp only [hne, if_false, Option.map_id_fun', id]

theorem Region.recordOf_owe (r : Region) (i j : Ident) :
    (r.owe i).recordOf j = (r.recordOf j).map fun x => if j = i then { x with owed := true } else x := by
  refine Region.recordOf_map (f := fun e => { e with owed := true }) (h := fun d => { d with owed := true })
    (u := fun x => { x with owed := true }) (fun _ => rfl) (fun _ => rfl) (fun _ => rfl) (fun _ => rfl) (fun h => ?_)
    (fun h => ?_) j <;> unfold Region.owe <;> split
  · exact ⟨rfl, rfl⟩
  · next hnone => exact absurd hnone h
  · next hsome => exact absurd (h.symm.trans hsome) (by simp)
  · exact ⟨rfl, rfl⟩

theorem Region.recordOf_note (r : Region) (i j : Ident) (last : Continuity) (paid : Bool) :
    (r.note i last paid).recordOf j =
      (r.recordOf j).map fun x => if j = i then { x with last := last, owed := x.owed && !paid } else x := by
  refine Region.recordOf_map (f := fun e => { e with last := last, owed := e.owed && !paid })
    (h := fun d => { d with last := last, owed := d.owed && !paid })
    (u := fun x => { x with last := last, owed := x.owed && !paid })
    (fun _ => rfl) (fun _ => rfl) (fun _ => rfl) (fun _ => rfl) (fun h => ?_) (fun h => ?_) j <;>
    unfold Region.note <;> split
  · exact ⟨rfl, rfl⟩
  · next hnone => exact absurd hnone h
  · next hsome => exact absurd (h.symm.trans hsome) (by simp)
  · exact ⟨rfl, rfl⟩

/-- The discontinuities of entries that leave are owed in the records of their identifiers (R155). -/
theorem Region.recordOf_oweAll (r : Region) (es : List QEntry) (j : Ident) :
    (r.oweAll es).recordOf j =
      (r.recordOf j).map fun x => { x with owed := x.owed || es.any fun q => q.setDisc && decide (q.out = j) } := by
  induction es generalizing r with
  | nil => simp [Region.oweAll]
  | cons e es ih =>
    have hcons : r.oweAll (e :: es) = (if e.setDisc then r.owe e.out else r).oweAll es := rfl
    rw [hcons, ih, List.any_cons]
    cases e.setDisc with
    | false => simp
    | true =>
      rw [if_pos rfl, Region.recordOf_owe, Option.map_map]
      refine Option.map_congr fun x _ => ?_
      by_cases hj : j = e.out
      · simp [hj]
      · simp [hj, Ne.symm hj]

/-- A drain record that no queued entry carries any more is gone (R158). -/
theorem Region.recordOf_cleanDrains (r : Region) (j : Ident) :
    r.cleanDrains.recordOf j = (r.recordOf j).filter fun x => x.lasts (r.queued j) := by
  have hlookup : r.cleanDrains.lookup j = r.lookup j := rfl
  cases hj : r.lookup j with
  | some e =>
    rw [Region.recordOf_lookup (hlookup.trans hj), Region.recordOf_lookup hj]
    rfl
  | none =>
    have hdrain : r.cleanDrains.drain j = if r.queued j then r.drain j else none := by
      unfold Region.drain Region.cleanDrains
      rw [List.find?_filter]
      cases hq : r.queued j with
      | true =>
        rw [if_pos rfl]
        congr 1
        funext d
        by_cases hd : d.ident = j <;> simp [hd, hq]
      | false =>
        refine List.find?_eq_none.2 fun d _ h => ?_
        obtain ⟨hdq, hd⟩ : r.queued d.ident = true ∧ d.ident = j := by simpa using h
        simp [hd, hq] at hdq
    rw [Region.recordOf_drain (hlookup.trans hj), Region.recordOf_drain hj, hdrain]
    cases r.drain j with
    | none => cases r.queued j <;> rfl
    | some d => cases r.queued j <;> rfl

end Sys2Proof.Machine
end

section
/-!
PROOFS. A property of one region through every command: what each operation on a region keeps, every step keeps (8.1 to 8.8).
-/
namespace Sys2Proof.Machine

variable {s t : State} {P : Region → Prop} {g : RegionId}

/-- Every region has a property. -/
def State.regionsAre (P : Region → Prop) (s : State) : Prop := ∀ g, P (s.region g)

/-- Each operation that a command may make on a region keeps a property, and a region after a reset has it. -/
structure KeptInRegions (P : Region → Prop) : Prop where
  reset : P Region.reset
  queues : ∀ r mq eq, P r → P { r with mainQ := mq, expQ := eq }
  rewrite : ∀ r own want, P r → P (r.rewrite own want)
  configured : ∀ r (x : RegionConfig), P r → P (x.apply r)
  opened : ∀ r now, P r → P { r with clk := some (SlotClock.at now), nulls := [] }
  rebased : ∀ r now, P r → P (r.rebase now)
  owed : ∀ r i, P r → P (r.owe i)
  noted : ∀ r i last paid, P r → P (r.note i last paid)
  cleaned : ∀ r, P r → P r.cleanDrains
  served : ∀ r b k, P r → P { r with lastBegun := b, lastCarousel := k }
  stepped : ∀ r c null, P r → r.clk = some c → P (r.stepped (c.step r.rate) null)
  closed : ∀ r, P r → P { r with
    clk := none, rate := r.pendingRate.getD r.rate, pendingRate := none, mainQ := [], expQ := [], drains := [] }

theorem State.regionsAre.of_regions (hs : s.regionsAre P) (h : t.regions = s.regions) : t.regionsAre P := fun g => by
  rw [SameRegions.region h]
  exact hs g

theorem State.regionsAre.setRegion {x : Region} (hs : s.regionsAre P) (hx : P x) : (s.setRegion g x).regionsAre P := by
  intro h
  rw [State.setRegion_region]
  split
  · exact hx
  · exact hs h

theorem foldl_regionsAre {α : Type} {f : State → α → State} (h : ∀ t x, t.regionsAre P → (f t x).regionsAre P)
    (l : List α) (hs : s.regionsAre P) : (l.foldl f s).regionsAre P :=
  List.foldlRecOn l f (motive := fun t => t.regionsAre P) hs fun t ht x _ => h t x ht

/-! ## A request row -/

theorem serve_regionsAre {α : Type} {l : Link} {kind : Byte} {m : List Byte → Bool} {p : List Byte → Option α}
    {run : α → State → Answer} (hrun : ∀ x t, t.regionsAre P → (run x t).Leaves (State.regionsAre P))
    (hs : s.regionsAre P) : (serve l kind m p run s).regionsAre P :=
  serve_keeps (P := State.regionsAre P) (fun t l k ht => ht.of_regions (State.setLink_regions t l k))
    (fun _ _ _ ht => ht.of_regions rfl) hrun hs

theorem serve_sameRegions {α : Type} {l : Link} {kind : Byte} {m : List Byte → Bool} {p : List Byte → Option α}
    {run : α → State → Answer} (hrun : ∀ x t, (run x t).Leaves (SameRegions t)) (hs : s.regionsAre P) :
    (serve l kind m p run s).regionsAre P :=
  serve_regionsAre (fun x t ht => (hrun x t).mono fun _ h => ht.of_regions h) hs

theorem serve_switchingRegions {α : Type} {l : Link} {kind : Byte} {m : List Byte → Bool} {p : List Byte → Option α}
    {run : α → State → Answer} (hrun : ∀ x t, (run x t).Leaves (OnlySwitching t)) (hs : s.regionsAre P) :
    (serve l kind m p run s).regionsAre P :=
  serve_sameRegions (fun x t => (hrun x t).sameRegions) hs

/-! ## Registrations and carousels -/

namespace KeptInRegions

variable (hP : KeptInRegions P)
include hP

theorem rewriteAll (own : RegEntry → Bool) (want : RegionId → List Registration) (hs : s.regionsAre P) :
    (rewriteAll own want s).regionsAre P := fun g => by
  rw [rewriteAll_region]
  exact hP.rewrite _ own (want g) (hs g)

theorem setRewrite (g : RegionId) (own : RegEntry → Bool) (want : List Registration) (hs : s.regionsAre P) :
    (s.setRegion g ((s.region g).rewrite own want)).regionsAre P :=
  hs.setRegion (hP.rewrite _ own want (hs g))

theorem registerLive (k : CarouselId) (l : List Packet) (x : Option RegionId) (hs : s.regionsAre P) :
    (registerLive k l x s).regionsAre P := by
  unfold Machine.registerLive
  split
  · exact hP.setRewrite _ _ _ hs
  · exact hs

theorem swapEffect (k : CarouselId) (hs : s.regionsAre P) : (swapEffect k s).regionsAre P :=
  hP.registerLive _ _ _ (hs.of_regions (State.setCarousel_regions _ _ _))

theorem settleSwap (k : CarouselId) (hs : s.regionsAre P) : (settleSwap k s).regionsAre P := by
  unfold Machine.settleSwap
  split
  · exact hP.swapEffect k hs
  · exact hs

theorem endCycle (k : CarouselId) (hs : s.regionsAre P) : (endCycle k s).regionsAre P :=
  hP.settleSwap k (hs.of_regions (State.setCarousel_regions _ _ _))

theorem finishCycle (k : CarouselId) (hs : s.regionsAre P) : (finishCycle k s).regionsAre P := by
  have hswap := hP.settleSwap k (hs.of_regions (State.setCarousel_regions _ k { s.carousel k with cursor := none }))
  unfold Machine.finishCycle
  dsimp only
  split
  · exact hswap.of_regions rfl
  · split
    · exact hswap.of_regions rfl
    all_goals exact hswap

theorem advanceCursor (k : CarouselId) (hs : s.regionsAre P) : (advanceCursor k s).regionsAre P := by
  unfold Machine.advanceCursor
  dsimp only
  split
  · exact hs
  · split
    · exact hs.of_regions rfl
    · exact hP.finishCycle k hs

theorem takeSwap (k : CarouselId) (hs : s.regionsAre P) : (takeSwap k s).regionsAre P := by
  unfold Machine.takeSwap
  split
  · exact hs.of_regions rfl
  · exact hP.swapEffect k hs

/-! ## The multiplexer -/

theorem oweAll (r : Region) (es : List QEntry) (hr : P r) : P (r.oweAll es) :=
  List.foldlRecOn es _ (motive := P) hr fun x hx e _ => by
    split
    · exact hP.owed _ _ hx
    · exact hx

theorem dropLate (r : Region) (now : Clock) (hr : P r) : P (r.dropLate now) :=
  hP.cleaned _ (hP.oweAll _ _ (hP.queues r _ _ hr))

theorem discardLate (g : RegionId) (now : Clock) (hs : s.regionsAre P) : (discardLate g now s).regionsAre P := by
  refine State.regionsAre.of_regions (hs.setRegion (g := g) (hP.dropLate _ now (hs g))) ?_
  have hevents : ∀ (c : Cause) (o : ObjRef) (es : List QEntry) (t : State),
      (es.foldl (fun u _ => raiseEvent c o u) t).regions = t.regions := fun c o es t =>
    foldl_regions (fun u _ => raiseEvent_regions u c o) es t
  exact (hevents _ _ _ _).trans (hevents _ _ _ _)

theorem begun (r : Region) (e : QEntry) (p : Packet) (hr : P r) : P (r.begun e p) := hP.cleaned _ (hP.noted _ _ _ _ hr)

theorem beginChoice (g : RegionId) (now : Clock) (x : Choice) (hs : s.regionsAre P) :
    (beginChoice g now s x).2.regionsAre P := by
  cases x with
  | carousel k p =>
    exact hP.advanceCursor k (hs.setRegion (hP.served _ .carousel (some k) (hP.noted _ _ _ _ (hs g))))
  | main e rest =>
    exact hs.setRegion (g := g) (hP.served _ .main _ (hP.begun _ e _ (hP.queues _ rest _ (hs g))))
  | expendable e rest =>
    exact hs.setRegion (g := g) (hP.served _ .expendable _ (hP.begun _ e _ (hP.queues _ _ rest (hs g))))
  | null => exact hs.setRegion (hP.served _ .null _ (hs g))

theorem sendPacket (g : RegionId) (now : Clock) {c : SlotClock} (p : Packet) (hs : s.regionsAre P)
    (hc : (s.region g).clk = some c) : (sendPacket g now c p s).regionsAre P :=
  State.regionsAre.of_regions (hs.setRegion (g := g) (hP.stepped _ c _ (hs g) hc)) rfl

theorem slotInstant (g : RegionId) (hs : s.regionsAre P) : (slotInstant g s).regionsAre P := by
  unfold Machine.slotInstant
  split
  · have hready := hP.discardLate g s.clock (hs.setRegion (g := g) (hP.rebased _ s.clock (hs g)))
    dsimp only
    generalize Machine.discardLate g s.clock _ = u at hready ⊢
    have hbegun := hP.beginChoice g s.clock (u.choose g) hready
    generalize Machine.beginChoice g s.clock u _ = b at hbegun ⊢
    split
    · next hc => exact hP.sendPacket g _ _ hbegun hc
    · exact hbegun
  · exact hs

theorem startRegion (g : RegionId) (hs : s.regionsAre P) : (startRegion g s).regionsAre P :=
  hP.slotInstant g (hs.setRegion (g := g) (hP.opened _ s.clock (hs g)))

theorem stopRegion (g : RegionId) (hs : s.regionsAre P) : (stopRegion g s).regionsAre P := by
  refine foldl_regionsAre (fun t k ht => ?_) _ (hs.setRegion (g := g) ?_)
  · split
    · exact hP.endCycle k ht
    · exact ht
  · have howed := hP.oweAll (s.region g) ((s.region g).mainQ ++ (s.region g).expQ) (hs g)
    rw [Region.oweAll_only] at howed
    unfold Region.stopped
    rw [Region.oweAll_only]
    exact hP.closed _ howed

/-- The handling of a packet moves of a region the two queues alone (R42). -/
theorem takePacket (hs : s.regionsAre P) : (takePacket s).regionsAre P := by
  unfold Machine.takePacket
  split
  · exact hs
  · split
    · exact hs
    · next p _ _ a rest _ =>
      refine State.regionsAre.of_regions (fun g => ?_) settle_regions
      obtain ⟨-, -, -, -, -, hregion, -⟩ :=
        handlePacket_handling (p := p) (a := a) (s := { s.setPort p { s.port p with fifo := rest } with lastServed := p })
      rw [hregion g]
      exact hP.queues _ _ _ (hs g)

/-! ## The requests -/

theorem doComponentWrite (x : ComponentId × Component) (s : State) (hs : s.regionsAre P) :
    (doComponentWrite x s).Leaves (State.regionsAre P) := by
  refine .unless (.unless (.unless (.unless (.unless ?_))))
  split
  · trivial
  · exact hP.rewriteAll _ _ (hs.of_regions rfl)

theorem doComponentClear (c : ComponentId) (s : State) (hs : s.regionsAre P) :
    (doComponentClear c s).Leaves (State.regionsAre P) :=
  .unless (hP.rewriteAll _ _ (State.regionsAre.of_regions hs (State.setComponent_regions s c none)))

theorem doSlotWrite (x : SlotId × SlotDef) (s : State) (hs : s.regionsAre P) :
    (doSlotWrite x s).Leaves (State.regionsAre P) := by
  refine .unless ?_
  split
  · trivial
  · split
    · trivial
    · refine hP.rewriteAll _ _ (State.regionsAre.of_regions hs ?_)
      rw [State.setSlot_regions, foldl_regions fun t e => bindRole_regions x.1 e]
      rfl

theorem doSlotClear (sl : SlotId) (s : State) (hs : s.regionsAre P) : (doSlotClear sl s).Leaves (State.regionsAre P) := by
  unfold Machine.doSlotClear
  split
  · trivial
  · exact hP.rewriteAll _ _ (hs.of_regions rfl)

theorem doRegionConfig (x : RegionConfig) (s : State) (hs : s.regionsAre P) :
    (doRegionConfig x s).Leaves (State.regionsAre P) :=
  hs.setRegion (hP.configured _ x (hs x.region))

theorem doRegionStart (g : RegionId) (s : State) (hs : s.regionsAre P) :
    (doRegionStart g s).Leaves (State.regionsAre P) := by
  unfold Machine.doRegionStart
  split
  · exact hs
  · exact hP.startRegion g hs

theorem doRegionStop (g : RegionId) (s : State) (hs : s.regionsAre P) : (doRegionStop g s).Leaves (State.regionsAre P) := by
  unfold Machine.doRegionStop
  split
  · exact hs
  · exact hP.stopRegion g hs

theorem doCarouselConfig (x : CarouselConfig) (s : State) (hs : s.regionsAre P) :
    (doCarouselConfig x s).Leaves (State.regionsAre P) := by
  unfold Machine.doCarouselConfig
  dsimp only
  split
  · exact hs.of_regions rfl
  · refine .unless ?_
    split
    · trivial
    · exact State.regionsAre.of_regions (hP.registerLive _ [] _ (hP.setRewrite _ _ _ hs)) (State.setCarousel_regions _ _ _)

theorem doCarouselSwap (k : CarouselId) (s : State) (hs : s.regionsAre P) :
    (doCarouselSwap k s).Leaves (State.regionsAre P) := by
  unfold Machine.doCarouselSwap
  dsimp only
  split
  · trivial
  · refine .unless (.unless ?_)
    split
    · trivial
    · exact hP.takeSwap k (hP.setRewrite _ _ _ hs)

theorem doCarouselStop (k : CarouselId) (s : State) (hs : s.regionsAre P) :
    (doCarouselStop k s).Leaves (State.regionsAre P) := by
  change (if (s.carousel k).state = .idle then s else stopCarousel k s).regionsAre P
  split
  · exact hs
  · exact hP.endCycle k (hs.of_regions rfl)

theorem doCarouselClear (k : CarouselId) (s : State) (hs : s.regionsAre P) :
    (doCarouselClear k s).Leaves (State.regionsAre P) :=
  .unless (hP.registerLive k [] _ (hs.of_regions rfl))

/-! ## Every command and every step -/

theorem resetPart (cause : ResetCause) (s : State) : (resetPart cause s).regionsAre P := fun g => by
  have hregion : (Machine.resetPart cause s).region g = Region.reset := Vector.getElem_replicate g.isLt
  rw [hregion]
  exact hP.reset

theorem frameDone (l : Link) (hs : s.regionsAre P) : (frameDone l s).regionsAre P := by
  unfold Machine.frameDone
  split
  · exact hs
  · split
    · exact hP.resetPart _ _
    · exact hs.of_regions (State.setLink_regions _ _ _)

theorem resetTaken (hs : s.regionsAre P) :
    (if s.sendsResetReply then Machine.resetPart .request s else s).regionsAre P := by
  split
  · exact hP.resetPart _ _
  · exact hs

/-- Every command completes, and keeps the property in every region. -/
theorem exec_next (i : Instr) (hs : s.regionsAre P) : ∃ t, exec i s = .next t ∧ t.regionsAre P := by
  cases i with
  | powerOnReset => exact ⟨_, rfl, hP.resetPart _ s⟩
  | resetTakesEffect => exact ⟨_, rfl, hP.resetTaken hs⟩
  | linkByteReceived l b => exact ⟨_, rfl, hs.of_regions (receiveByte_regions l b)⟩
  | frameGapTimeout l => exact ⟨_, rfl, hs.of_regions (closeGap_regions l)⟩
  | frameSendBegin l => exact ⟨_, rfl, hs.of_regions (beginSend_regions l)⟩
  | frameSent l => exact ⟨_, rfl, hP.frameDone l hs⟩
  | unsupportedKind l => exact ⟨_, rfl, hs.of_regions (refuseUnsupported_regions l)⟩
  | identify l => exact ⟨_, rfl, serve_sameRegions (fun _ _ => rfl) hs⟩
  | statusRead l => exact ⟨_, rfl, serve_sameRegions (fun _ _ => rfl) hs⟩
  | statusClear l => exact ⟨_, rfl, serve_sameRegions (fun _ _ => rfl) hs⟩
  | reportSet l => exact ⟨_, rfl, serve_sameRegions doReportSet_regions hs⟩
  | reset l => exact ⟨_, rfl, serve_sameRegions (fun _ _ => rfl) hs⟩
  | timeSet l => exact ⟨_, rfl, serve_sameRegions doTimeSet_regions hs⟩
  | timeRead l => exact ⟨_, rfl, serve_sameRegions (fun _ _ => rfl) hs⟩
  | localClockWrap => exact ⟨_, rfl, hs.of_regions clockWrap_regions⟩
  | portStart l => exact ⟨_, rfl, serve_sameRegions doPortStart_regions hs⟩
  | portStop l => exact ⟨_, rfl, serve_sameRegions doPortStop_regions hs⟩
  | portConfig l => exact ⟨_, rfl, serve_sameRegions doPortConfig_regions hs⟩
  | portClear l => exact ⟨_, rfl, serve_sameRegions (fun _ _ => rfl) hs⟩
  | portRead l => exact ⟨_, rfl, serve_sameRegions (fun _ _ => rfl) hs⟩
  | portLineByte p b => exact ⟨_, rfl, hs.of_regions (lineByte_regions p b)⟩
  | classifierTake => exact ⟨_, rfl, hP.takePacket hs⟩
  | componentWrite l => exact ⟨_, rfl, serve_regionsAre hP.doComponentWrite hs⟩
  | componentClear l => exact ⟨_, rfl, serve_regionsAre hP.doComponentClear hs⟩
  | componentRead l => exact ⟨_, rfl, serve_sameRegions (fun _ _ => rfl) hs⟩
  | meterWrite l => exact ⟨_, rfl, serve_sameRegions (fun _ _ => rfl) hs⟩
  | meterRead l => exact ⟨_, rfl, serve_sameRegions doMeterRead_regions hs⟩
  | meterIdleRefresh m => exact ⟨_, rfl, hs.of_regions (refreshMeter_regions m)⟩
  | slotWrite l => exact ⟨_, rfl, serve_regionsAre hP.doSlotWrite hs⟩
  | slotClear l => exact ⟨_, rfl, serve_regionsAre hP.doSlotClear hs⟩
  | slotRead l => exact ⟨_, rfl, serve_sameRegions (fun _ _ => rfl) hs⟩
  | variantWrite l => exact ⟨_, rfl, serve_sameRegions doVariantWrite_regions hs⟩
  | variantClear l => exact ⟨_, rfl, serve_sameRegions doVariantClear_regions hs⟩
  | variantRead l => exact ⟨_, rfl, serve_sameRegions (fun _ _ => rfl) hs⟩
  | starvationExpiry v => exact ⟨_, rfl, hs.of_regions (starvationExpires_only s v).regions⟩
  | recoveryExpiry v => exact ⟨_, rfl, hs.of_regions (recoveryExpires_only s v).regions⟩
  | cueAdd l => exact ⟨_, rfl, serve_switchingRegions doCueAdd_only hs⟩
  | cueFallsDue => exact ⟨_, rfl, hs.of_regions cueDue_only.regions⟩
  | cueCancel l => exact ⟨_, rfl, serve_switchingRegions doCueCancel_only hs⟩
  | cueConfirm l => exact ⟨_, rfl, serve_switchingRegions doCueConfirm_only hs⟩
  | cueList l => exact ⟨_, rfl, serve_switchingRegions doCueList_only hs⟩
  | routeDeadline g sl => exact ⟨_, rfl, hs.of_regions (routeExpires_only g sl).regions⟩
  | routeTake l => exact ⟨_, rfl, serve_switchingRegions doRouteTake_only hs⟩
  | routeHold l => exact ⟨_, rfl, serve_switchingRegions doRouteHold_only hs⟩
  | routeFree l => exact ⟨_, rfl, serve_switchingRegions doRouteFree_only hs⟩
  | routeRead l => exact ⟨_, rfl, serve_switchingRegions doRouteRead_only hs⟩
  | tallyBind l => exact ⟨_, rfl, serve_sameRegions (fun _ _ => rfl) hs⟩
  | claim l => exact ⟨_, rfl, serve_sameRegions doClaim_regions hs⟩
  | unclaim l => exact ⟨_, rfl, serve_sameRegions (fun _ _ => setClaims_regions _ _ _) hs⟩
  | claimBreak l => exact ⟨_, rfl, serve_sameRegions (fun _ _ => setClaims_regions _ _ _) hs⟩
  | claimRead l => exact ⟨_, rfl, serve_sameRegions (fun _ _ => rfl) hs⟩
  | regionConfig l => exact ⟨_, rfl, serve_regionsAre hP.doRegionConfig hs⟩
  | regionStart l => exact ⟨_, rfl, serve_regionsAre hP.doRegionStart hs⟩
  | regionStop l => exact ⟨_, rfl, serve_regionsAre hP.doRegionStop hs⟩
  | regionRead l => exact ⟨_, rfl, serve_sameRegions doRegionRead_regions hs⟩
  | slotInstant g => exact ⟨_, rfl, hP.slotInstant g hs⟩
  | feedBind l => exact ⟨_, rfl, serve_sameRegions doFeedBind_regions hs⟩
  | carouselConfig l => exact ⟨_, rfl, serve_regionsAre hP.doCarouselConfig hs⟩
  | carouselAppend l => exact ⟨_, rfl, serve_sameRegions doCarouselAppend_regions hs⟩
  | carouselSwap l => exact ⟨_, rfl, serve_regionsAre hP.doCarouselSwap hs⟩
  | carouselStart l => exact ⟨_, rfl, serve_sameRegions doCarouselStart_regions hs⟩
  | carouselIntervalDeadline k => exact ⟨_, rfl, hs.of_regions (intervalReached_regions k)⟩
  | carouselStop l => exact ⟨_, rfl, serve_regionsAre hP.doCarouselStop hs⟩
  | carouselClear l => exact ⟨_, rfl, serve_regionsAre hP.doCarouselClear hs⟩
  | carouselRead l => exact ⟨_, rfl, serve_sameRegions (fun _ _ => rfl) hs⟩
  | captureRead l => exact ⟨_, rfl, serve_sameRegions (fun _ _ => rfl) hs⟩
  | captureRelease l => exact ⟨_, rfl, serve_sameRegions (fun _ _ => rfl) hs⟩
  | feedGoesIdle fd => exact ⟨_, rfl, hs.of_regions (idleFeed_regions fd)⟩

/-- Every step keeps the property in every region. -/
theorem step_next (hs : s.regionsAre P) (hstep : step s = .next t) : t.regionsAre P := by
  refine step_keeps (P := State.regionsAre P) (fun i u v hu hv => ?_) (fun _ h => h.of_regions rfl)
    (fun _ _ h => h.of_regions rfl) (fun _ _ h => h.of_regions rfl) hs hstep
  obtain ⟨w, hw, hok⟩ := hP.exec_next i hu
  rw [hw] at hv
  exact Host.Outcome.next.inj hv ▸ hok

end KeptInRegions

end Sys2Proof.Machine
end

section
/-!
PROOFS. The slot clock of every region stays exact, and each identifier of a region keeps one definer (R142, R144, R157,
R158).
-/
namespace Sys2Proof.Machine

variable {r r' : Region} {s t : State}

/-! ## The slot clock (R142 to R144) -/

theorem clamp_bounds {lo hi : Nat} (h : lo ≤ hi) (x : Nat) : lo ≤ clamp lo hi x ∧ clamp lo hi x ≤ hi :=
  ⟨le_min h (le_max_left _ _), min_le_left _ _⟩

theorem rateTaken_ok (x : Nat) : rateOk (rateTaken x) := clamp_bounds (by decide) x

/-- The index, the next instant and the accumulator of an exact slot clock at a rate (R144). -/
def SlotClock.exact (c : SlotClock) (rate : Nat) : Prop :=
  c.next = c.base + BitVec.ofNat 48 (c.index * Config.packetTicks / rate) ∧ c.acc = c.index * Config.packetTicks % rate

theorem SlotClock.at_exact (base : Clock) (rate : Nat) : (SlotClock.at base).exact rate := by
  simp [SlotClock.exact, SlotClock.at]

/-- One slot adds N to the numerator of the schedule: the quotient gains N / R, and one more where the remainders carry. -/
theorem SlotClock.step_exact {c : SlotClock} {rate : Nat} (h : c.exact rate) (hrate : 0 < rate) :
    (c.step rate).exact rate := by
  obtain ⟨hnext, hacc⟩ := h
  have hmul : (c.index + 1) * Config.packetTicks = c.index * Config.packetTicks + Config.packetTicks := Nat.succ_mul _ _
  have hdiv := Nat.add_div (a := c.index * Config.packetTicks) (b := Config.packetTicks) hrate
  have hmod := Nat.add_mod_eq_ite (k := rate) (m := c.index * Config.packetTicks) (n := Config.packetTicks)
  unfold SlotClock.step SlotClock.exact
  dsimp only
  rw [hacc]
  split
  · next hcarry =>
    rw [if_pos hcarry] at hdiv hmod
    dsimp only
    rw [hmul, hdiv, hmod, hnext, BitVec.add_assoc, ← BitVec.ofNat_add]
    exact ⟨by rw [Nat.add_assoc], rfl⟩
  · next hcarry =>
    rw [if_neg hcarry] at hdiv hmod
    dsimp only
    rw [hmul, hdiv, hmod, hnext, BitVec.add_assoc, ← BitVec.ofNat_add]
    exact ⟨rfl, rfl⟩

/-- What an exact slot clock is about: the clock, the rate in force and the pending rate alone. -/
theorem Region.clockOk.congr (h : r.clockOk) (hc : r'.clk = r.clk) (hr : r'.rate = r.rate)
    (hp : r'.pendingRate = r.pendingRate) : r'.clockOk := by
  unfold Region.clockOk
  rw [hc, hr, hp]
  exact h

theorem Region.clockOk.open (h : r.clockOk) (now : Clock) :
    ({ r with clk := some (SlotClock.at now), nulls := [] } : Region).clockOk := by
  obtain ⟨hrate, hpending, -⟩ := h
  exact ⟨hrate, hpending, fun c hc => Option.some.inj hc ▸ SlotClock.at_exact now r.rate⟩

/-- A pending rate becomes the rate in force with a new base (R143). -/
theorem Region.clockOk.rebase (h : r.clockOk) (now : Clock) : (r.rebase now).clockOk := by
  unfold Region.rebase
  split
  · next rate hp =>
    exact ⟨h.2.1 rate hp, fun p hp => absurd hp (by simp), fun c hc => Option.some.inj hc ▸ SlotClock.at_exact now rate⟩
  · exact h

theorem Region.clockOk.stepped {c : SlotClock} (h : r.clockOk) (hc : r.clk = some c) (null : Bool) :
    (r.stepped (c.step r.rate) null).clockOk := by
  obtain ⟨hrate, hpending, hexact⟩ := h
  have hpos : 0 < r.rate := by have := hrate.1; omega
  exact ⟨hrate, hpending, fun d hd => Option.some.inj hd ▸ SlotClock.step_exact (hexact c hc) hpos⟩

theorem Region.clockOk.configured (h : r.clockOk) (x : RegionConfig) : (x.apply r).clockOk := by
  obtain ⟨hrate, hpending, hexact⟩ := h
  refine Region.clockOk.congr (r := r.withRate x.rate) ?_ rfl rfl rfl
  unfold Region.withRate
  split
  · exact ⟨hrate, hpending, hexact⟩
  · next v _ hstopped => exact ⟨rateTaken_ok v, hpending, fun c hc => absurd (hstopped.symm.trans hc) (by simp)⟩
  · next v _ _ _ =>
    refine ⟨hrate, fun p hp => ?_, hexact⟩
    dsimp only at hp
    split at hp
    · exact absurd hp (by simp)
    · exact Option.some.inj hp ▸ rateTaken_ok v

/-- A pending rate is in force from the stop on (R146). -/
theorem Region.clockOk.closed (h : r.clockOk) :
    ({ r with
      clk := none, rate := r.pendingRate.getD r.rate, pendingRate := none, mainQ := [], expQ := [],
      drains := [] } : Region).clockOk := by
  obtain ⟨hrate, hpending, -⟩ := h
  refine ⟨?_, fun p hp => absurd hp (by simp), fun c hc => absurd hc (by simp)⟩
  dsimp only
  cases hp : r.pendingRate with
  | none => exact hrate
  | some p => exact hpending p hp

theorem keptInRegions_clockOk : KeptInRegions Region.clockOk where
  reset := ⟨by simp [rateOk, Region.reset], fun p hp => absurd hp (by simp [Region.reset]), fun c hc => absurd hc (by simp [Region.reset])⟩
  queues _ _ _ h := h
  rewrite r own want h := by rw [r.rewrite_only]; exact h
  configured _ x h := h.configured x
  opened _ now h := h.open now
  rebased _ now h := h.rebase now
  owed r i h := by rw [r.owe_only]; exact h
  noted r i last paid h := by rw [r.note_only]; exact h
  cleaned _ h := h
  served _ _ _ h := h
  stepped _ _ null h hc := h.stepped hc null
  closed _ h := h.closed

/-- Settles O55: each operation on a region keeps its slot clock exact. -/
theorem stepKeepsSlotClocksExact : Obligations.StepKeepsSlotClocksExact := fun _ _ hs hstep =>
  keptInRegions_clockOk.step_next hs hstep

/-! ## One definer for each identifier (R157, R158) -/

/-- Fewer entries and fewer drain records of the same identifiers keep one definer each. -/
theorem Region.namesOk.sublist (h : r.namesOk)
    (hreg : (r'.registry.map RegEntry.ident).Sublist (r.registry.map RegEntry.ident))
    (hdrain : (r'.drains.map DrainRec.ident).Sublist (r.drains.map DrainRec.ident)) : r'.namesOk := by
  obtain ⟨hsorted, hnodup, hapart⟩ := h
  have htoNat : ∀ l : List RegEntry, (l.map fun e => e.ident.toNat) = (l.map RegEntry.ident).map BitVec.toNat := fun l => by
    rw [List.map_map]
    rfl
  refine ⟨?_, hnodup.sublist hdrain, fun d hd e he => ?_⟩
  · rw [htoNat] at hsorted ⊢
    exact hsorted.sublist (hreg.map _)
  · obtain ⟨d', hd', hdi⟩ := List.mem_map.1 (hdrain.subset (List.mem_map_of_mem hd))
    obtain ⟨e', he', hei⟩ := List.mem_map.1 (hreg.subset (List.mem_map_of_mem he))
    rw [← hdi, ← hei]
    exact hapart d' hd' e' he'

/-- Entries that are rewritten under their own identifiers keep one definer each. -/
theorem Region.namesOk.of_idents (h : r.namesOk) (hreg : r'.registry.map RegEntry.ident = r.registry.map RegEntry.ident)
    (hdrain : r'.drains.map DrainRec.ident = r.drains.map DrainRec.ident) : r'.namesOk :=
  h.sublist (hreg ▸ .refl _) (hdrain ▸ .refl _)

theorem map_rewritten {α β : Type} {f : α → β} {u : α → α} (hu : ∀ x, f (u x) = f x) (c : α → Prop) [DecidablePred c]
    (l : List α) : (l.map fun x => if c x then u x else x).map f = l.map f := by
  rw [List.map_map]
  refine List.map_congr_left fun x _ => ?_
  dsimp only [Function.comp]
  split
  · exact hu x
  · rfl

theorem Region.namesOk.owe (h : r.namesOk) (i : Ident) : (r.owe i).namesOk := by
  unfold Region.owe
  split
  · exact h.of_idents (map_rewritten (u := fun e : RegEntry => { e with owed := true }) (fun _ => rfl) _ _) rfl
  · exact h.of_idents rfl (map_rewritten (u := fun d : DrainRec => { d with owed := true }) (fun _ => rfl) _ _)

theorem Region.namesOk.note (h : r.namesOk) (i : Ident) (last : Continuity) (paid : Bool) : (r.note i last paid).namesOk := by
  unfold Region.note
  split
  · exact h.of_idents
      (map_rewritten (u := fun e : RegEntry => { e with last := last, owed := e.owed && !paid }) (fun _ => rfl) _ _) rfl
  · exact h.of_idents rfl
      (map_rewritten (u := fun d : DrainRec => { d with last := last, owed := d.owed && !paid }) (fun _ => rfl) _ _)

theorem Region.namesOk.cleanDrains (h : r.namesOk) : r.cleanDrains.namesOk :=
  h.sublist (.refl _) (List.filter_sublist.map _)

/-- A registration that is made takes the place of the drain record of its identifier. -/
theorem Region.namesOk.register (h : r.namesOk) (x : Registration) : (r.register x).namesOk := by
  obtain ⟨hsorted, hnodup, hapart⟩ := h
  unfold Region.register
  split
  · exact ⟨hsorted, hnodup, hapart⟩
  · next hnew =>
    have hfree := (r.lookup_none x.1).1 hnew
    refine ⟨insertReg_sorted _ _ hsorted hfree, hnodup.sublist (List.filter_sublist.map _), fun d hd e he => ?_⟩
    obtain ⟨hd, hne⟩ := List.mem_filter.1 hd
    rcases (mem_insertReg _ _ e).1 he with rfl | he
    · simpa using hne
    · exact hapart d hd e he

/-- Registrations that are given up leave the registry before they become drain records. -/
theorem Region.namesOk.giveUp (h : r.namesOk) (which : RegEntry → Bool) : (r.giveUp which).namesOk := by
  obtain ⟨hsorted, hnodup, hapart⟩ := h
  have hregistry : (r.registry.map RegEntry.ident).Nodup := by
    rw [List.Nodup, List.pairwise_map]
    rw [List.pairwise_map] at hsorted
    exact hsorted.imp fun hlt heq => absurd hlt (by rw [heq]; exact lt_irrefl _)
  refine ⟨hsorted.sublist (List.filter_sublist.map _), ?_, fun d hd e he => ?_⟩
  · unfold Region.giveUp
    rw [List.map_append, List.map_map]
    refine hnodup.append (hregistry.sublist (List.filter_sublist.map _)) fun i hi hi' => ?_
    obtain ⟨d, hd, rfl⟩ := List.mem_map.1 hi
    obtain ⟨e, he, hid⟩ := List.mem_map.1 hi'
    exact hapart d hd e (List.mem_of_mem_filter he) hid.symm
  · obtain ⟨he, hkept⟩ := List.mem_filter.1 he
    rcases List.mem_append.1 hd with hd | hd
    · exact hapart d hd e he
    · obtain ⟨f, hf, rfl⟩ := List.mem_map.1 hd
      obtain ⟨hf, hgone⟩ := List.mem_filter.1 hf
      intro heq
      obtain rfl : f = e := List.inj_on_of_nodup_map hregistry hf he heq
      simp_all

theorem Region.namesOk.rewrite (h : r.namesOk) (own : RegEntry → Bool) (want : List Registration) :
    (r.rewrite own want).namesOk :=
  List.foldlRecOn want _ (motive := Region.namesOk) (h.giveUp _) fun _ hx x _ => hx.register x

theorem keptInRegions_namesOk : KeptInRegions Region.namesOk where
  reset := ⟨.nil, .nil, fun d hd => absurd hd (by simp [Region.reset])⟩
  queues _ _ _ h := h
  rewrite _ own want h := h.rewrite own want
  configured r x h := by
    unfold RegionConfig.apply Region.withRate
    split <;> exact h
  opened _ _ h := h
  rebased r now h := by
    unfold Region.rebase
    split <;> exact h
  owed _ i h := h.owe i
  noted _ i last paid h := h.note i last paid
  cleaned _ h := h.cleanDrains
  served _ _ _ h := h
  stepped _ _ _ h _ := h
  closed _ h := ⟨h.1, .nil, fun d hd => absurd hd (by simp)⟩

/-- Settles O58: each operation on a region keeps one definer for each identifier. -/
theorem stepKeepsOneDefinerPerIdentifier : Obligations.StepKeepsOneDefinerPerIdentifier := fun _ _ hs hstep =>
  keptInRegions_namesOk.step_next hs hstep

end Sys2Proof.Machine
end

section
/-!
PROOFS. The requests of a region's settings and of the feeds, and feeds that go idle (R142, R143, R159 to R162).
-/
namespace Sys2Proof.Machine

variable {s : State} {r : Region} {g : RegionId} {fd : FeedId} {l : Link}

/-! ## REGION_CONFIG (R142, R143) -/

/-- The body of a REGION_CONFIG. -/
def regionConfigBody (x : RegionConfig) : List Byte :=
  e1 x.region ++ eOpt e4 x.rate ++ eOpt (fun m => e1 (ArbiterMode.code m)) x.mode ++ eOpt e4 x.delay ++ eOpt e4 x.age

theorem rOpt_number {x : Option Nat} (hx : ∀ n ∈ x, n < 2 ^ 32) (rest : List Byte) :
    rOpt (rNat 4) (eOpt e4 x ++ rest) = some (x, rest) := by
  cases x with
  | none => exact rOpt_none _ _ _
  | some n => exact rOpt_some _ _ _ _ (rNat_e4 n _ (hx n rfl))

theorem readAll_regionConfig {x : RegionConfig} (hrate : ∀ n ∈ x.rate, n < 2 ^ 32) (hdelay : ∀ n ∈ x.delay, n < 2 ^ 32)
    (hage : ∀ n ∈ x.age, n < 2 ^ 32) : readAll rRegionConfig (regionConfigBody x) = some x := by
  have hmode : ∀ m : ArbiterMode, m.code < 256 ∧ [ArbiterMode.fixed, .rotate][m.code]? = some m := by
    rintro (_ | _) <;> exact ⟨by decide, rfl⟩
  have hlast : rOpt (rNat 4) (eOpt e4 x.age) = some (x.age, []) := by simpa using rOpt_number hage []
  refine readAll_some _ _ _ ?_
  simp only [rRegionConfig, regionConfigBody, List.append_assoc]
  rw [rThen_some _ _ _ _ _ _ _ (rIndex_e1 x.region (by decide) _)
    (rThen_some _ _ _ _ _ _ _ (rOpt_number hrate _)
      (rThen_some _ _ _ _ _ _ _ (rOpt_setting hmode x.mode _)
        (rThen_some _ _ _ _ _ _ _ (rOpt_number hdelay _) hlast)))]
  rfl

theorem Region.withRate_none (r : Region) : r.withRate none = r := rfl

theorem Region.withRate_stopped (h : r.clk = none) (x : Nat) : r.withRate (some x) = { r with rate := rateTaken x } := by
  unfold Region.withRate
  rw [h]

theorem Region.withRate_running {c : SlotClock} (h : r.clk = some c) (x : Nat) :
    r.withRate (some x) =
      { r with pendingRate := if rateTaken x = r.rate then none else some (rateTaken x) } := by
  unfold Region.withRate
  rw [h]

/-- The rate and the pending rate after a REGION_CONFIG, and nothing else by its rate (R142, R143). -/
theorem Region.withRate_eq (r : Region) (x : Option Nat) :
    r.withRate x = { r with
      rate := if r.clk = none then (x.map rateTaken).getD r.rate else r.rate
      pendingRate := if r.clk = none ∨ x.map rateTaken = none then r.pendingRate
        else if x.map rateTaken = some r.rate then none else x.map rateTaken } := by
  cases x with
  | none => simp [Region.withRate_none]
  | some v =>
    cases h : r.clk with
    | none => simp [Region.withRate_stopped h, h]
    | some c => simp [Region.withRate_running h, h]

/-- The settings that a REGION_CONFIG leaves. -/
theorem RegionConfig.apply_eq (x : RegionConfig) (r : Region) :
    x.apply r = { r with
      mode := x.mode.getD r.mode
      delayMs := (x.delay.map (clamp 5 500)).getD r.delayMs
      ageMs := (x.age.map (clamp 5 2000)).getD r.ageMs
      rate := if r.clk = none then (x.rate.map rateTaken).getD r.rate else r.rate
      pendingRate := if r.clk = none ∨ x.rate.map rateTaken = none then r.pendingRate
        else if x.rate.map rateTaken = some r.rate then none else x.rate.map rateTaken } := by
  unfold RegionConfig.apply
  rw [Region.withRate_eq]
  cases x.delay <;> cases x.age <;> rfl

/-- The rate in the reply: the one taken, or else the rate in force (log entry 32). -/
theorem RegionConfig.rateReply_eq (x : RegionConfig) (r : Region) :
    x.rateReply (x.apply r) = (x.rate.map rateTaken).getD r.rate := by
  rw [RegionConfig.apply_eq]
  unfold RegionConfig.rateReply
  cases x.rate <;> simp

theorem RegionConfig.apply_clk (x : RegionConfig) (r : Region) : (x.apply r).clk = r.clk := by rw [x.apply_eq]

theorem RegionConfig.apply_rate (x : RegionConfig) (h : r.clk ≠ none) : (x.apply r).rate = r.rate := by
  rw [x.apply_eq]
  exact if_neg h

/-- The answer of a REGION_CONFIG: a RUNNING region adds the rate in force and the pending rate. -/
theorem doRegionConfig_eq (x : RegionConfig) (s : State) :
    doRegionConfig x s = .ok
      (e4 ((x.rate.map rateTaken).getD (s.region x.region).rate) ++ e1 (x.apply (s.region x.region)).mode.code ++
        e4 (x.apply (s.region x.region)).delayMs ++ e4 (x.apply (s.region x.region)).ageMs ++
        (if (s.region x.region).clk = none then [0]
          else [1] ++ e4 (s.region x.region).rate ++ eOpt e4 (x.apply (s.region x.region)).pendingRate))
      (s.setRegion x.region (x.apply (s.region x.region))) := by
  unfold doRegionConfig
  dsimp only
  rw [x.rateReply_eq, x.apply_clk]
  cases h : (s.region x.region).clk with
  | none => rfl
  | some c =>
    rw [x.apply_rate (by simp [h])]
    rfl

/-! ## REGION_READ (R159) -/

theorem readAll_regionRead (g : RegionId) : readAll rRegionRead (e1 g ++ [0]) = some (g, none) :=
  readAll_some _ _ _ (rThen_some _ _ _ _ _ _ _ (rIndex_e1 g (by decide) _) rfl)

theorem readAll_regionRead_from (g : RegionId) {i : Ident} (hi : i ≠ 8191) :
    readAll rRegionRead (e1 g ++ [1] ++ e2 i.toNat) = some (g, some i) := by
  have hident : rWhen rIdent (fun i => decide (i ≠ nullIdent)) (e2 i.toNat ++ []) = some (i, []) :=
    rWhen_some _ _ _ _ _ (rIdent_e2 i []) (decide_eq_true hi)
  have hopt := rOpt_some _ (fun i : Ident => e2 i.toNat) i [] hident
  rw [List.append_nil] at hopt
  rw [List.append_assoc]
  exact readAll_some _ _ _ (rThen_some _ _ _ _ _ _ _ (rIndex_e1 g (by decide) _) hopt)

/-- The null identifier is no starting identifier. -/
theorem readAll_regionRead_null (g : RegionId) : readAll rRegionRead (e1 g ++ [1] ++ e2 8191) = none := by
  rw [List.append_assoc]
  exact readAll_none (rThen_none (rIndex_e1 g (by decide) _) (rOpt_present (by decide)))

/-- The model's bytes of a region are those of the rules. -/
theorem eRegion_eq (s : State) (g : RegionId) : eRegion s g = regionBytes s g := rfl

/-- Settles O44: the bodies read as they were written, and the settings taken are those of the rules. -/
theorem regionConfigAndRead : Obligations.RegionConfigAndRead := by
  refine ⟨?config, fun l g s hc => ⟨?read, fun i hi => ?entries, ?null⟩⟩
  case config =>
    rintro g rate delay age mode r new taken s hc hrate hdelay hage rfl htaken hnew
    obtain rfl : taken = rate.map rateTaken := htaken
    have hread := readAll_regionConfig (x := { region := g, rate := rate, mode := mode, delay := delay, age := age })
      hrate hdelay hage
    obtain rfl := hnew.trans (RegionConfig.apply_eq
      { region := g, rate := rate, mode := mode, delay := delay, age := age } (s.region g)).symm
    exact answers_of_serve (fun _ => rfl) hc (.inl rfl) hread (doRegionConfig_eq _ s)
  case read => exact answers_of_serve (fun _ => rfl) hc (.inr rfl) (readAll_regionRead g) (by rw [doRegionRead, eRegion_eq])
  case entries => exact answers_of_serve (fun _ => rfl) hc (.inr rfl) (readAll_regionRead_from g hi) rfl
  case null => exact refuses_badField_of_serve (fun _ => rfl) hc (.inr rfl) (readAll_regionRead_null g)

/-! ## Feeds (R160 to R162) -/

/-- The bindings of the feeds in their order. -/
theorem eFeeds_eq (s : State) :
    (s.feeds.toList.flatMap fun x => eOpt (fun g : RegionId => e1 g) x.bound) =
      (List.finRange 16).flatMap fun f => eOpt (fun g : RegionId => e1 g) (s.feed f).bound := by
  have hlist : s.feeds.toList = (List.finRange 16).map s.feed :=
    List.ext_getElem (by simp) fun i hi hj => by simp [State.feed]
  rw [hlist, List.flatMap_map]

theorem readAll_feedBind (fd : FeedId) (x : Option RegionId) :
    readAll (rThen (rIndex 16) (rOpt (rIndex 8))) (e1 fd ++ eOpt (fun g : RegionId => e1 g) x) = some (fd, x) :=
  readAll_some _ _ _ (rThen_some _ _ _ _ _ _ _ (rIndex_e1 fd (by decide) _) (by simpa using rOpt_index (by decide) x []))

theorem feedDone_idle (h : (s.feed fd).out = none) : s.feedDone fd = false := by
  unfold State.feedDone
  rw [h]

/-- The feed of a RUNNING region carries on. -/
theorem feedDone_running (hb : (s.feed fd).bound = some g) (hc : (s.region g).clk ≠ none) : s.feedDone fd = false := by
  unfold State.feedDone State.regionRunning
  rw [hb]
  cases (s.feed fd).out <;> simp [hc]

/-- The feed of no RUNNING region has done with its packet once its time has passed (R162). -/
theorem feedDone_stopped {o : FeedOut} (ho : (s.feed fd).out = some o)
    (hb : ∀ g, (s.feed fd).bound = some g → (s.region g).clk = none) :
    s.feedDone fd = decide ((o.ends - o.begun).toNat ≤ (s.clock - o.begun).toNat) := by
  have hrunning : s.regionRunning (s.feed fd).bound = false := by
    unfold State.regionRunning
    split
    · next g hg => rw [hb g hg]; rfl
    · rfl
  unfold State.feedDone
  rw [ho, hrunning]
  rfl

theorem idleFeed_waits (h : s.feedDone fd = false) : idleFeed fd s = s := if_neg (by simp [h])

/-- Settles O49: the binding that FEED_BIND leaves, and the moment at which a feed has done with its packet. -/
theorem feedsBindAndGoIdle : Obligations.FeedsBindAndGoIdle := by
  refine ⟨?bind, fun fd s => ⟨fun h => ?idle, fun g hb hc => ?running, fun o ho hb => ?stopped⟩⟩
  case bind =>
    rintro fd x s t hc rfl
    refine answers_of_serve (fun _ => rfl) hc (.inl rfl) (readAll_feedBind fd x) ?_
    unfold doFeedBind
    dsimp only
    rw [eFeeds_eq]
    rfl
  case idle => exact congrArg Host.Outcome.next (idleFeed_waits (feedDone_idle h))
  case running => exact congrArg Host.Outcome.next (idleFeed_waits (feedDone_running hb hc))
  case stopped =>
    refine congrArg Host.Outcome.next ?_
    rw [idleFeed, feedDone_stopped ho hb]
    simp only [decide_eq_true_eq]

end Sys2Proof.Machine
end

section
/-!
PROOFS. The parts of a slot instant: what it may change, the packet references that it drops, the heads that it discards and
the state in which it chooses (R63, R143, R148, R155, R158).
-/
namespace Sys2Proof.Machine

variable {s t u : State} {g : RegionId} {k : CarouselId} {r : Region} {now : Clock} {c : SlotClock} {p : Packet}

/-! ## References dropped one after another (R63) -/

theorem droppedFrom_nil (pool : List Buffer) : droppedFrom [] pool = pool := by simp [droppedFrom]

theorem droppedFrom_cons (id : Nat) (ids : List Nat) (pool : List Buffer) :
    droppedFrom (id :: ids) pool = droppedFrom ids (dropRef id pool) := by
  unfold droppedFrom dropRef
  rw [List.filterMap_filterMap]
  refine List.filterMap_congr fun b _ => ?_
  rw [List.count_cons]
  by_cases hid : b.id = id
  · subst hid
    by_cases hlast : b.refs ≤ 1
    · have : b.refs ≤ ids.count b.id + 1 := by omega
      simp [hlast, this]
    · by_cases hnone : ids.count b.id = 0
      · simp [hlast, hnone]
      · by_cases hall : b.refs ≤ ids.count b.id + 1
        · simp [hlast, hnone, hall]
        · simp [hlast, hnone, hall]
          omega
  · have hne : ¬ id = b.id := fun e => hid e.symm
    simp [hid, hne]

/-- References that are dropped one after another are dropped together. -/
theorem foldl_dropRef (ids : List Nat) (pool : List Buffer) :
    ids.foldl (fun p id => dropRef id p) pool = droppedFrom ids pool := by
  induction ids generalizing pool with
  | nil => exact (droppedFrom_nil pool).symm
  | cons id ids ih => rw [List.foldl_cons, ih, droppedFrom_cons]

theorem releaseAll_eq (es : List QEntry) (s : State) :
    releaseAll es s = { s with pool := droppedFrom (es.map QEntry.buf) s.pool } := by
  rw [← foldl_dropRef, List.foldl_map]
  rfl

theorem droppedFrom_append (a b : List Nat) (pool : List Buffer) :
    droppedFrom (a ++ b) pool = droppedFrom b (droppedFrom a pool) := by
  rw [← foldl_dropRef, ← foldl_dropRef, ← foldl_dropRef, List.foldl_append]

/-! ## What a slot instant may change -/

theorem OnlyInstant.refl (g : RegionId) (s : State) : OnlyInstant g s s :=
  ⟨rfl, .refl _, .refl _, fun _ _ => rfl, fun _ _ => rfl⟩

theorem OnlyInstant.trans (h : OnlyInstant g s t) (h' : OnlyInstant g t u) : OnlyInstant g s u := by
  obtain ⟨hst, hmgmt, hcue, hregion, hcarousel⟩ := h
  obtain ⟨htu, hmgmt', hcue', hregion', hcarousel'⟩ := h'
  refine ⟨?_, hmgmt.trans hmgmt', hcue.trans hcue', fun h hh => (hregion' h hh).trans (hregion h hh), fun k hk => ?_⟩
  · rw [htu, hst]
  · have hk' := hcarousel k hk
    exact (hcarousel' k (hk'.symm ▸ hk)).trans hk'

theorem OnlyReports.instant (h : OnlyReports s t) : OnlyInstant g s t := by
  obtain ⟨hst, hmgmt, hcue⟩ := h
  refine ⟨?_, hmgmt, hcue, fun h _ => (congrArg (fun x : State => x.region h) hst :), fun k _ =>
    (congrArg (fun x : State => x.carousel k) hst :)⟩
  rw [hst]

theorem setRegion_instant (g : RegionId) (x : Region) (s : State) : OnlyInstant g s (s.setRegion g x) :=
  ⟨rfl, .refl _, .refl _, fun _ hh => State.setRegion_region_ne _ _ _ _ hh.symm, fun _ _ => rfl⟩

theorem setCarousel_instant (hk : (s.carousel k).region = some g) (x : Carousel) : OnlyInstant g s (s.setCarousel k x) :=
  ⟨rfl, .refl _, .refl _, fun _ _ => rfl, fun _ hj =>
    State.setCarousel_carousel_ne _ _ _ _ fun e => hj (e ▸ hk)⟩

theorem releaseAll_instant (es : List QEntry) (s : State) : OnlyInstant g s (releaseAll es s) :=
  ⟨rfl, .refl _, .refl _, fun _ _ => rfl, fun _ _ => rfl⟩

theorem foldl_raiseEvent_only {α : Type} (c : Cause) (o : ObjRef) (l : List α) (s : State) :
    OnlyReports s (l.foldl (fun u _ => raiseEvent c o u) s) :=
  List.foldlRecOn l _ (motive := OnlyReports s) (.refl s) fun t ht _ _ => ht.trans (raiseEvent_only t c o)

/-! ## What reports leave -/

theorem OnlyReports.region (h : OnlyReports s t) (g : RegionId) : t.region g = s.region g :=
  (congrArg (fun x : State => x.region g) h.1 :)

theorem OnlyReports.pool (h : OnlyReports s t) : t.pool = s.pool := (congrArg State.pool h.1 :)

theorem OnlyReports.carousels (h : OnlyReports s t) : t.carousels = s.carousels := (congrArg State.carousels h.1 :)

theorem OnlyReports.feeds (h : OnlyReports s t) : t.feeds = s.feeds := (congrArg State.feeds h.1 :)

/-- Events that are raised keep the detected flags that stand, and set that of their class. -/
theorem foldl_raiseEvent_has {α : Type} (c : Cause) (o : ObjRef) (l : List α) (s : State) (e : EventClass) :
    (l.foldl (fun u _ => raiseEvent c o u) s).detected.has e =
      (s.detected.has e || (decide (e = c.cls) && !l.isEmpty)) := by
  induction l generalizing s with
  | nil => simp
  | cons a l ih =>
    rw [List.foldl_cons, ih, raiseEvent_has]
    cases s.detected.has e <;> cases decide (e = c.cls) <;> simp

/-! ## The heads that an instant discards (R148) -/

theorem drop_length_takeWhile {α : Type} (f : α → Bool) (l : List α) : l.drop (l.takeWhile f).length = l.dropWhile f := by
  have h := List.drop_left (l₁ := l.takeWhile f) (l₂ := l.dropWhile f)
  rwa [List.takeWhile_append_dropWhile] at h

/-- A pending rate takes effect with a new base (R143). -/
theorem Region.rebase_eq (r : Region) (now : Clock) :
    r.rebase now = { r with
      rate := r.pendingRate.getD r.rate
      pendingRate := none
      clk := if r.pendingRate = none then r.clk else some (SlotClock.at now) } := by
  unfold Region.rebase
  cases h : r.pendingRate with
  | none => cases r; simp_all
  | some rate => rfl

/-- The entries that a slot instant discards: of each queue those up to the first that has not waited too long. -/
def Region.discards (r : Region) (now : Clock) : List QEntry :=
  (r.mainQ.takeWhile fun e => e.over r.delayMs now) ++ r.expQ.takeWhile fun e => e.over r.ageMs now

theorem Region.dropLate_eq (r : Region) (now : Clock) :
    r.dropLate now = (({ r with
      mainQ := r.mainQ.dropWhile fun e => e.over r.delayMs now
      expQ := r.expQ.dropWhile fun e => e.over r.ageMs now } : Region).oweAll (r.discards now)).cleanDrains := by
  rw [← drop_length_takeWhile, ← drop_length_takeWhile]
  rfl

theorem Region.dropLate_only (r : Region) (now : Clock) :
    r.dropLate now = { r with
      mainQ := r.mainQ.dropWhile fun e => e.over r.delayMs now
      expQ := r.expQ.dropWhile fun e => e.over r.ageMs now
      registry := (r.dropLate now).registry
      drains := (r.dropLate now).drains } := by
  rw [Region.dropLate_eq, Region.oweAll_only]
  rfl

/-- The region in which a slot instant chooses. -/
def Region.readied (r : Region) (now : Clock) : Region := (r.rebase now).dropLate now

theorem Region.readied_only (r : Region) (now : Clock) :
    r.readied now = { r with
      rate := r.pendingRate.getD r.rate
      pendingRate := none
      clk := if r.pendingRate = none then r.clk else some (SlotClock.at now)
      mainQ := r.mainQ.dropWhile fun e => e.over r.delayMs now
      expQ := r.expQ.dropWhile fun e => e.over r.ageMs now
      registry := (r.readied now).registry
      drains := (r.readied now).drains } := by
  unfold Region.readied
  rw [Region.dropLate_only, Region.rebase_eq]

/-- The records after the head discards: the discontinuities of the discarded entries are owed, and a drain record that no
entry carries any more is gone (R155, R158). -/
theorem Region.recordOf_readied (r : Region) (now : Clock) (j : Ident) :
    (r.readied now).recordOf j =
      ((r.recordOf j).map fun x => { x with owed := r.owedAfter (r.discards now) j }).filter fun x =>
        x.lasts ((r.readied now).queued j) := by
  have hqueued : ∀ x : Region, x.cleanDrains.queued j = x.queued j := fun _ => rfl
  unfold Region.readied
  rw [Region.dropLate_eq, Region.recordOf_cleanDrains, Region.recordOf_oweAll, hqueued, Region.rebase_eq]
  refine congrArg (fun x => Option.filter _ x) (Option.map_congr fun x hx => ?_)
  have howed : r.isOwed j = x.owed := by
    rw [Region.isOwed_eq]
    exact congrArg (fun y : Option IdentRecord => (y.map IdentRecord.owed).getD false) hx
  rw [Region.owedAfter, howed]
  rfl

end Sys2Proof.Machine
end

section
/-!
PROOFS. A slot instant step by step: the state in which it chooses, the choice, the packet begun and the feeds that carry it
(R143, R144, R148 to R151, R160, R171, R176); and what every slot instant does.
-/
namespace Sys2Proof.Machine

variable {s t u : State} {g : RegionId} {k : CarouselId} {r : Region} {now : Clock} {c : SlotClock} {p : Packet} {i : Nat}

/-! ## The state in which an instant chooses (R143, R148) -/

theorem State.setRegion_setRegion (s : State) (g : RegionId) (x y : Region) :
    (s.setRegion g x).setRegion g y = s.setRegion g y := by
  simp [State.setRegion]

/-- The head discards but for their events. -/
def lateDropped (g : RegionId) (now : Clock) (s : State) : State :=
  releaseAll ((s.region g).discards now) (s.setRegion g ((s.region g).dropLate now))

theorem discardLate_reports (g : RegionId) (now : Clock) (s : State) :
    OnlyReports (lateDropped g now s) (discardLate g now s) :=
  OnlyReports.trans (foldl_raiseEvent_only _ _ _ _) (foldl_raiseEvent_only _ _ _ _)

/-- The state in which a slot instant chooses: a pending rate is in force, and the late heads are gone. -/
def instantReady (g : RegionId) (s : State) : State :=
  discardLate g s.clock (s.setRegion g ((s.region g).rebase s.clock))

theorem instantReady_reports (g : RegionId) (s : State) :
    OnlyReports (releaseAll ((s.region g).discards s.clock) (s.setRegion g ((s.region g).readied s.clock)))
      (instantReady g s) := by
  have h := discardLate_reports g s.clock (s.setRegion g ((s.region g).rebase s.clock))
  have hdiscards : ((s.region g).rebase s.clock).discards s.clock = (s.region g).discards s.clock := by
    rw [Region.rebase_eq]
    rfl
  unfold lateDropped at h
  rw [State.setRegion_region_self, hdiscards, State.setRegion_setRegion] at h
  exact h

theorem instantReady_instant (g : RegionId) (s : State) : OnlyInstant g s (instantReady g s) :=
  ((setRegion_instant g _ s).trans (releaseAll_instant _ _)).trans (instantReady_reports g s).instant

theorem instantReady_region (g : RegionId) (s : State) :
    (instantReady g s).region g = (s.region g).readied s.clock := by
  rw [(instantReady_reports g s).region]
  exact State.setRegion_region_self s g _

theorem instantReady_pool (g : RegionId) (s : State) :
    (instantReady g s).pool = droppedFrom (((s.region g).discards s.clock).map QEntry.buf) s.pool := by
  rw [(instantReady_reports g s).pool, releaseAll_eq]
  rfl

theorem instantReady_carousels (g : RegionId) (s : State) : (instantReady g s).carousels = s.carousels :=
  (instantReady_reports g s).carousels

theorem instantReady_carousel (g : RegionId) (s : State) (k : CarouselId) :
    (instantReady g s).carousel k = s.carousel k := by
  unfold State.carousel
  rw [instantReady_carousels]

theorem instantReady_feeds (g : RegionId) (s : State) : (instantReady g s).feeds = s.feeds :=
  (instantReady_reports g s).feeds

/-- Each queue that loses heads raises the events of its class (R148). -/
theorem instantReady_has (g : RegionId) (s : State) (e : EventClass) :
    (instantReady g s).detected.has e =
      (s.detected.has e ||
        (decide (e = .degraded) && !((s.region g).mainQ.takeWhile fun x => x.over (s.region g).delayMs s.clock).isEmpty) ||
        (decide (e = .note) && !((s.region g).expQ.takeWhile fun x => x.over (s.region g).ageMs s.clock).isEmpty)) := by
  have hlate : ((s.region g).rebase s.clock).late s.clock =
      (s.region g).mainQ.takeWhile fun x => x.over (s.region g).delayMs s.clock := by
    rw [Region.rebase_eq]
    rfl
  have haged : ((s.region g).rebase s.clock).aged s.clock =
      (s.region g).expQ.takeWhile fun x => x.over (s.region g).ageMs s.clock := by
    rw [Region.rebase_eq]
    rfl
  unfold instantReady discardLate
  dsimp only
  rw [foldl_raiseEvent_has, foldl_raiseEvent_has, State.setRegion_region_self, hlate, haged]
  rfl

/-! ## The carousels of a region -/

/-- Only the carousels of a region and its registrations move, with reports. -/
def OnlyCycling (g : RegionId) (s t : State) : Prop :=
  t = { s with
    regions := t.regions, carousels := t.carousels, detected := t.detected, mgmt := t.mgmt, cueLink := t.cueLink } ∧
    s.mgmt.sameButNotices t.mgmt ∧ s.cueLink.sameButNotices t.cueLink ∧ (∀ h, h ≠ g → t.region h = s.region h) ∧
    t.region g = { s.region g with registry := (t.region g).registry, drains := (t.region g).drains } ∧
    ∀ k, (s.carousel k).region ≠ some g → t.carousel k = s.carousel k

theorem OnlyCycling.refl (g : RegionId) (s : State) : OnlyCycling g s s :=
  ⟨rfl, .refl _, .refl _, fun _ _ => rfl, rfl, fun _ _ => rfl⟩

theorem OnlyCycling.trans (h : OnlyCycling g s t) (h' : OnlyCycling g t u) : OnlyCycling g s u := by
  obtain ⟨hst, hmgmt, hcue, hregion, hself, hcarousel⟩ := h
  obtain ⟨htu, hmgmt', hcue', hregion', hself', hcarousel'⟩ := h'
  refine ⟨?_, hmgmt.trans hmgmt', hcue.trans hcue', fun h hh => (hregion' h hh).trans (hregion h hh), ?_, fun k hk => ?_⟩
  · rw [htu, hst]
  · rw [hself', hself]
  · have hk' := hcarousel k hk
    exact (hcarousel' k (hk'.symm ▸ hk)).trans hk'

theorem OnlyReports.cycling (h : OnlyReports s t) (g : RegionId) : OnlyCycling g s t := by
  have hregion := h.region
  obtain ⟨hst, hmgmt, hcue⟩ := h
  refine ⟨?_, hmgmt, hcue, fun h _ => hregion h, ?_, fun k _ => (congrArg (fun x : State => x.carousel k) hst :)⟩
  · rw [hst]
  · rw [hregion]

theorem OnlyCycling.instant (h : OnlyCycling g s t) : OnlyInstant g s t := by
  obtain ⟨hst, hmgmt, hcue, hregion, -, hcarousel⟩ := h
  refine ⟨?_, hmgmt, hcue, hregion, hcarousel⟩
  rw [hst]

theorem setCarousel_cycling (hk : (s.carousel k).region = some g) (x : Carousel) : OnlyCycling g s (s.setCarousel k x) :=
  ⟨rfl, .refl _, .refl _, fun _ _ => rfl, rfl, fun _ hj => State.setCarousel_carousel_ne _ _ _ _ fun e => hj (e ▸ hk)⟩

theorem setRewrite_cycling (g : RegionId) (own : RegEntry → Bool) (want : List Registration) (s : State) :
    OnlyCycling g s (s.setRegion g ((s.region g).rewrite own want)) := by
  refine ⟨rfl, .refl _, .refl _, fun _ hh => State.setRegion_region_ne _ _ _ _ hh.symm, ?_, fun _ _ => rfl⟩
  rw [State.setRegion_region_self]
  exact Region.rewrite_only _ _ _

theorem registerLive_cycling (k : CarouselId) (l : List Packet) (g : RegionId) (s : State) :
    OnlyCycling g s (registerLive k l (some g) s) := setRewrite_cycling g _ _ s

theorem registerLive_carousel (k j : CarouselId) (l : List Packet) (x : Option RegionId) (s : State) :
    (registerLive k l x s).carousel j = s.carousel j := by
  unfold registerLive
  split <;> rfl

/-- A swap that was pending has taken effect. -/
theorem settleSwap_carousel (k j : CarouselId) (s : State) :
    (settleSwap k s).carousel j = if k = j then (s.carousel k).settled else s.carousel j := by
  unfold settleSwap Carousel.settled
  split
  · rw [swapEffect, registerLive_carousel, State.setCarousel_carousel]
    rfl
  · split
    · next h => rw [h]
    · rfl

theorem Carousel.settled_region (c : Carousel) : c.settled.region = c.region := by
  unfold Carousel.settled
  split <;> rfl

theorem settleSwap_cycling (hk : (s.carousel k).region = some g) : OnlyCycling g s (settleSwap k s) := by
  unfold settleSwap
  split
  · have hregion : ((s.carousel k).swapped).region = some g := hk
    unfold swapEffect
    dsimp only
    rw [hregion]
    exact (setCarousel_cycling hk _).trans (registerLive_cycling k _ g _)
  · exact .refl g s

theorem settleSwap_noSwap (h : (s.carousel k).swapPending = false) : settleSwap k s = s := if_neg (by simp [h])

/-- The end of a cycle with a pending swap settled, before the carousel goes on by its mode (R171). -/
def cycleClosed (k : CarouselId) (s : State) : State := settleSwap k (s.setCarousel k { s.carousel k with cursor := none })

theorem cycleClosed_cycling (hk : (s.carousel k).region = some g) : OnlyCycling g s (cycleClosed k s) :=
  (setCarousel_cycling hk _).trans (settleSwap_cycling (by rw [State.setCarousel_carousel_self]; exact hk))

theorem cycleClosed_region (hk : (s.carousel k).region = some g) : ((cycleClosed k s).carousel k).region = some g := by
  rw [cycleClosed, settleSwap_carousel, if_pos rfl, Carousel.settled_region, State.setCarousel_carousel_self]
  exact hk

/-- What the finish of a cycle can do, said once: the carousel goes on by its mode, and a late one raises its event. -/
theorem finishCycle_cases (k : CarouselId) (s : State) :
    finishCycle k s = cycleClosed k s ∨ (∃ x, finishCycle k s = (cycleClosed k s).setCarousel k x) ∨
      ∃ x, finishCycle k s = raiseEvent .carouselLate (.carousel k) ((cycleClosed k s).setCarousel k x) := by
  unfold finishCycle
  dsimp only
  split
  · exact .inr (.inl ⟨_, rfl⟩)
  · split
    · exact .inr (.inr ⟨_, rfl⟩)
    all_goals exact .inl rfl

theorem finishCycle_cycling (hk : (s.carousel k).region = some g) : OnlyCycling g s (finishCycle k s) := by
  have hclosed := cycleClosed_cycling hk
  have hset := fun x => hclosed.trans (setCarousel_cycling (cycleClosed_region hk) x)
  rcases finishCycle_cases k s with h | ⟨x, h⟩ | ⟨x, h⟩ <;> rw [h]
  · exact hclosed
  · exact hset x
  · exact (hset x).trans ((raiseEvent_only _ _ _).cycling g)

theorem advanceCursor_next (hi : (s.carousel k).cursor = some i) (h : i + 1 < (s.carousel k).live.length) :
    advanceCursor k s = s.setCarousel k { s.carousel k with cursor := some (i + 1) } := by
  unfold advanceCursor
  dsimp only
  rw [hi]
  exact if_pos h

theorem advanceCursor_last (hi : (s.carousel k).cursor = some i) (h : ¬ i + 1 < (s.carousel k).live.length) :
    advanceCursor k s = finishCycle k s := by
  unfold advanceCursor
  dsimp only
  rw [hi]
  exact if_neg h

theorem advanceCursor_none (hi : (s.carousel k).cursor = none) : advanceCursor k s = s := by
  unfold advanceCursor
  dsimp only
  rw [hi]

theorem advanceCursor_cycling (hk : (s.carousel k).region = some g) : OnlyCycling g s (advanceCursor k s) := by
  cases hi : (s.carousel k).cursor with
  | none =>
    rw [advanceCursor_none hi]
    exact .refl g s
  | some i =>
    by_cases h : i + 1 < (s.carousel k).live.length
    · rw [advanceCursor_next hi h]
      exact setCarousel_cycling hk _
    · rw [advanceCursor_last hi h]
      exact finishCycle_cycling hk

/-- Where no swap takes effect the regions stay as they are. -/
theorem advanceCursor_regions (hi : (s.carousel k).cursor = some i)
    (h : (s.carousel k).swapPending = false ∨ i + 1 < (s.carousel k).live.length) :
    (advanceCursor k s).regions = s.regions := by
  by_cases hnext : i + 1 < (s.carousel k).live.length
  · rw [advanceCursor_next hi hnext]
    rfl
  · have hswap := h.resolve_right hnext
    have hclosed : cycleClosed k s = s.setCarousel k { s.carousel k with cursor := none } :=
      settleSwap_noSwap (by rw [State.setCarousel_carousel_self]; exact hswap)
    rw [advanceCursor_last hi hnext]
    rcases finishCycle_cases k s with h | ⟨x, h⟩ | ⟨x, h⟩ <;> rw [h, hclosed] <;> rfl

theorem cycleClosed_detected (k : CarouselId) (s : State) : (cycleClosed k s).detected = s.detected := by
  unfold cycleClosed settleSwap
  split
  · unfold swapEffect registerLive
    dsimp only
    split <;> rfl
  · rfl

/-- Detected flags stay. -/
theorem advanceCursor_has {e : EventClass} (h : s.detected.has e = true) : (advanceCursor k s).detected.has e = true := by
  cases hi : (s.carousel k).cursor with
  | none => rwa [advanceCursor_none hi]
  | some i =>
    by_cases hnext : i + 1 < (s.carousel k).live.length
    · rw [advanceCursor_next hi hnext]
      exact h
    · rw [advanceCursor_last hi hnext]
      rcases finishCycle_cases k s with hf | ⟨x, hf⟩ | ⟨x, hf⟩ <;> rw [hf]
      · rw [cycleClosed_detected]
        exact h
      · rw [State.setCarousel_detected, cycleClosed_detected]
        exact h
      · rw [raiseEvent_has, State.setCarousel_detected, cycleClosed_detected, h]
        rfl

end Sys2Proof.Machine
end

section
/-!
PROOFS. What a slot instant chooses and begins (R144, R149 to R151, R160, R171, R176).
-/
namespace Sys2Proof.Machine

variable {s t u : State} {g : RegionId} {k : CarouselId} {r : Region} {now : Clock} {c : SlotClock} {p : Packet} {i : Nat}
  {e : QEntry} {rest : List QEntry}

/-! ## The carousel whose turn comes first (R150) -/

/-- In the order in which a region looks at the carousels, their turns ascend. -/
theorem Region.carouselOrder_turn (r : Region) :
    r.carouselOrder.Pairwise fun a b => r.carouselTurn a < r.carouselTurn b := by
  unfold Region.carouselOrder Region.carouselTurn
  cases r.lastCarousel with
  | none => exact List.pairwise_lt_finRange 32
  | some last =>
    refine List.pairwise_append.2 ⟨?_, ?_, fun a ha b hb => ?_⟩
    · refine ((List.pairwise_lt_finRange 32).filter _).imp_of_mem fun {a b} ha hb hab => ?_
      simp only [List.mem_filter, decide_eq_true_eq, Fin.lt_def] at ha hb
      simp only [Fin.lt_def] at hab
      dsimp only
      omega
    · refine ((List.pairwise_lt_finRange 32).filter _).imp_of_mem fun {a b} ha hb hab => ?_
      simp only [List.mem_filter, decide_eq_true_eq, Fin.le_def] at ha hb
      simp only [Fin.lt_def] at hab
      dsimp only
      omega
    · simp only [List.mem_filter, decide_eq_true_eq, Fin.lt_def, Fin.le_def] at ha hb
      dsimp only
      omega

theorem Region.mem_carouselOrder (r : Region) (k : CarouselId) : k ∈ r.carouselOrder := by
  unfold Region.carouselOrder
  split
  · exact mem_roundFrom _ k
  · exact List.mem_finRange k

/-- The first element that gives something in a list along which a measure ascends. -/
theorem findSome?_eq_of_first {α β : Type} {f : α → Nat} {q : α → Option β} {l : List α} {x : α} {y : β}
    (hl : l.Pairwise fun a b => f a < f b) (hx : x ∈ l) (hq : q x = some y) (hfirst : ∀ z, f z < f x → q z = none) :
    l.findSome? q = some y := by
  obtain ⟨pre, post, rfl⟩ := List.append_of_mem hx
  exact List.findSome?_eq_some_iff.2 ⟨pre, x, post, rfl, hq, fun z hz =>
    hfirst z ((List.pairwise_append.1 hl).2.2 z hz x (by simp))⟩

/-- A carousel packet is due in a region: the carousel is in a cycle with a packet at its cursor. -/
def State.duesIn (s : State) (g : RegionId) (k : CarouselId) : Prop :=
  (s.carousel k).region = some g ∧ ∃ j, (s.carousel k).cursor = some j ∧ j < (s.carousel k).live.length

theorem Carousel.duePacket_none {x : Carousel} (h : ∀ j, x.cursor = some j → x.live.length ≤ j) : x.duePacket = none := by
  unfold Carousel.duePacket
  split
  · next j hj => exact List.getElem?_eq_none (h j hj)
  · rfl

/-- Without a carousel packet due, none is found. -/
theorem dueCarousel_none (h : ∀ k, ¬ s.duesIn g k) : s.dueCarousel g = none := by
  refine List.findSome?_eq_none_iff.2 fun k _ => ?_
  by_cases hk : (s.carousel k).region = some g
  · rw [if_pos hk, Carousel.duePacket_none fun j hj => Nat.not_lt.1 fun hlt => h k ⟨hk, j, hj, hlt⟩]
    rfl
  · exact if_neg hk

/-- The carousel whose turn comes first among those with a packet due is served (R150). -/
theorem dueCarousel_some (hk : (s.carousel k).region = some g) (hi : (s.carousel k).cursor = some i)
    (hp : (s.carousel k).live[i]? = some p)
    (hfirst : ∀ h, s.duesIn g h → (s.region g).carouselTurn k ≤ (s.region g).carouselTurn h) :
    s.dueCarousel g = some (k, p) := by
  have hdue : (s.carousel k).duePacket = some p := by
    unfold Carousel.duePacket
    rw [hi]
    exact hp
  refine findSome?_eq_of_first (s.region g).carouselOrder_turn ((s.region g).mem_carouselOrder k)
    (by rw [if_pos hk, hdue]; rfl) fun h hh => ?_
  by_cases hreg : (s.carousel h).region = some g
  · rw [if_pos hreg, Carousel.duePacket_none fun j hj => Nat.not_lt.1 fun hlt =>
      absurd (hfirst h ⟨hreg, j, hj, hlt⟩) (Nat.not_le.2 hh)]
    rfl
  · exact if_neg hreg

/-! ## The choice (R149) -/

/-- ROTATE gives the main queue its turn: a carousel packet went before, and an entry waits. -/
def Region.mainsTurn (r : Region) : Prop := r.mode = .rotate ∧ r.lastBegun = .carousel ∧ r.mainQ ≠ []

theorem choose_carousel (hturn : ¬ (s.region g).mainsTurn) (hdue : s.dueCarousel g = some (k, p)) :
    s.choose g = .carousel k p := by
  have hcond : (decide ((s.region g).mode = .rotate) && decide ((s.region g).lastBegun = .carousel) &&
      !(s.region g).mainQ.isEmpty) = false := by
    rw [Bool.eq_false_iff]
    intro h
    exact hturn (by simpa [Region.mainsTurn, and_assoc] using h)
  unfold State.choose
  dsimp only
  rw [hcond, hdue]
  rfl

theorem choose_queued (h : (s.region g).mainsTurn ∨ s.dueCarousel g = none) :
    s.choose g = (s.region g).chooseQueued := by
  unfold State.choose
  dsimp only
  split
  · rfl
  · next hcond =>
    rcases h with ⟨hmode, hlast, hmain⟩ | hdue
    · exact absurd (by simp [hmode, hlast, hmain]) hcond
    · rw [hdue]

theorem chooseQueued_main (h : r.mainQ = e :: rest) : r.chooseQueued = .main e rest := by
  unfold Region.chooseQueued
  rw [h]

theorem chooseQueued_expendable (h : r.mainQ = []) (h' : r.expQ = e :: rest) : r.chooseQueued = .expendable e rest := by
  unfold Region.chooseQueued
  rw [h, h']

theorem chooseQueued_null (h : r.mainQ = []) (h' : r.expQ = []) : r.chooseQueued = .null := by
  unfold Region.chooseQueued
  rw [h, h']

theorem dueCarousel_region (h : s.dueCarousel g = some (k, p)) : (s.carousel k).region = some g := by
  obtain ⟨j, -, hj⟩ := List.exists_of_findSome?_eq_some h
  split at hj
  · next hregion =>
    obtain ⟨q, -, hq⟩ := Option.map_eq_some_iff.1 hj
    obtain ⟨rfl, -⟩ := Prod.mk.inj hq
    exact hregion
  · exact absurd hj (by simp)

/-- What an instant chooses: a carousel of the region with its packet, or else what stands at the head of a queue. -/
theorem choose_due_or_queued (s : State) (g : RegionId) :
    (∃ k p, (s.carousel k).region = some g ∧ s.choose g = .carousel k p) ∨ s.choose g = (s.region g).chooseQueued := by
  by_cases hturn : (s.region g).mainsTurn
  · exact .inr (choose_queued (.inl hturn))
  · cases hdue : s.dueCarousel g with
    | none => exact .inr (choose_queued (.inr hdue))
    | some x => exact .inl ⟨x.1, x.2, dueCarousel_region hdue, choose_carousel hturn hdue⟩

/-! ## The packet begun (R149, R154, R171) -/

/-- What beginning a packet may change: as a slot instant, and not the feeds; of its own region not the slot clock and the
settings; and the detected flags stay. -/
structure Begins (g : RegionId) (s t : State) : Prop where
  instant : OnlyInstant g s t
  feeds : t.feeds = s.feeds
  region : t.region g = { s.region g with
    lastBegun := (t.region g).lastBegun, lastCarousel := (t.region g).lastCarousel, mainQ := (t.region g).mainQ
    expQ := (t.region g).expQ, registry := (t.region g).registry, drains := (t.region g).drains }
  detected : ∀ e, s.detected.has e = true → t.detected.has e = true

/-- The region after a carousel packet has been begun from it. -/
def Region.begunCarousel (r : Region) (k : CarouselId) (p : Packet) : Region :=
  { r.note (ident p) (r.nextCount (ident p) (carriesPayload p)) false with lastBegun := .carousel, lastCarousel := some k }

theorem beginChoice_carousel (g : RegionId) (now : Clock) (s : State) (k : CarouselId) (p : Packet) :
    beginChoice g now s (.carousel k p) =
      ((s.region g).carouselCopy p, advanceCursor k (s.setRegion g ((s.region g).begunCarousel k p))) := rfl

theorem begins_carousel (hk : (s.carousel k).region = some g) (p : Packet) :
    Begins g s (advanceCursor k (s.setRegion g ((s.region g).begunCarousel k p))) := by
  have hcycle := advanceCursor_cycling (s := s.setRegion g ((s.region g).begunCarousel k p)) hk
  refine ⟨(setRegion_instant g _ s).trans hcycle.instant, (congrArg State.feeds hcycle.1 :), ?_, fun e he =>
    advanceCursor_has he⟩
  obtain ⟨-, -, -, -, hself, -⟩ := hcycle
  rw [hself, State.setRegion_region_self, Region.begunCarousel, Region.note_only]

theorem begins_queued {x : Region} (es : List QEntry)
    (hx : x = { s.region g with
      lastBegun := x.lastBegun, mainQ := x.mainQ, expQ := x.expQ, registry := x.registry, drains := x.drains }) :
    Begins g s (releaseAll es (s.setRegion g x)) := by
  refine ⟨(setRegion_instant g x s).trans (releaseAll_instant es _), rfl, ?_, fun e he => he⟩
  have hself : (releaseAll es (s.setRegion g x)).region g = x := State.setRegion_region_self s g x
  rw [hself, hx]

theorem Region.begun_only (r : Region) (e : QEntry) (p : Packet) :
    r.begun e p = { r with registry := (r.begun e p).registry, drains := (r.begun e p).drains } := by
  unfold Region.begun Region.cleanDrains
  rw [Region.note_only]

/-- Whatever is chosen, its beginning keeps to what it may change. -/
theorem beginChoice_begins (g : RegionId) (now : Clock) (s : State) : Begins g s (beginChoice g now s (s.choose g)).2 := by
  rcases choose_due_or_queued s g with ⟨k, p, hk, hc⟩ | hc <;> rw [hc]
  · exact begins_carousel hk p
  · rcases chooseQueued_cases (s.region g) with ⟨e, rest, -, hq⟩ | ⟨e, rest, -, hq⟩ | hq <;> rw [hq]
    · exact begins_queued [e] (by rw [Region.begun_only])
    · exact begins_queued [e] (by rw [Region.begun_only])
    · exact begins_queued [] rfl

/-! ## The packet sent (R144, R160) -/

theorem sendPacket_only (g : RegionId) (now : Clock) (c : SlotClock) (p : Packet) (s : State) :
    sendPacket g now c p s =
      { s with regions := (sendPacket g now c p s).regions, feeds := (sendPacket g now c p s).feeds } := rfl

theorem sendPacket_region (g : RegionId) (now : Clock) (c : SlotClock) (p : Packet) (s : State) :
    (sendPacket g now c p s).region g =
      (s.region g).stepped (c.step (s.region g).rate) (decide ((s.region g).lastBegun = .null)) :=
  State.setRegion_region_self s g _

theorem sendPacket_instant (g : RegionId) (now : Clock) (c : SlotClock) (p : Packet) (s : State) :
    OnlyInstant g s (sendPacket g now c p s) :=
  ⟨rfl, .refl _, .refl _, fun _ hh => State.setRegion_region_ne _ _ _ _ hh.symm, fun _ _ => rfl⟩

theorem sendPacket_feed (g : RegionId) (now : Clock) (c : SlotClock) (p : Packet) (s : State) (fd : FeedId) :
    (sendPacket g now c p s).feed fd =
      if (s.feed fd).bound = some g then
        { bound := some g, out := some { packet := p, begun := now, ends := (c.step (s.region g).rate).next } }
      else s.feed fd := by
  have hmap : (sendPacket g now c p s).feed fd =
      (s.feed fd).carry g { packet := p, begun := now, ends := (c.step (s.region g).rate).next } := by
    simp [sendPacket, State.feed]
  rw [hmap, Feed.carry_eq]

/-- The slot clock one slot on is that of R144. -/
theorem SlotClock.step_eq_after (c : SlotClock) (rate : Nat) : c.step rate = c.after rate := by
  unfold SlotClock.step SlotClock.after
  dsimp only
  split
  · rw [BitVec.ofNat_add, BitVec.add_assoc]
    rfl
  · simp

/-! ## A slot instant as a whole -/

/-- The slot clock from which an instant counts: a pending rate brings a new base (R143). -/
def Region.countsFrom (r : Region) (c : SlotClock) (now : Clock) : SlotClock :=
  if r.pendingRate = none then c else SlotClock.at now

/-- The state after the packet of an instant has been begun, before its clock moves on; and that packet. -/
def instantBegun (g : RegionId) (s : State) : Packet × State :=
  beginChoice g s.clock (instantReady g s) ((instantReady g s).choose g)

theorem slotDue_iff : s.slotDue g = true ↔ ∃ c, (s.region g).clk = some c ∧ c.next = s.clock := by
  unfold State.slotDue
  split
  · next c hc => simp [hc]
  · next hc => simp [hc]

theorem slotInstant_waits (h : ∀ c, (s.region g).clk = some c → c.next ≠ s.clock) : slotInstant g s = s :=
  if_neg fun hdue => by
    obtain ⟨c, hc, hn⟩ := slotDue_iff.1 hdue
    exact h c hc hn

theorem instantBegun_begins (g : RegionId) (s : State) : Begins g (instantReady g s) (instantBegun g s).2 :=
  beginChoice_begins g s.clock _

theorem instantBegun_clk (hc : (s.region g).clk = some c) :
    ((instantBegun g s).2.region g).clk = some ((s.region g).countsFrom c s.clock) := by
  rw [(instantBegun_begins g s).region, instantReady_region, Region.readied_only]
  unfold Region.countsFrom
  split
  · simp [hc]
  · simp

theorem instantBegun_rate (g : RegionId) (s : State) :
    ((instantBegun g s).2.region g).rate = (s.region g).pendingRate.getD (s.region g).rate := by
  rw [(instantBegun_begins g s).region, instantReady_region, Region.readied_only]

/-- At its moment a slot instant begins its packet and sends it. -/
theorem slotInstant_sends (hc : (s.region g).clk = some c) (hn : c.next = s.clock) :
    slotInstant g s =
      sendPacket g s.clock ((s.region g).countsFrom c s.clock) (instantBegun g s).1 (instantBegun g s).2 := by
  have hclk := instantBegun_clk hc
  unfold slotInstant
  rw [if_pos (slotDue_iff.2 ⟨c, hc, hn⟩)]
  dsimp only
  unfold instantBegun instantReady at hclk ⊢
  rw [hclk]

end Sys2Proof.Machine
end

section
/-!
PROOFS. What every slot instant does: one packet on the feeds of its region, one slot on its clock, and the record of null
packets (R143, R144, R159, R160).
-/
namespace Sys2Proof.Machine

variable {s t : State} {g : RegionId} {r : Region} {c : SlotClock}

theorem instantBegun_instant (g : RegionId) (s : State) : OnlyInstant g s (instantBegun g s).2 :=
  (instantReady_instant g s).trans (instantBegun_begins g s).instant

theorem instantBegun_feed (g : RegionId) (s : State) (fd : FeedId) : (instantBegun g s).2.feed fd = s.feed fd := by
  unfold State.feed
  rw [(instantBegun_begins g s).feeds, instantReady_feeds]

/-- At its moment, what a slot instant leaves is what the beginning of its packet leaves, but for the slot clock and the
record of null packets of its region, and the feeds that carry the packet. -/
structure Sends (g : RegionId) (c : SlotClock) (s t : State) : Prop where
  exec : exec (.slotInstant g) s = .next t
  only : t = { (instantBegun g s).2 with regions := t.regions, feeds := t.feeds }
  instant : OnlyInstant g s t
  carries : FeedsCarry g (instantBegun g s).1 s t
  region : t.region g = ((instantBegun g s).2.region g).stepped
    (((s.region g).countsFrom c s.clock).after ((s.region g).pendingRate.getD (s.region g).rate))
    (decide (((instantBegun g s).2.region g).lastBegun = .null))

/-- At its moment a slot instant sends one packet. -/
theorem exists_sends (hc : (s.region g).clk = some c) (hn : c.next = s.clock) : ∃ t, Sends g c s t := by
  have hregion := sendPacket_region g s.clock ((s.region g).countsFrom c s.clock) (instantBegun g s).1 (instantBegun g s).2
  rw [instantBegun_rate, SlotClock.step_eq_after] at hregion
  refine ⟨_, congrArg Host.Outcome.next (slotInstant_sends hc hn), sendPacket_only _ _ _ _ _,
    (instantBegun_instant g s).trans (sendPacket_instant g _ _ _ _), fun fd => ?_, hregion⟩
  rw [sendPacket_feed, instantBegun_feed, instantBegun_rate, SlotClock.step_eq_after, hregion]
  rfl

theorem Sends.settings (h : Sends g c s t) :
    t.region g = { s.region g with
      clk := some (((s.region g).countsFrom c s.clock).after ((s.region g).pendingRate.getD (s.region g).rate))
      rate := (s.region g).pendingRate.getD (s.region g).rate
      pendingRate := none
      nulls := (decide ((t.region g).lastBegun = .null) :: (s.region g).nulls).take 65536
      lastBegun := (t.region g).lastBegun, lastCarousel := (t.region g).lastCarousel, mainQ := (t.region g).mainQ
      expQ := (t.region g).expQ, registry := (t.region g).registry, drains := (t.region g).drains } := by
  rw [h.region]
  unfold Region.stepped
  rw [(instantBegun_begins g s).region, instantReady_region, Region.readied_only]

/-- The slot clock of an instant, with or without a pending rate. -/
theorem Region.countsFrom_after {c' : SlotClock} {rate : Nat} {now : Clock}
    (h : (r.pendingRate = none ∧ rate = r.rate ∧ c' = c.after rate) ∨
      (r.pendingRate = some rate ∧
        c' = SlotClock.after { base := now, next := now, acc := 0, index := 0 } rate)) :
    (r.countsFrom c now).after (r.pendingRate.getD r.rate) = c' ∧ r.pendingRate.getD r.rate = rate := by
  unfold Region.countsFrom
  rcases h with ⟨hnone, rfl, rfl⟩ | ⟨hsome, rfl⟩
  · simp [hnone]
  · simp [hsome, SlotClock.at]

/-- Settles O46: the state in which the instant chooses, the packet begun and the feeds that carry it, one after another. -/
theorem slotInstantBeginsOnePacket : Obligations.SlotInstantBeginsOnePacket := by
  rintro g r s rfl
  refine ⟨fun h => congrArg Host.Outcome.next (slotInstant_waits h), fun c c' rate hc hn hclock => ?_⟩
  obtain ⟨hafter, hrate⟩ := Region.countsFrom_after hclock
  obtain ⟨t, ht⟩ := exists_sends hc hn
  have hset := ht.settings
  rw [hafter, hrate] at hset
  exact ⟨t, _, ht.exec, ht.instant, ht.carries, (congrArg Region.clk hset :), (congrArg Region.rate hset :),
    (congrArg Region.pendingRate hset :), (congrArg Region.nulls hset :), (congrArg Region.mode hset :),
    (congrArg Region.delayMs hset :), (congrArg Region.ageMs hset :)⟩

end Sys2Proof.Machine
end

section
/-!
PROOFS. What a slot instant leaves of its queues and of the records of identifiers, by what it chooses (R148 to R155, R158,
R176).
-/
namespace Sys2Proof.Machine

variable {s t : State} {g : RegionId} {k : CarouselId} {r r' x : Region} {now : Clock} {c : SlotClock} {p : Packet} {i : Nat}
  {e : QEntry} {rest : List QEntry} {j : Ident} {y : IdentRecord}

/-! ## The records after the head discards (R155, R158) -/

theorem Region.recordOf_readied_some (h : r.recordOf j = some y) :
    (r.readied now).recordOf j =
      if y.lasts ((r.readied now).queued j) then some { y with owed := r.owedAfter (r.discards now) j } else none := by
  rw [Region.recordOf_readied, h, Option.map_some, Option.filter_some]
  rfl

theorem Region.recordOf_readied_none (h : r.recordOf j = none) : (r.readied now).recordOf j = none := by
  rw [Region.recordOf_readied, h]
  rfl

/-- A registered identifier, and one that an entry still carries, keeps its record. -/
theorem Region.lasts_readied (hy : r.recordOf j = some y) (h : (r.readied now).queued j = true ∨ r.lookup j ≠ none) :
    y.lasts ((r.readied now).queued j) = true := by
  unfold IdentRecord.lasts
  rcases h with h | h
  · simp [h]
  · obtain ⟨e, he⟩ := Option.ne_none_iff_exists'.1 h
    rw [Region.recordOf_lookup he] at hy
    rw [← Option.some.inj hy]
    rfl

theorem Region.lastCount_readied (h : (r.readied now).queued j = true ∨ r.lookup j ≠ none) :
    (r.readied now).lastCount j = r.lastCount j := by
  rw [Region.lastCount_eq, Region.lastCount_eq]
  cases hy : r.recordOf j with
  | none => rw [Region.recordOf_readied_none hy]
  | some y =>
    rw [Region.recordOf_readied_some hy, if_pos (Region.lasts_readied hy h)]
    rfl

theorem Region.isOwed_readied (h : (r.readied now).queued j = true ∨ r.lookup j ≠ none) (hj : r.recordOf j ≠ none) :
    (r.readied now).isOwed j = r.owedAfter (r.discards now) j := by
  obtain ⟨y, hy⟩ := Option.ne_none_iff_exists'.1 hj
  rw [Region.isOwed_eq, Region.recordOf_readied_some hy, if_pos (Region.lasts_readied hy h)]
  rfl

/-- What a record holds, as the count and the flag that are drawn from it. -/
theorem Region.lastCount_of_record (h : r.recordOf j = some y) : r.lastCount j = y.last := by
  rw [Region.lastCount_eq, h]
  rfl

theorem Region.isOwed_of_record (h : r.recordOf j = some y) : r.isOwed j = y.owed := by
  rw [Region.isOwed_eq, h]
  rfl

/-- The record that a region keeps is told by its queues, its registry and its drain records alone. -/
theorem Region.keepsRecord.congr {last : Continuity} {owed : Bool} {r'' : Region} (h : r.keepsRecord r' j last owed)
    (hm : r''.mainQ = r'.mainQ) (he : r''.expQ = r'.expQ) (hr : r''.registry = r'.registry)
    (hd : r''.drains = r'.drains) : r.keepsRecord r'' j last owed := by
  unfold Region.keepsRecord Region.lookup Region.drain at h ⊢
  rw [hm, he, hr, hd]
  exact h

/-- A null packet leaves the records as the discards left them. -/
theorem Region.keepsRecord_readied (r : Region) (now : Clock) (j : Ident) :
    r.keepsRecord (r.readied now) j (r.lastCount j) (r.owedAfter (r.discards now) j) :=
  Region.keepsRecord_of_recordOf fun y hy => by
    rw [Region.recordOf_readied_some hy, Region.lastCount_of_record hy]

/-- A carousel packet takes the next count of its identifier's record, and pays nothing (R176). -/
theorem Region.keepsRecord_begunCarousel (hp : r.lookup (ident p) ≠ none) (k : CarouselId) (j : Ident) :
    r.keepsRecord ((r.readied now).begunCarousel k p) j
      (if j = ident p then (if carriesPayload p then r.lastCount (ident p) + 1 else r.lastCount (ident p))
        else r.lastCount j)
      (r.owedAfter (r.discards now) j) := by
  refine Region.keepsRecord_of_recordOf fun y hy => ?_
  have hnote : ((r.readied now).begunCarousel k p).recordOf j = ((r.readied now).note (ident p)
      ((r.readied now).nextCount (ident p) (carriesPayload p)) false).recordOf j := rfl
  have hqueued : ((r.readied now).begunCarousel k p).queued j = (r.readied now).queued j := by
    unfold Region.begunCarousel
    rw [Region.note_only]
    rfl
  rw [hnote, hqueued, Region.recordOf_note, Region.recordOf_readied_some hy, Region.nextCount,
    Region.lastCount_readied (.inr hp)]
  cases y.lasts ((r.readied now).queued j) with
  | false => rfl
  | true =>
    by_cases hj : j = ident p
    · simp [hj]
    · simp [hj, Region.lastCount_of_record hy]

theorem Region.recordOf_begun (r : Region) (e : QEntry) (p : Packet) (j : Ident) :
    (r.begun e p).recordOf j =
      ((r.recordOf j).map fun x => if j = e.out then
        { x with last := r.nextCount e.out (carriesPayload p), owed := x.owed && !r.pays e p } else x).filter
          fun x => x.lasts (r.queued j) := by
  have hqueued : (r.note e.out (r.nextCount e.out (carriesPayload p)) (r.pays e p)).queued j = r.queued j := by
    rw [Region.note_only]
    rfl
  unfold Region.begun
  rw [Region.recordOf_cleanDrains, Region.recordOf_note, hqueued]

/-- A region that a queue's head has left: the records of the region in which the instant chooses stand, and what is queued
was queued. -/
structure Region.LessHead (r' : Region) (r : Region) (e : QEntry) : Prop where
  registry : r'.registry = r.registry
  drains : r'.drains = r.drains
  head : r.queued e.out = true
  rest : ∀ j, r'.queued j = true → r.queued j = true

theorem Region.LessHead.recordOf (h : r'.LessHead r e) (j : Ident) : r'.recordOf j = r.recordOf j := by
  unfold Region.recordOf Region.lookup Region.drain
  rw [h.registry, h.drains]

theorem Region.lessHead_main (h : r.mainQ = e :: rest) : ({ r with mainQ := rest } : Region).LessHead r e := by
  refine ⟨rfl, rfl, ?_, fun j hj => ?_⟩
  · simp [Region.queued, h]
  · unfold Region.queued at hj ⊢
    rw [h, List.cons_append, List.any_cons]
    exact Bool.or_eq_true_iff.2 (.inr hj)

theorem Region.lessHead_expendable (h : r.expQ = e :: rest) : ({ r with expQ := rest } : Region).LessHead r e := by
  refine ⟨rfl, rfl, ?_, fun j hj => ?_⟩
  · simp [Region.queued, h]
  · unfold Region.queued at hj ⊢
    rw [List.any_append, Bool.or_eq_true_iff] at hj
    rw [h, List.any_append, List.any_cons]
    rcases hj with hj | hj <;> simp [hj]

/-- A queued packet takes the next count of its identifier's record, and pays an owed discontinuity where it can (R153 to
R155). -/
theorem Region.keepsRecord_begun (h : x.LessHead (r.readied now) e) (p : Packet) (j : Ident) :
    r.keepsRecord (x.begun e p) j
      (if j = e.out ∧ carriesPayload p then r.lastCount j + 1 else r.lastCount j)
      (r.owedAfter (r.discards now) j && !(decide (j = e.out) && e.clockBearing && hasSample p)) := by
  refine Region.keepsRecord_of_recordOf fun y hy => ?_
  have hqueued : (x.begun e p).queued j = x.queued j := by
    rw [Region.begun_only]
    rfl
  have hlasts : y.lasts (x.queued j) = true → y.lasts ((r.readied now).queued j) = true := by
    unfold IdentRecord.lasts
    simp only [Bool.or_eq_true_iff]
    exact Or.imp_right (h.rest j)
  rw [Region.recordOf_begun, h.recordOf, hqueued, Region.recordOf_readied_some hy]
  by_cases hj : j = e.out
  · have hkept : (r.readied now).queued j = true := hj ▸ h.head
    have hlast : x.nextCount e.out (carriesPayload p) = if carriesPayload p then y.last + 1 else y.last := by
      rw [Region.nextCount, Region.lastCount_eq, h.recordOf, ← Region.lastCount_eq, ← hj,
        Region.lastCount_readied (.inl hkept), Region.lastCount_of_record hy]
    have hpays : x.pays e p = (e.clockBearing && hasSample p && r.owedAfter (r.discards now) j) := by
      rw [Region.pays, Region.isOwed_eq, h.recordOf, ← Region.isOwed_eq, ← hj,
        Region.isOwed_readied (.inl hkept) (by simp [hy])]
    rw [if_pos (Region.lasts_readied hy (.inl hkept)), hlast, hpays, Region.lastCount_of_record hy, Option.map_some,
      if_pos hj, Option.filter_some]
    simp only [hj, true_and, decide_true, Bool.true_and]
    cases e.clockBearing && hasSample p <;> cases r.owedAfter (r.discards now) e.out <;> rfl
  · have hlast : r.lastCount j = y.last := Region.lastCount_of_record hy
    have hmk : ({ y with owed := r.owedAfter (r.discards now) j } : IdentRecord).lasts (x.queued j) =
        y.lasts (x.queued j) := rfl
    by_cases hq : y.lasts (x.queued j) = true
    · simp [hj, hq, hlasts hq, hlast, hmk]
    · cases y.lasts ((r.readied now).queued j) <;> simp [hj, hq, hmk]

end Sys2Proof.Machine
end

section
/-!
PROOFS. A slot instant by what it chooses: a carousel packet, a queued packet or a null packet, with the pool, the records and
the feeds after it (R148 to R155, R158, R160, R176).
-/
namespace Sys2Proof.Machine

variable {s t : State} {g : RegionId} {k : CarouselId} {r x : Region} {c : SlotClock} {p : Packet} {i : Nat} {e : QEntry}
  {rest : List QEntry} {b : Begun} {j : Ident} {last : Continuity} {owed : Bool}

/-! ## The end of an instant: what it leaves of the packet's beginning -/

/-- The sending of a packet leaves the queues, the service and the records of its region. -/
theorem Sends.records (h : Sends g c s t) :
    t.region g = { t.region g with
      lastBegun := ((instantBegun g s).2.region g).lastBegun
      lastCarousel := ((instantBegun g s).2.region g).lastCarousel
      mainQ := ((instantBegun g s).2.region g).mainQ
      expQ := ((instantBegun g s).2.region g).expQ
      registry := ((instantBegun g s).2.region g).registry
      drains := ((instantBegun g s).2.region g).drains } := by
  rw [h.region]
  rfl

theorem Sends.pool (h : Sends g c s t) : t.pool = (instantBegun g s).2.pool := (congrArg State.pool h.only :)

theorem Sends.carousels (h : Sends g c s t) : t.carousels = (instantBegun g s).2.carousels :=
  (congrArg State.carousels h.only :)

theorem Sends.detected (h : Sends g c s t) {e : EventClass} (he : (instantReady g s).detected.has e = true) :
    t.detected.has e = true := by
  rw [(congrArg State.detected h.only :)]
  exact (instantBegun_begins g s).detected e he

theorem Sends.keepsRecord (h : Sends g c s t) (hk : r.keepsRecord ((instantBegun g s).2.region g) j last owed) :
    r.keepsRecord (t.region g) j last owed :=
  hk.congr (congrArg Region.mainQ h.records :) (congrArg Region.expQ h.records :) (congrArg Region.registry h.records :)
    (congrArg Region.drains h.records :)

theorem takeWhile_ne_nil {α : Type} {f : α → Bool} {l : List α} (h : l.dropWhile f ≠ l) : l.takeWhile f ≠ [] :=
  fun hnil => h (by simpa [hnil] using List.takeWhile_append_dropWhile (p := f) (l := l))

/-- The heads that a queue loses are reported (R148). -/
theorem Sends.late (h : Sends g c s t)
    (hm : (s.region g).mainQ.dropWhile (fun x => x.over (s.region g).delayMs s.clock) ≠ (s.region g).mainQ) :
    t.detected.degraded = true := by
  refine h.detected (e := .degraded) ?_
  rw [instantReady_has]
  simp [List.isEmpty_eq_false_iff.2 (takeWhile_ne_nil hm)]

theorem Sends.aged (h : Sends g c s t)
    (he : (s.region g).expQ.dropWhile (fun x => x.over (s.region g).ageMs s.clock) ≠ (s.region g).expQ) :
    t.detected.note = true := by
  refine h.detected (e := .note) ?_
  rw [instantReady_has]
  simp [List.isEmpty_eq_false_iff.2 (takeWhile_ne_nil he)]

/-! ## The choice of an instant, told of the state before it -/

theorem Region.mainsTurn_readied {now : Clock} : (r.readied now).mainsTurn ↔
    (r.mode = .rotate ∧ r.lastBegun = .carousel ∧ r.mainQ.dropWhile (fun x => x.over r.delayMs now) ≠ []) := by
  unfold Region.mainsTurn
  rw [Region.readied_only]

theorem Region.carouselTurn_readied {now : Clock} : (r.readied now).carouselTurn k = r.carouselTurn k := by
  rw [Region.readied_only]
  rfl

theorem duesIn_instantReady : (instantReady g s).duesIn g k ↔ s.duesIn g k := by
  unfold State.duesIn
  rw [instantReady_carousel]

/-- Where ROTATE gives the main queue its turn, or no carousel packet is due, the instant chooses from the queues. -/
theorem instantReady_choose_queued
    (h : ((s.region g).readied s.clock).mainsTurn ∨ ∀ h j, (s.carousel h).region = some g →
      (s.carousel h).cursor = some j → (s.carousel h).live.length ≤ j) :
    (instantReady g s).choose g = ((s.region g).readied s.clock).chooseQueued := by
  rw [choose_queued, instantReady_region]
  refine h.imp (fun h => instantReady_region g s ▸ h) fun h => dueCarousel_none fun k hk => ?_
  obtain ⟨hregion, j, hj, hlt⟩ := duesIn_instantReady.1 hk
  exact absurd (h k j hregion hj) (Nat.not_le.2 hlt)

/-- The packet of the carousel whose turn comes first among those with a packet due (R150). -/
theorem instantReady_choose_carousel (hturn : ¬ ((s.region g).readied s.clock).mainsTurn)
    (hk : (s.carousel k).region = some g) (hi : (s.carousel k).cursor = some i) (hp : (s.carousel k).live[i]? = some p)
    (hfirst : ∀ h j, (s.carousel h).region = some g → (s.carousel h).cursor = some j → j < (s.carousel h).live.length →
      (s.region g).carouselTurn k ≤ (s.region g).carouselTurn h) :
    (instantReady g s).choose g = .carousel k p := by
  have hready := instantReady_carousel g s k
  refine choose_carousel (by rwa [instantReady_region]) (dueCarousel_some (i := i) ?_ ?_ ?_ fun h hh => ?_)
  · rwa [hready]
  · rwa [hready]
  · rwa [hready]
  · obtain ⟨hregion, j, hj, hlt⟩ := duesIn_instantReady.1 hh
    rw [instantReady_region, Region.carouselTurn_readied, Region.carouselTurn_readied]
    exact hfirst h j hregion hj hlt

/-! ## A queued packet -/

/-- Only the last count and the owed flag of the entry's identifier go into an output copy. -/
theorem Region.outputCopy_congr {now : Clock} (hlast : x.lastCount e.out = r.lastCount e.out)
    (howed : x.isOwed e.out = r.isOwed e.out) : x.outputCopy e p now = r.outputCopy e p now := by
  unfold Region.outputCopy Region.nextCount Region.pays
  rw [hlast, howed]

/-- A queued packet begun, from the region that its entry has left. -/
def queuedBegun (g : RegionId) (s : State) (e : QEntry) (x : Region) (b : Begun) : Packet × State :=
  let p := bufferPacket (instantReady g s).pool e.buf
  (((s.region g).readied s.clock).outputCopy e p s.clock,
    releaseAll [e] ((instantReady g s).setRegion g { x.begun e p with lastBegun := b }))

theorem instantBegun_main
    (hq : (instantReady g s).choose g = ((s.region g).readied s.clock).chooseQueued)
    (hm : ((s.region g).readied s.clock).mainQ = e :: rest) :
    instantBegun g s = queuedBegun g s e { (s.region g).readied s.clock with mainQ := rest } .main := by
  unfold instantBegun queuedBegun
  rw [hq, chooseQueued_main hm, ← instantReady_region]
  rfl

theorem instantBegun_expendable
    (hq : (instantReady g s).choose g = ((s.region g).readied s.clock).chooseQueued)
    (hm : ((s.region g).readied s.clock).mainQ = []) (he : ((s.region g).readied s.clock).expQ = e :: rest) :
    instantBegun g s = queuedBegun g s e { (s.region g).readied s.clock with expQ := rest } .expendable := by
  unfold instantBegun queuedBegun
  rw [hq, chooseQueued_expendable hm he, ← instantReady_region]
  rfl

theorem instantBegun_null
    (hq : (instantReady g s).choose g = ((s.region g).readied s.clock).chooseQueued)
    (hm : ((s.region g).readied s.clock).mainQ = []) (he : ((s.region g).readied s.clock).expQ = []) :
    instantBegun g s =
      (nullPacket, (instantReady g s).setRegion g { (s.region g).readied s.clock with lastBegun := .null }) := by
  unfold instantBegun
  rw [hq, chooseQueued_null hm he, ← instantReady_region]
  rfl

/-- What is queued is chosen without the carousels. -/
theorem beginChoice_queued_stays (g : RegionId) (now : Clock) (s : State) :
    (beginChoice g now s (s.region g).chooseQueued).2.carousels = s.carousels ∧
      ((beginChoice g now s (s.region g).chooseQueued).2.region g).lastCarousel = (s.region g).lastCarousel := by
  have hself : ∀ x : Region, (s.setRegion g x).region g = x := State.setRegion_region_self s g
  rcases chooseQueued_cases (s.region g) with ⟨e, rest, -, hq⟩ | ⟨e, rest, -, hq⟩ | hq <;> rw [hq]
  · exact ⟨rfl, (congrArg Region.lastCarousel (hself _)).trans (by rw [Region.begun_only])⟩
  · exact ⟨rfl, (congrArg Region.lastCarousel (hself _)).trans (by rw [Region.begun_only])⟩
  · exact ⟨rfl, (congrArg Region.lastCarousel (hself _)).trans rfl⟩

theorem Sends.carousels_stay (h : Sends g c s t)
    (hq : (instantReady g s).choose g = ((s.region g).readied s.clock).chooseQueued) :
    t.carousels = s.carousels ∧ (t.region g).lastCarousel = (s.region g).lastCarousel := by
  have hstays := beginChoice_queued_stays g s.clock (instantReady g s)
  rw [instantReady_region, ← hq] at hstays
  obtain ⟨hcarousels, hlast⟩ := hstays
  refine ⟨h.carousels.trans (hcarousels.trans (instantReady_carousels g s)),
    (congrArg Region.lastCarousel h.records :).trans (hlast.trans ?_)⟩
  rw [Region.readied_only]

section Queued

variable (h : Sends g c s t) (hb : instantBegun g s = queuedBegun g s e x b)

include hb in
theorem queuedBegun_region :
    (instantBegun g s).2.region g = { x.begun e (bufferPacket (instantReady g s).pool e.buf) with lastBegun := b } := by
  rw [hb]
  exact State.setRegion_region_self (instantReady g s) g _

include h hb

theorem Sends.queued_service :
    (t.region g).lastBegun = b ∧ (t.region g).mainQ = x.mainQ ∧ (t.region g).expQ = x.expQ := by
  rw [h.records, queuedBegun_region hb, Region.begun_only]
  exact ⟨rfl, rfl, rfl⟩

theorem Sends.queued_pool :
    t.pool = droppedFrom (((s.region g).discards s.clock).map QEntry.buf ++ [e.buf]) s.pool := by
  rw [h.pool, hb, droppedFrom_append, ← instantReady_pool]
  exact congrArg State.pool (releaseAll_eq [e] _)

theorem Sends.queued_carries :
    FeedsCarry g (((s.region g).readied s.clock).outputCopy e (bufferPacket (instantReady g s).pool e.buf) s.clock)
      s t := by
  have hcarries := h.carries
  rw [hb] at hcarries
  exact hcarries

theorem Sends.queued_begunFrom (hx : x.LessHead ((s.region g).readied s.clock) e) :
    BegunFrom g (s.region g) ((s.region g).discards s.clock) e
      (bufferPacket (droppedFrom (((s.region g).discards s.clock).map QEntry.buf) s.pool) e.buf) s t := by
  rw [← instantReady_pool]
  refine ⟨fun hrec y hlast howed => ?_, fun j => h.keepsRecord ?_⟩
  · rw [Region.outputCopy_congr (r := (s.region g).readied s.clock)]
    · exact h.queued_carries hb
    · rw [hlast, Region.lastCount_readied (.inl hx.head)]
    · rw [howed, Region.isOwed_readied (.inl hx.head) (Region.recordOf_ne_none.2 hrec)]
  · rw [queuedBegun_region hb]
    exact (Region.keepsRecord_begun hx _ j).congr rfl rfl rfl rfl

end Queued

/-! ## A null packet -/

theorem Region.owe_lasts (r : Region) (i : Ident) :
    (r.owe i).registry.map RegEntry.last = r.registry.map RegEntry.last := by
  unfold Region.owe
  split
  · exact map_rewritten (u := fun e : RegEntry => { e with owed := true }) (fun _ => rfl) (fun e => e.ident = i) _
  · rfl

theorem Region.oweAll_lasts (r : Region) (es : List QEntry) :
    (r.oweAll es).registry.map RegEntry.last = r.registry.map RegEntry.last :=
  List.foldlRecOn es _ (motive := fun x : Region => x.registry.map RegEntry.last = r.registry.map RegEntry.last) rfl
    fun x hx e _ => by
      split
      · exact (x.owe_lasts e.out).trans hx
      · exact hx

theorem Region.readied_lasts (r : Region) (now : Clock) :
    (r.readied now).registry.map RegEntry.last = r.registry.map RegEntry.last := by
  unfold Region.readied
  rw [Region.dropLate_eq, Region.rebase_eq]
  exact Region.oweAll_lasts _ _

/-! ## A carousel packet -/

section Carousel

variable (h : Sends g c s t) (hchoice : (instantReady g s).choose g = .carousel k p)

include hchoice in
theorem instantBegun_carousel :
    instantBegun g s = (((s.region g).readied s.clock).carouselCopy p,
      advanceCursor k ((instantReady g s).setRegion g (((s.region g).readied s.clock).begunCarousel k p))) := by
  unfold instantBegun
  rw [hchoice, beginChoice_carousel, instantReady_region]

include h hchoice in
theorem Sends.carousel_carries :
    FeedsCarry g (setContinuity (((s.region g).readied s.clock).nextCount (ident p) (carriesPayload p)) p) s t := by
  have hcarries := h.carries
  rw [instantBegun_carousel hchoice] at hcarries
  exact hcarries

include h hchoice

theorem Sends.carousel_service (hk : (s.carousel k).region = some g) :
    (t.region g).lastBegun = .carousel ∧ (t.region g).lastCarousel = some k ∧
      (t.region g).mainQ = (s.region g).mainQ.dropWhile (fun x => x.over (s.region g).delayMs s.clock) ∧
      (t.region g).expQ = (s.region g).expQ.dropWhile fun x => x.over (s.region g).ageMs s.clock := by
  obtain ⟨-, -, -, -, hself, -⟩ := advanceCursor_cycling
    (s := (instantReady g s).setRegion g (((s.region g).readied s.clock).begunCarousel k p)) (k := k) (g := g)
    ((congrArg Carousel.region (instantReady_carousel g s k)).trans hk)
  rw [h.records, instantBegun_carousel hchoice]
  dsimp only
  rw [hself, State.setRegion_region_self, Region.begunCarousel, Region.note_only, Region.readied_only]
  exact ⟨rfl, rfl, rfl, rfl⟩

theorem Sends.carousel_pool :
    t.pool = droppedFrom (((s.region g).discards s.clock).map QEntry.buf) s.pool := by
  rw [h.pool, instantBegun_carousel hchoice, ← instantReady_pool]
  exact (advanceCursor_samePool k).pool

theorem Sends.carousel_records (hi : (s.carousel k).cursor = some i)
    (hswap : (s.carousel k).swapPending = false ∨ i + 1 < (s.carousel k).live.length)
    (hp : (s.region g).lookup (ident p) ≠ none) (j : Ident) :
    (s.region g).keepsRecord (t.region g) j
      (if j = ident p then
        (if carriesPayload p then (s.region g).lastCount (ident p) + 1 else (s.region g).lastCount (ident p))
        else (s.region g).lastCount j)
      ((s.region g).owedAfter ((s.region g).discards s.clock) j) := by
  refine h.keepsRecord ?_
  have hready := instantReady_carousel g s k
  have hregion : (instantBegun g s).2.region g = ((s.region g).readied s.clock).begunCarousel k p := by
    rw [instantBegun_carousel hchoice]
    unfold State.region
    rw [advanceCursor_regions (i := i)]
    · exact State.setRegion_region_self (instantReady g s) g _
    · exact (congrArg Carousel.cursor hready).trans hi
    · exact hswap.imp ((congrArg Carousel.swapPending hready).trans ·) (fun hlt => by rwa [← hready] at hlt)
  rw [hregion]
  exact Region.keepsRecord_begunCarousel hp k j

end Carousel

/-- Settles O47, by what the instant chooses. -/
theorem slotInstantDiscardsAndChooses : Obligations.SlotInstantDiscardsAndChooses := by
  rintro g c r dropped mq eq gone s rfl hc hn rfl rfl rfl rfl
  obtain ⟨t, ht⟩ := exists_sends hc hn
  refine ⟨t, ht.exec, ht.late, ht.aged, fun hturn k i p hk hi hp hfirst => ?_, fun hqueue => ?_⟩
  · have hchoice := instantReady_choose_carousel (mt Region.mainsTurn_readied.1 hturn) hk hi hp hfirst
    obtain ⟨hbegun, hlast, hmain, hexp⟩ := ht.carousel_service hchoice hk
    refine ⟨hbegun, hlast, hmain, hexp, ht.carousel_pool hchoice, ⟨_, ht.carousel_carries hchoice⟩, ?_⟩
    rintro n rfl hp
    refine ⟨?_, fun hswap j => ht.carousel_records hchoice hi hswap hp j⟩
    rw [← Region.lastCount_readied (.inr hp)]
    exact ht.carousel_carries hchoice
  · have hq := instantReady_choose_queued (hqueue.imp_left Region.mainsTurn_readied.2)
    have hmain : ((s.region g).readied s.clock).mainQ = _ := (congrArg Region.mainQ (Region.readied_only _ _) :)
    have hexp : ((s.region g).readied s.clock).expQ = _ := (congrArg Region.expQ (Region.readied_only _ _) :)
    obtain ⟨hcarousels, hlast⟩ := ht.carousels_stay hq
    refine ⟨hcarousels, hlast, fun e rest hm => ?_, fun e rest hm he => ?_, fun hm he => ?_⟩
    · have hb := instantBegun_main hq (hmain.trans hm)
      obtain ⟨hbegun, hmainQ, hexpQ⟩ := ht.queued_service hb
      exact ⟨hbegun, hmainQ, hexpQ.trans hexp, ht.queued_pool hb,
        ht.queued_begunFrom hb (Region.lessHead_main (hmain.trans hm))⟩
    · have hb := instantBegun_expendable hq (hmain.trans hm) (hexp.trans he)
      obtain ⟨hbegun, hmainQ, hexpQ⟩ := ht.queued_service hb
      exact ⟨hbegun, hmainQ.trans (hmain.trans hm), hexpQ, ht.queued_pool hb,
        ht.queued_begunFrom hb (Region.lessHead_expendable (hexp.trans he))⟩
    · have hb := instantBegun_null hq (hmain.trans hm) (hexp.trans he)
      have hregion : (instantBegun g s).2.region g = { (s.region g).readied s.clock with lastBegun := .null } := by
        rw [hb]
        exact State.setRegion_region_self (instantReady g s) g _
      have hrecords := ht.records
      rw [hregion] at hrecords
      refine ⟨(congrArg Region.lastBegun hrecords :), (congrArg Region.mainQ hrecords :).trans (hmain.trans hm),
        (congrArg Region.expQ hrecords :).trans (hexp.trans he), ?_, fun j => ht.keepsRecord ?_, ?_, ?_⟩
      · exact (congrArg (fun x : Region => x.registry.map RegEntry.last) hrecords :).trans (Region.readied_lasts _ _)
      · rw [hregion]
        exact (Region.keepsRecord_readied _ _ j).congr rfl rfl rfl rfl
      · rw [ht.pool, hb]
        exact instantReady_pool g s
      · have hcarries := ht.carries
        rw [hb] at hcarries
        exact hcarries

end Sys2Proof.Machine
end

section
/-!
PROOFS. The output copy of a queued packet, byte for byte (R152 to R154, R156), and the packet that leaves where an instant
discards nothing (R158, R160).
-/
namespace Sys2Proof.Machine

variable {s t : State} {g : RegionId} {r x : Region} {c : SlotClock} {p q : Packet} {n m d : Nat} {e : QEntry}
  {now : Clock} {b : Begun}

/-! ## The rewrites of a packet (R152 to R154, R156) -/

theorem extract_append_high3 (a : BitVec 3) (x : BitVec 5) : (a ++ x : BitVec 8).extractLsb' 5 3 = a :=
  BitVec.extractLsb'_append_eq_left

theorem extract_append_high4 (a c : BitVec 4) : (a ++ c : BitVec 8).extractLsb' 4 4 = a :=
  BitVec.extractLsb'_append_eq_left

theorem byteAt_one_setIdent (i : Ident) (h : p.length = 188) :
    byteAt (setIdent i p) 1 = (byteAt p 1).extractLsb' 5 3 ++ i.extractLsb' 8 5 := by
  simp [setIdent, byteAt_set, h]

theorem byteAt_three_setContinuity (c : Continuity) (h : p.length = 188) :
    byteAt (setContinuity c p) 3 = (byteAt p 3).extractLsb' 4 4 ++ c := by
  simp [setContinuity, byteAt_set, h]

theorem byteAt_five_setDiscFlag (h : p.length = 188) : byteAt (setDiscFlag p) 5 = byteAt p 5 ||| 0x80 := by
  simp [setDiscFlag, byteAt_set, h]

theorem drop_setIdent (i : Ident) (p : Packet) (h : 2 < m) : (setIdent i p).drop m = p.drop m := by
  rw [setIdent, List.drop_set_of_lt h, List.drop_set_of_lt (by omega)]

theorem drop_setContinuity (c : Continuity) (p : Packet) (h : 3 < m) : (setContinuity c p).drop m = p.drop m :=
  List.drop_set_of_lt h

theorem drop_setDiscFlag (p : Packet) (h : 5 < m) : (setDiscFlag p).drop m = p.drop m := List.drop_set_of_lt h

theorem drop_restamp (d : Nat) (h : p.length = 188) : (restamp d p).drop 12 = p.drop 12 :=
  List.drop_left' (by simp [h])

/-- What is read from the head of a packet, and from its clock sample. -/
theorem ident_congr (h1 : byteAt q 1 = byteAt p 1) (h2 : byteAt q 2 = byteAt p 2) : ident q = ident p := by
  rw [ident, ident, h1, h2]

theorem continuity_congr (h : byteAt q 3 = byteAt p 3) : continuity q = continuity p := by
  rw [continuity, continuity, h]

theorem sampleField_congr (h : q.drop 6 = p.drop 6) : sampleField q = sampleField p := by
  rw [sampleField, sampleField, h]

theorem sampleValue_congr (h : sampleField q = sampleField p) : sampleValue q = sampleValue p := by
  rw [sampleValue, sampleValue, sampleBase, sampleBase, sampleExt, sampleExt, h]

theorem Packet.wf_iff : Packet.wf p = true ↔ p.length = 188 ∧ byteAt p 0 = 0x47 := by
  cases p with
  | nil => simp [Packet.wf]
  | cons a l => simp [Packet.wf, byteAt]

/-- A number of 48 bits is read back from its field bytes. -/
theorem foldl_fieldBytes (h : n < 2 ^ 48) : (fieldBytes n).foldl (fun k b => k * 256 + b.toNat) 0 = n := by
  simp only [fieldBytes, List.foldl_cons, List.foldl_nil, BitVec.toNat_ofNat]
  omega

/-- The clock sample moved forward, as the field carries it: base, the six bits between, extension (R156). -/
theorem sampleField_restamp (d : Nat) (h : p.length = 188) :
    sampleField (restamp d p) =
      (sampleValue p + d) % 2576980377600 / 300 * 32768 + sampleField p / 512 % 64 * 512 +
        (sampleValue p + d) % 2576980377600 % 300 := by
  have hfield : ((restamp d p).drop 6).take 6 = fieldBytes ((sampleValue p + d) % 2576980377600 / 300 * 32768 +
      sampleField p / 512 % 64 * 512 + (sampleValue p + d) % 2576980377600 % 300) := by
    unfold restamp
    dsimp only
    rw [List.append_assoc, List.drop_left' (by simp [h]), List.take_left' (fieldBytes_length _)]
  rw [sampleField, hfield, foldl_fieldBytes]
  omega

theorem sampleValue_restamp (d : Nat) (h : p.length = 188) :
    sampleValue (restamp d p) = (sampleValue p + d) % 2576980377600 := by
  rw [sampleValue, sampleBase, sampleExt, sampleField_restamp d h]
  omega

theorem sampleExt_restamp (d : Nat) (h : p.length = 188) : sampleExt (restamp d p) < 300 := by
  rw [sampleExt, sampleField_restamp d h]
  omega

theorem spareBits_restamp (d : Nat) (h : p.length = 188) :
    sampleField (restamp d p) / 512 % 64 = sampleField p / 512 % 64 := by
  rw [sampleField_restamp d h]
  omega

/-! ## The output copy in its three steps -/

/-- The output copy with its identifier and count (R152, R154). -/
def Region.relabelled (r : Region) (e : QEntry) (p : Packet) : Packet :=
  setContinuity (r.nextCount e.out (carriesPayload p)) (setIdent e.out p)

/-- The output copy with its discontinuity flag, and with the clock sample as it arrived (R153). -/
def Region.flagged (r : Region) (e : QEntry) (p : Packet) : Packet :=
  if e.setDisc || r.pays e p then setDiscFlag (r.relabelled e p) else r.relabelled e p

theorem Region.outputCopy_restamped (h : e.clockBearing = true ∧ hasSample p = true) :
    r.outputCopy e p now = restamp (now - e.arrival).toNat (r.flagged e p) := if_pos (by simp [h])

theorem Region.outputCopy_unstamped (h : ¬(e.clockBearing = true ∧ hasSample p = true)) :
    r.outputCopy e p now = r.flagged e p := if_neg (by simpa using h)

theorem Region.flagged_length (h : p.length = 188) : (r.flagged e p).length = 188 := by
  unfold Region.flagged Region.relabelled
  split <;> simp [h]

theorem Region.drop_flagged (r : Region) (e : QEntry) (p : Packet) (h : 5 < m) : (r.flagged e p).drop m = p.drop m := by
  have hrelabelled : (r.relabelled e p).drop m = p.drop m := by
    rw [Region.relabelled, drop_setContinuity _ _ (by omega), drop_setIdent _ _ (by omega)]
  unfold Region.flagged
  split
  · rw [drop_setDiscFlag _ h, hrelabelled]
  · exact hrelabelled

/-- The clock sample stands behind the first six bytes. -/
theorem Region.byteAt_outputCopy (h : p.length = 188) (hn : n < 6) :
    byteAt (r.outputCopy e p now) n = byteAt (r.flagged e p) n := by
  by_cases hstamp : e.clockBearing = true ∧ hasSample p = true
  · rw [Region.outputCopy_restamped hstamp, byteAt_restamp _ _ _ hn (Region.flagged_length h)]
  · rw [Region.outputCopy_unstamped hstamp]

theorem Region.byteAt_outputCopy_ne_five (h : p.length = 188) (hn : n < 5) :
    byteAt (r.outputCopy e p now) n = byteAt (r.relabelled e p) n := by
  rw [Region.byteAt_outputCopy h (by omega), Region.flagged]
  split
  · exact byteAt_setDiscFlag _ _ (by omega)
  · rfl

theorem Region.byteAt_relabelled (r : Region) (e : QEntry) (p : Packet) (h1 : n ≠ 1) (h2 : n ≠ 2) (h3 : n ≠ 3) :
    byteAt (r.relabelled e p) n = byteAt p n := by
  rw [Region.relabelled, byteAt_setContinuity _ _ _ h3, byteAt_setIdent _ _ _ h1 h2]

theorem Region.byteAt_outputCopy_five (h : p.length = 188) :
    byteAt (r.outputCopy e p now) 5 =
      if e.setDisc = true ∨ (e.clockBearing = true ∧ hasSample p = true ∧ r.isOwed e.out = true) then
        byteAt p 5 ||| 0x80 else byteAt p 5 := by
  have hcond : (e.setDisc || r.pays e p) = true ↔
      (e.setDisc = true ∨ (e.clockBearing = true ∧ hasSample p = true ∧ r.isOwed e.out = true)) := by
    simp [Region.pays, and_assoc]
  have hlength : (r.relabelled e p).length = 188 := by simp [Region.relabelled, h]
  have hfive : byteAt (r.relabelled e p) 5 = byteAt p 5 := r.byteAt_relabelled e p (by omega) (by omega) (by omega)
  rw [Region.byteAt_outputCopy h (by omega), Region.flagged]
  simp only [hcond]
  split
  · rw [byteAt_five_setDiscFlag hlength, hfive]
  · exact hfive

theorem Region.outputCopy_length (h : p.length = 188) : (r.outputCopy e p now).length = 188 := by
  by_cases hstamp : e.clockBearing = true ∧ hasSample p = true
  · rw [Region.outputCopy_restamped hstamp, restamp_length _ _ (Region.flagged_length h)]
  · rw [Region.outputCopy_unstamped hstamp, Region.flagged_length h]

theorem Region.outputCopy_wf (h : Packet.wf p = true) : Packet.wf (r.outputCopy e p now) = true := by
  obtain ⟨hlength, hsync⟩ := Packet.wf_iff.1 h
  refine Packet.wf_iff.2 ⟨Region.outputCopy_length hlength, ?_⟩
  rw [Region.byteAt_outputCopy_ne_five hlength (by omega), Region.byteAt_relabelled _ _ _ (by omega) (by omega) (by omega),
    hsync]

theorem Region.ident_outputCopy (h : p.length = 188) : ident (r.outputCopy e p now) = e.out := by
  have hrelabelled : ident (r.relabelled e p) = ident (setIdent e.out p) :=
    ident_congr (byteAt_setContinuity _ _ _ (by omega)) (byteAt_setContinuity _ _ _ (by omega))
  rw [ident_congr (Region.byteAt_outputCopy_ne_five h (by omega)) (Region.byteAt_outputCopy_ne_five h (by omega)),
    hrelabelled, ident_setIdent _ _ h]

theorem Region.continuity_outputCopy (h : p.length = 188) :
    continuity (r.outputCopy e p now) = r.nextCount e.out (carriesPayload p) := by
  rw [continuity_congr (Region.byteAt_outputCopy_ne_five h (by omega)), Region.relabelled,
    continuity_setContinuity _ _ (by simpa using h)]

/-- The bits beside the identifier and beside the count leave as they arrived. -/
theorem Region.outputCopy_keeps_beside (h : p.length = 188) :
    (byteAt (r.outputCopy e p now) 1).extractLsb' 5 3 = (byteAt p 1).extractLsb' 5 3 ∧
      (byteAt (r.outputCopy e p now) 3).extractLsb' 4 4 = (byteAt p 3).extractLsb' 4 4 := by
  constructor
  · rw [Region.byteAt_outputCopy_ne_five h (by omega), Region.relabelled, byteAt_setContinuity _ _ _ (by omega),
      byteAt_one_setIdent _ h, extract_append_high3]
  · rw [Region.byteAt_outputCopy_ne_five h (by omega), Region.relabelled,
      byteAt_three_setContinuity _ (by simpa using h), byteAt_setIdent _ _ _ (by omega) (by omega), extract_append_high4]

theorem Region.outputCopy_sample (h : p.length = 188) (hstamp : e.clockBearing = true ∧ hasSample p = true) :
    sampleValue (r.outputCopy e p now) = (sampleValue p + (now - e.arrival).toNat) % 2576980377600 ∧
      sampleExt (r.outputCopy e p now) < 300 ∧
      sampleField (r.outputCopy e p now) / 512 % 64 = sampleField p / 512 % 64 := by
  have hlength := Region.flagged_length (r := r) (e := e) h
  have hfield : sampleField (r.flagged e p) = sampleField p := sampleField_congr (r.drop_flagged e p (by omega))
  rw [Region.outputCopy_restamped hstamp, sampleValue_restamp _ hlength, spareBits_restamp _ hlength, hfield,
    sampleValue_congr hfield]
  exact ⟨rfl, sampleExt_restamp _ hlength, rfl⟩

theorem Region.drop_outputCopy (h : p.length = 188) : (r.outputCopy e p now).drop 12 = p.drop 12 := by
  by_cases hstamp : e.clockBearing = true ∧ hasSample p = true
  · rw [Region.outputCopy_restamped hstamp, drop_restamp _ (Region.flagged_length h), r.drop_flagged e p (by omega)]
  · rw [Region.outputCopy_unstamped hstamp, r.drop_flagged e p (by omega)]

/-! ## An instant that discards nothing -/

/-- The head of a queue that has not waited too long holds the queue. -/
theorem keeps_heads {l : List QEntry} {f : QEntry → Bool} (h : ∀ x ∈ l.head?, f x = false) :
    l.takeWhile f = [] ∧ l.dropWhile f = l := by
  cases l with
  | nil => simp
  | cons x l => simp [h x rfl]

theorem Region.discards_nil (hm : ∀ x ∈ r.mainQ.head?, x.over r.delayMs now = false)
    (he : ∀ x ∈ r.expQ.head?, x.over r.ageMs now = false) : r.discards now = [] := by
  rw [Region.discards, (keeps_heads hm).1, (keeps_heads he).1, List.append_nil]

theorem Region.readied_queues (hm : ∀ x ∈ r.mainQ.head?, x.over r.delayMs now = false)
    (he : ∀ x ∈ r.expQ.head?, x.over r.ageMs now = false) :
    (r.readied now).mainQ = r.mainQ ∧ (r.readied now).expQ = r.expQ := by
  rw [Region.readied_only]
  exact ⟨(keeps_heads hm).2, (keeps_heads he).2⟩

/-- With nothing discarded, what is owed stands: also to an identifier without a record, to which nothing is owed. -/
theorem Region.isOwed_readied_of_nil {j : Ident} (h : r.discards now = []) (hq : (r.readied now).queued j = true) :
    (r.readied now).isOwed j = r.isOwed j := by
  by_cases hj : r.recordOf j = none
  · rw [Region.isOwed_eq, Region.isOwed_eq, Region.recordOf_readied_none hj, hj]
  · rw [Region.isOwed_readied (.inl hq) hj, h, Region.owedAfter, List.any_nil, Bool.or_false]

/-- A queued packet begun with nothing discarded leaves as the output copy of the region before the instant. -/
theorem Sends.queued_undisturbed (h : Sends g c s t) (hb : instantBegun g s = queuedBegun g s e x b)
    (hx : x.LessHead ((s.region g).readied s.clock) e) (hnil : (s.region g).discards s.clock = []) :
    FeedsCarry g ((s.region g).outputCopy e (bufferPacket s.pool e.buf) s.clock) s t ∧
      BegunFrom g (s.region g) [] e (bufferPacket s.pool e.buf) s t := by
  have hpool : (instantReady g s).pool = s.pool := by
    rw [instantReady_pool, hnil]
    exact droppedFrom_nil _
  have hcarries := h.queued_carries hb
  have hbegun := h.queued_begunFrom hb hx
  rw [hpool, Region.outputCopy_congr (Region.lastCount_readied (.inl hx.head))
    (Region.isOwed_readied_of_nil hnil hx.head)] at hcarries
  rw [hnil] at hbegun
  simp only [List.map_nil, droppedFrom_nil] at hbegun
  exact ⟨hcarries, hbegun⟩

/-- Settles O48: the output copy byte for byte, and an instant that discards nothing and chooses from its queues. -/
theorem outputCopyDrawsOnTheRegistry : Obligations.OutputCopyDrawsOnTheRegistry := by
  constructor
  · rintro r e p q now hwf - rfl
    obtain ⟨hlength, -⟩ := Packet.wf_iff.1 hwf
    obtain ⟨hflags, hcontrol⟩ := Region.outputCopy_keeps_beside (r := r) (e := e) (now := now) hlength
    refine ⟨Region.outputCopy_wf hwf, Region.ident_outputCopy hlength, hflags, Region.continuity_outputCopy hlength,
      hcontrol, ?_, Region.byteAt_outputCopy_five hlength, Region.outputCopy_sample hlength, fun hstamp => ?_,
      Region.drop_outputCopy hlength⟩
    · rw [Region.byteAt_outputCopy_ne_five hlength (by omega), r.byteAt_relabelled e p (by omega) (by omega) (by omega)]
    · rw [Region.outputCopy_unstamped hstamp]
      exact sampleField_congr (r.drop_flagged e p (by omega))
  · rintro g c r e rest s rfl hc hn hcarousels hm he hqueue
    obtain ⟨t, ht⟩ := exists_sends hc hn
    have hq := instantReady_choose_queued (g := g) (.inr hcarousels)
    obtain ⟨hmain, hexp⟩ := Region.readied_queues hm he
    have hnil := Region.discards_nil hm he
    refine ⟨t, ht.exec, ?_⟩
    rcases hqueue with hmq | ⟨hmq, heq⟩
    · exact ht.queued_undisturbed (instantBegun_main hq (hmain.trans hmq)) (Region.lessHead_main (hmain.trans hmq)) hnil
    · exact ht.queued_undisturbed (instantBegun_expendable hq (hmain.trans hmq) (hexp.trans heq))
        (Region.lessHead_expendable (hexp.trans heq)) hnil

end Sys2Proof.Machine
end

section
/-!
PROOFS. REGION_START, with slot 0 begun there and then, and REGION_STOP, which ends the cycles of the region's carousels one
after another (R145, R146, R155, R158, R168, R170, R175).
-/
namespace Sys2Proof.Machine

variable {s t u : State} {g : RegionId} {k j : CarouselId} {r : Region} {p : Packet} {l : List CarouselId}

/-! ## A region that starts (R145, R170) -/

theorem readAll_region (g : RegionId) : readAll (rIndex 8) (e1 g) = some g :=
  readAll_some _ _ _ (by simpa using rIndex_e1 g (by decide) [])

theorem doRegionStart_stopped (h : (s.region g).clk = none) :
    doRegionStart g s = .ok ([1, 1] ++ e6 s.clock.toNat) (startRegion g s) := by
  unfold doRegionStart
  rw [h]
  rfl

theorem doRegionStart_running (h : (s.region g).clk ≠ none) : doRegionStart g s = .ok [1, 0] s := by
  obtain ⟨c, hc⟩ := Option.ne_none_iff_exists'.1 h
  unfold doRegionStart
  rw [hc]
  rfl

/-- The region in which slot 0 is begun. -/
def Region.opened (r : Region) (now : Clock) : Region :=
  { r with clk := some { base := now, next := now, acc := 0, index := 0 }, nulls := [] }

theorem openRegion_region (g : RegionId) (s : State) : (openRegion g s).region g = (s.region g).opened s.clock :=
  State.setRegion_region_self s g _

/-- With no cycle in progress before the start, the cycles after it are those of the RUNNING carousels, at their first
packet. -/
theorem openRegion_cursor (hk : (s.carousel k).region = some g) (hnone : (s.carousel k).cursor = none) {i : Nat}
    (hi : ((openRegion g s).carousel k).cursor = some i) :
    (s.carousel k).state = .running ∧ i = 0 ∧ ((openRegion g s).carousel k).live = (s.carousel k).live := by
  rw [(openRegion_meets s g).2 k, if_pos hk] at hi ⊢
  split at hi
  · next hrunning =>
    rw [if_pos hrunning]
    exact ⟨hrunning, (Option.some.inj hi).symm, rfl⟩
  · exact absurd (hnone.symm.trans hi) (by simp)

theorem openRegion_running (hk : (s.carousel k).region = some g) (hrunning : (s.carousel k).state = .running) :
    (openRegion g s).carousel k = (s.carousel k).cycling s.clock := by
  rw [(openRegion_meets s g).2 k, if_pos hk, if_pos hrunning]

theorem openRegion_carousel_region (g : RegionId) (s : State) (k : CarouselId) :
    ((openRegion g s).carousel k).region = (s.carousel k).region := by
  rw [(openRegion_meets s g).2 k]
  split
  · split <;> rfl
  · rfl

/-- The start is the slot instant of slot 0. -/
theorem startRegion_instant (g : RegionId) (s : State) :
    exec (.slotInstant g) (openRegion g s) = .next (startRegion g s) := rfl

section Slot0

variable (hm : (s.region g).mainQ = []) (he : (s.region g).expQ = [])
  (hcursor : ∀ k, (s.carousel k).region = some g → (s.carousel k).cursor = none)

include hm he hcursor

/-- Slot 0 with nothing due: a null packet. -/
theorem startRegion_null
    (hlive : ∀ k, (s.carousel k).region = some g → (s.carousel k).state = .running → (s.carousel k).live = []) :
    ((startRegion g s).region g).lastBegun = .null ∧ FeedsCarry g nullPacket s (startRegion g s) := by
  obtain ⟨t, ht, -, -, -, hqueue⟩ := slotInstantDiscardsAndChooses g _ _ [] [] [] [] (openRegion g s)
    (openRegion_region g s).symm rfl rfl (by simp [Region.opened, hm]) (by simp [Region.opened, he])
    (by simp [Region.opened, hm, he]) rfl
  obtain rfl : startRegion g s = t := Host.Outcome.next.inj ((startRegion_instant g s).symm.trans ht)
  obtain ⟨-, -, -, -, hnull⟩ := hqueue (.inr fun h j hh hj => by
    rw [openRegion_carousel_region] at hh
    obtain ⟨hrunning, -, hl⟩ := openRegion_cursor hh (hcursor h hh) hj
    simp [hl, hlive h hh hrunning])
  obtain ⟨hbegun, -, -, -, -, -, hcarries⟩ := hnull rfl rfl
  exact ⟨hbegun, hcarries⟩

/-- Slot 0 with carousels that run: the first packet of the one whose turn is first. -/
theorem startRegion_carousel (hk : (s.carousel k).region = some g) (hrunning : (s.carousel k).state = .running)
    (hp : (s.carousel k).live.head? = some p) (hlookup : (s.region g).lookup (ident p) ≠ none)
    (hfirst : ∀ h, (s.carousel h).region = some g → (s.carousel h).state = .running → (s.carousel h).live ≠ [] →
      (s.region g).carouselTurn k ≤ (s.region g).carouselTurn h) :
    ((startRegion g s).region g).lastBegun = .carousel ∧
      FeedsCarry g (setContinuity (if carriesPayload p then (s.region g).lastCount (ident p) + 1
        else (s.region g).lastCount (ident p)) p) s (startRegion g s) := by
  obtain ⟨t, ht, -, -, hcarousel, -⟩ := slotInstantDiscardsAndChooses g _ _ [] [] [] [] (openRegion g s)
    (openRegion_region g s).symm rfl rfl (by simp [Region.opened, hm]) (by simp [Region.opened, he])
    (by simp [Region.opened, hm, he]) rfl
  obtain rfl : startRegion g s = t := Host.Outcome.next.inj ((startRegion_instant g s).symm.trans ht)
  have hopen := openRegion_running hk hrunning
  obtain ⟨hbegun, -, -, -, -, -, hcarries⟩ := hcarousel (by simp) k 0 p (by rw [hopen]; exact hk) (by rw [hopen]; rfl)
    (by rw [hopen, ← List.head?_eq_getElem?]; exact hp) fun h j hh hj hlt => by
      rw [openRegion_carousel_region] at hh
      obtain ⟨hrun, -, hl⟩ := openRegion_cursor hh (hcursor h hh) hj
      rw [hl] at hlt
      exact hfirst h hh hrun (List.ne_nil_of_length_pos (Nat.zero_lt_of_lt hlt))
  obtain ⟨hcarries, -⟩ := hcarries _ rfl hlookup
  exact ⟨hbegun, hcarries⟩

end Slot0

/-! ## Registrations given up by a swap (R168) -/

theorem mem_distinctIdents {i : Ident} (l : List Packet) : i ∈ distinctIdents l ↔ ∃ p ∈ l, ident p = i := by
  induction l with
  | nil => simp [distinctIdents]
  | cons p l ih =>
    rw [distinctIdents, List.mem_cons, List.mem_filter, ih]
    by_cases hi : i = ident p
    · simp [hi]
    · simp [hi, Ne.symm hi]

theorem mem_packetRegistrations {x : Registration} (k : CarouselId) (l : List Packet) :
    x ∈ packetRegistrations k l ↔ x.2 = .carousel k ∧ ∃ p ∈ l, ident p = x.1 := by
  obtain ⟨i, d⟩ := x
  simp only [packetRegistrations, List.mem_map, mem_distinctIdents, Prod.mk.injEq]
  constructor
  · rintro ⟨j, hj, rfl, rfl⟩
    exact ⟨rfl, hj⟩
  · rintro ⟨rfl, hi⟩
    exact ⟨i, hi, rfl, rfl⟩

/-- Registrations of identifiers that all stand already change nothing. -/
theorem foldl_register_held {want : List Registration} (h : ∀ x ∈ want, r.lookup x.1 ≠ none) :
    want.foldl Region.register r = r := by
  induction want with
  | nil => rfl
  | cons x want ih =>
    obtain ⟨e, he⟩ := Option.ne_none_iff_exists'.1 (h x (by simp))
    have hx : r.register x = r := by
      unfold Region.register
      rw [he]
    rw [List.foldl_cons, hx]
    exact ih fun y hy => h y (by simp [hy])

/-- The entries that a carousel's list does not keep are those that a rewriting gives up. -/
theorem keptBySwap_eq (k : CarouselId) (c : Carousel) (e : RegEntry) :
    keptBySwap k c (e.ident, e.definer) = !(ownCarousel k e && !e.among (packetRegistrations k c.building)) := by
  have hamong : e.among (packetRegistrations k c.building) =
      (decide (e.definer = .carousel k) && c.building.any fun p => decide (ident p = e.ident)) := by
    rw [Bool.eq_iff_iff, among_iff, mem_packetRegistrations]
    simp
  rw [hamong, keptBySwap, ownCarousel]
  by_cases h : e.definer = .carousel k <;> simp [h]

/-- With its queues empty and no drain records, a region whose registry holds the list's identifiers only gives up the others
of the carousel. -/
theorem Region.rewrite_held {c : Carousel} (hm : r.mainQ = []) (he : r.expQ = []) (hd : r.drains = [])
    (hheld : r.holdsBuilding k c) :
    r.rewrite (ownCarousel k) (packetRegistrations k c.building) =
      { r with registry := r.registry.filter fun e => keptBySwap k c (e.ident, e.definer) } := by
  have hgive : r.giveUp (fun e => ownCarousel k e && !e.among (packetRegistrations k c.building)) =
      { r with registry := r.registry.filter fun e => keptBySwap k c (e.ident, e.definer) } := by
    simp only [Region.giveUp, Region.queued, hm, he, hd, keptBySwap_eq]
    simp
  unfold Region.rewrite
  rw [hgive]
  refine foldl_register_held fun x hx hnone => ?_
  obtain ⟨hx2, p, hp, hpx⟩ := (mem_packetRegistrations k _).1 hx
  obtain ⟨e, hmem, heq⟩ := List.mem_map.1 (hheld p hp)
  obtain ⟨hident, hdef⟩ := Prod.mk.inj heq
  have hkept : keptBySwap k c (e.ident, e.definer) = true := by
    rw [keptBySwap]
    simpa [hdef] using ⟨p, hp, hident.symm⟩
  exact (Region.lookup_none _ _).1 hnone e (List.mem_filter.2 ⟨hmem, hkept⟩) (hident.trans hpx)

/-! ## The cycles of a region's carousels end (R146, R175) -/

/-- Whether a registration outlasts the end of a carousel's cycle in a region. -/
def State.outlasts (s : State) (g : RegionId) (e : RegEntry) (k : CarouselId) : Bool :=
  !(decide ((s.carousel k).region = some g) && (s.carousel k).swapPending) || keptBySwap k (s.carousel k) (e.ident, e.definer)

/-- The cycles of some carousels have ended in a region: pending swaps have taken effect, with the registrations that they
give up, and nothing else has changed. -/
structure CyclesEnded (g : RegionId) (l : List CarouselId) (s t : State) : Prop where
  only : t = { s with regions := t.regions, carousels := t.carousels }
  regions : t.regions = s.regions.set g
    { s.region g with registry := (s.region g).registry.filter fun e => l.all (s.outlasts g e) }
  carousel : ∀ k, t.carousel k =
    if k ∈ l ∧ (s.carousel k).region = some g then { (s.carousel k).settled with cursor := none, interval := none }
    else s.carousel k

theorem CyclesEnded.region (h : CyclesEnded g l s t) :
    t.region g = { s.region g with registry := (s.region g).registry.filter fun e => l.all (s.outlasts g e) } := by
  unfold State.region
  rw [h.regions]
  exact State.setRegion_region_self s g _

theorem State.set_region_self (s : State) (g : RegionId) : s.regions.set g (s.region g) = s.regions := by
  simp [State.region]

theorem CyclesEnded.nil (g : RegionId) (s : State) : CyclesEnded g [] s s := by
  have hregistry : ((s.region g).registry.filter fun e => [].all (s.outlasts g e)) = (s.region g).registry := by simp
  refine ⟨rfl, ?_, fun k => by simp⟩
  rw [hregistry]
  exact (s.set_region_self g).symm

/-- One carousel after another. -/
theorem CyclesEnded.cons (hk : k ∉ l) (h : CyclesEnded g [k] s u) (h' : CyclesEnded g l u t) :
    CyclesEnded g (k :: l) s t := by
  have hother : ∀ j ∈ l, u.carousel j = s.carousel j := fun j hj => by
    have hne : j ≠ k := fun e => hk (e ▸ hj)
    rw [h.carousel j, if_neg (by simp [hne])]
  have houtlasts : ∀ e, l.all (u.outlasts g e) = l.all (s.outlasts g e) := fun e => by
    rw [Bool.eq_iff_iff, List.all_eq_true, List.all_eq_true]
    refine forall₂_congr fun j hj => ?_
    rw [State.outlasts, State.outlasts, hother j hj]
  refine ⟨?_, ?_, fun j => ?_⟩
  · rw [h'.only, h.only]
  · rw [h'.regions, h.region, h.regions, Vector.set_set]
    simp only [List.filter_filter, houtlasts, List.all_cons, List.all_nil, Bool.true_and, Bool.and_comm]
  · rw [h'.carousel j]
    by_cases hj : j ∈ l
    · have hne : j ≠ k := fun e => hk (e ▸ hj)
      simp [hj, hother j hj]
    · rw [if_neg (by simp [hj]), h.carousel j]
      simp [hj]

theorem Carousel.settled_ended (c : Carousel) :
    ({ c with cursor := none, interval := none } : Carousel).settled =
      { c.settled with cursor := none, interval := none } := by
  unfold Carousel.settled
  split <;> rfl

theorem endCycle_only (k : CarouselId) (s : State) :
    endCycle k s = { s with regions := (endCycle k s).regions, carousels := (endCycle k s).carousels } := by
  unfold endCycle settleSwap swapEffect registerLive
  dsimp only
  split
  · split <;> rfl
  · rfl

/-- The regions after the end of a cycle without a pending swap, and with one. -/
theorem endCycle_noSwap (h : (s.carousel k).swapPending = false) : (endCycle k s).regions = s.regions := by
  unfold endCycle
  rw [settleSwap_noSwap (by rw [State.setCarousel_carousel_self]; exact h)]
  rfl

theorem endCycle_swap (hk : (s.carousel k).region = some g) (h : (s.carousel k).swapPending = true) :
    (endCycle k s).regions =
      s.regions.set g ((s.region g).rewrite (ownCarousel k) (packetRegistrations k (s.carousel k).building)) := by
  unfold endCycle settleSwap swapEffect
  rw [State.setCarousel_carousel_self]
  dsimp only [Carousel.swapped]
  rw [if_pos h, hk]
  rfl

/-- In a region that has been flushed, the end of a cycle gives up registrations and makes none. -/
theorem endCycle_ended (hk : (s.carousel k).region = some g) (hm : (s.region g).mainQ = []) (he : (s.region g).expQ = [])
    (hd : (s.region g).drains = [])
    (hheld : (s.carousel k).swapPending = true → (s.region g).holdsBuilding k (s.carousel k)) :
    CyclesEnded g [k] s (endCycle k s) := by
  refine ⟨?_, ?_, fun j => ?_⟩
  · exact endCycle_only k s
  · cases hswap : (s.carousel k).swapPending with
    | true =>
      have hkept : (fun e => [k].all (s.outlasts g e)) =
          fun e : RegEntry => keptBySwap k (s.carousel k) (e.ident, e.definer) := by
        funext e
        simp [State.outlasts, hk, hswap]
      rw [hkept, ← Region.rewrite_held hm he hd (hheld hswap), endCycle_swap hk hswap]
    | false =>
      have hkept : ((s.region g).registry.filter fun e => [k].all (s.outlasts g e)) = (s.region g).registry := by
        simp [State.outlasts, hswap]
      rw [hkept, endCycle_noSwap hswap]
      exact (s.set_region_self g).symm
  · unfold endCycle
    rw [settleSwap_carousel, State.setCarousel_carousel_self, Carousel.settled_ended]
    by_cases hj : j = k
    · subst hj
      simp [hk]
    · rw [if_neg (Ne.symm hj), if_neg (by simp [hj]), State.setCarousel_carousel_ne _ _ _ _ (Ne.symm hj)]

/-- The cycles of the carousels of a list end one after another. -/
theorem foldl_endCycle_ended (hl : l.Nodup) (hm : (s.region g).mainQ = []) (he : (s.region g).expQ = [])
    (hd : (s.region g).drains = [])
    (hheld : ∀ k ∈ l, (s.carousel k).region = some g → (s.carousel k).swapPending = true →
      (s.region g).holdsBuilding k (s.carousel k)) :
    CyclesEnded g l s (l.foldl (fun t k => if (t.carousel k).region = some g then endCycle k t else t) s) := by
  induction l generalizing s with
  | nil => exact .nil g s
  | cons k l ih =>
    obtain ⟨hk, hl⟩ := List.nodup_cons.1 hl
    have hstep : CyclesEnded g [k] s (if (s.carousel k).region = some g then endCycle k s else s) := by
      split
      · next hregion => exact endCycle_ended hregion hm he hd (hheld k (by simp) hregion)
      · next hregion =>
        refine ⟨rfl, ?_, fun j => ?_⟩
        · have hkept : ((s.region g).registry.filter fun e => [k].all (s.outlasts g e)) = (s.region g).registry := by
            simp [State.outlasts, hregion]
          rw [hkept]
          exact (s.set_region_self g).symm
        · by_cases hj : j = k <;> simp [hj, hregion]
    rw [List.foldl_cons]
    generalize (if (s.carousel k).region = some g then endCycle k s else s) = u at hstep ⊢
    have hregion := hstep.region
    refine hstep.cons hk (ih hl ?_ ?_ ?_ fun j hj hregion' hswap p hp => ?_)
    · rw [hregion, hm]
    · rw [hregion, he]
    · rw [hregion, hd]
    · have hne : j ≠ k := fun e => hk (e ▸ hj)
      rw [hstep.carousel j, if_neg (by simp [hne])] at hregion' hswap hp
      obtain ⟨e, hmem, heq⟩ := List.mem_map.1 (hheld j (by simp [hj]) hregion' hswap p hp)
      obtain ⟨-, hdef⟩ := Prod.mk.inj heq
      refine List.mem_map.2 ⟨e, ?_, heq⟩
      rw [hregion]
      refine List.mem_filter.2 ⟨hmem, ?_⟩
      simp [State.outlasts, keptBySwap, hdef, hne]

/-! ## A region that stops -/

theorem doRegionStop_stopped (h : (s.region g).clk = none) : doRegionStop g s = .ok (e2 0 ++ e2 0) s := by
  unfold doRegionStop
  rw [h]

theorem doRegionStop_running (h : (s.region g).clk ≠ none) :
    doRegionStop g s =
      .ok (e2 (s.region g).mainQ.length ++ e2 (s.region g).expQ.length) (stopRegion g s) := by
  obtain ⟨c, hc⟩ := Option.ne_none_iff_exists'.1 h
  unfold doRegionStop
  rw [hc]

theorem Region.owe_registry (r : Region) (i : Ident) :
    (r.owe i).registry = r.registry.map fun e => { e with owed := e.owed || decide (i = e.ident) } := by
  unfold Region.owe
  split
  · refine List.map_congr_left fun e _ => ?_
    by_cases he : e.ident = i
    · simp [he]
    · simp [he, Ne.symm he]
  · next hnone =>
    refine ((List.map_congr_left (g := id) fun e he => ?_).trans (List.map_id _)).symm
    simp [Ne.symm ((r.lookup_none i).1 hnone e he)]

/-- The discontinuities of entries that leave are owed in the registry. -/
theorem Region.oweAll_registry (r : Region) (es : List QEntry) :
    (r.oweAll es).registry = r.registry.map fun e =>
      { e with owed := e.owed || es.any fun q => q.setDisc && decide (q.out = e.ident) } := by
  induction es generalizing r with
  | nil => simp [Region.oweAll]
  | cons x es ih =>
    have hcons : r.oweAll (x :: es) = (if x.setDisc then r.owe x.out else r).oweAll es := rfl
    rw [hcons, ih]
    cases hx : x.setDisc with
    | false => simp [hx]
    | true => simp [hx, Region.owe_registry, Bool.or_assoc]

/-- The region's own record after the stop. -/
theorem Region.stopped_eq (r : Region) :
    r.stopped = { r with
      clk := none, rate := r.pendingRate.getD r.rate, pendingRate := none, mainQ := [], expQ := [], drains := []
      registry := r.registry.map fun e =>
        { e with owed := e.owed || (r.mainQ ++ r.expQ).any fun q => q.setDisc && decide (q.out = e.ident) } } := by
  rw [← Region.oweAll_registry]
  unfold Region.stopped
  rw [Region.oweAll_only]

theorem Region.stopped_definers (r : Region) : r.stopped.definers = r.definers := by
  rw [Region.stopped_eq]
  simp [Region.definers]

/-- A RUNNING region before the cycles of its carousels end. -/
def regionFlushed (g : RegionId) (s : State) : State :=
  { s.setRegion g (s.region g).stopped with
    pool := droppedFrom (((s.region g).mainQ ++ (s.region g).expQ).map QEntry.buf) s.pool }

theorem regionFlushed_region (g : RegionId) (s : State) : (regionFlushed g s).region g = (s.region g).stopped :=
  State.setRegion_region_self s g _

section Stop

variable (hheld : ∀ k, (s.carousel k).region = some g → (s.carousel k).swapPending = true →
  (s.region g).holdsBuilding k (s.carousel k))

include hheld

theorem stopRegion_ended : CyclesEnded g (List.finRange 32) (regionFlushed g s) (stopRegion g s) := by
  have hregion := regionFlushed_region g s
  have hstop : stopRegion g s = (List.finRange 32).foldl
      (fun t k => if (t.carousel k).region = some g then endCycle k t else t) (regionFlushed g s) := by
    unfold stopRegion
    dsimp only
    rw [releaseAll_eq]
    rfl
  rw [hstop]
  refine foldl_endCycle_ended (List.nodup_finRange 32) ?_ ?_ ?_ fun k _ hk hswap => ?_
  · rw [hregion]
    rfl
  · rw [hregion]
    rfl
  · rw [hregion]
    rfl
  · unfold Region.holdsBuilding
    rw [hregion, Region.stopped_definers]
    exact hheld k hk hswap

theorem stopRegion_carousel (k : CarouselId) :
    (stopRegion g s).carousel k =
      if (s.carousel k).region = some g then { (s.carousel k).settled with cursor := none, interval := none }
      else s.carousel k := by
  refine ((stopRegion_ended hheld).carousel k).trans ?_
  simp only [List.mem_finRange, true_and]
  rfl

/-- What a stop leaves, but for the carousels. -/
theorem stopRegion_eq :
    stopRegion g s =
      { s.setRegion g { s.region g with
          clk := none, rate := (s.region g).pendingRate.getD (s.region g).rate, pendingRate := none, mainQ := [], expQ := []
          drains := []
          registry := ((s.region g).registry.filter fun e => (List.finRange 32).all (s.outlasts g e)).map fun e =>
            { e with owed := e.owed || ((s.region g).mainQ ++ (s.region g).expQ).any fun q =>
                q.setDisc && decide (q.out = e.ident) } }
        with
        pool := droppedFrom (((s.region g).mainQ ++ (s.region g).expQ).map QEntry.buf) s.pool
        carousels := (stopRegion g s).carousels } := by
  have hregions := (stopRegion_ended hheld).regions
  rw [regionFlushed_region, Region.stopped_eq, List.filter_map] at hregions
  rw [(stopRegion_ended hheld).only, hregions]
  dsimp only [regionFlushed, State.setRegion]
  rw [Vector.set_set]
  rfl

end Stop

/-- Settles O45: the start by the slot instant that it begins, the stop by the carousels whose cycles it ends. -/
theorem regionStartAndStop : Obligations.RegionStartAndStop := by
  rintro g r s hc rfl
  have hread := readAll_region g
  refine ⟨fun hstopped => ⟨⟨openRegion g s, startRegion g s, (openRegion_meets s g).1, (openRegion_meets s g).2, rfl,
    answers_of_serve (fun _ => rfl) hc (.inl rfl) hread (doRegionStart_stopped hstopped), fun hm he hcursor =>
      ⟨startRegion_null hm he hcursor, fun k p hk hrunning hp => startRegion_carousel hm he hcursor hk hrunning hp⟩⟩,
    answers_of_serve (fun _ => rfl) hc (.inl rfl) hread (doRegionStop_stopped hstopped)⟩,
    fun hrunning => ⟨answers_of_serve (fun _ => rfl) hc (.inl rfl) hread (doRegionStart_running hrunning), fun hheld =>
      ⟨stopRegion g s, answers_of_serve (fun _ => rfl) hc (.inl rfl) hread (doRegionStop_running hrunning),
        stopRegion_eq hheld, stopRegion_carousel hheld⟩⟩⟩

end Sys2Proof.Machine
end

section
/-!
PROOFS. The registrations that a carousel asks for in a region: what the registration test makes of them, and what a rewriting
leaves (R157, R165, R167, R168).
-/
namespace Sys2Proof.Machine

variable {r r' r'' : Region} {own : RegEntry → Bool} {want : List Registration} {k : CarouselId} {l : List Packet}

/-! ## What is asked for -/

/-- A list of packets asks for each of its identifiers with one definer. -/
theorem packetRegistrations_unique (k : CarouselId) (l : List Packet) :
    ∀ x ∈ packetRegistrations k l, ∀ y ∈ packetRegistrations k l, x.1 = y.1 → x = y := fun _ hx _ hy h =>
  Prod.ext h (((mem_packetRegistrations k l).1 hx).1.trans ((mem_packetRegistrations k l).1 hy).1.symm)

theorem packetRegistrations_length (k : CarouselId) (l : List Packet) :
    (packetRegistrations k l).length = (distinctIdents l).length := List.length_map _

/-! ## The registration test (R157) -/

/-- A carousel's test with identifiers that are all new: there is room for them beside all that stands, or there is not. -/
theorem testAll_packets_full (hnew : ∀ x ∈ packetRegistrations k l, ∀ e ∈ r.registry, e.ident ≠ x.1)
    (hfull : 192 < r.registry.length + (distinctIdents l).length) :
    r.testAll ownNone (packetRegistrations k l) = some .full := by
  refine testAll_full_new hnew ?_
  have hall : (r.registry.filter fun e => !ownNone e) = r.registry := List.filter_eq_self.2 fun _ _ => rfl
  rwa [hall, packetRegistrations_length]

theorem testAll_packets_none
    (hfree : ∀ x ∈ packetRegistrations k l, ∀ e ∈ r.registry, e.ident = x.1 → e.definer = x.2)
    (hroom : r.registry.length + (distinctIdents l).length ≤ 192) :
    r.testAll ownNone (packetRegistrations k l) = none :=
  testAll_none hfree (by rwa [packetRegistrations_length])

/-! ## A rewriting of registrations -/

/-- A rewriting is what the rules say wherever the writer's own entries have the definer that it asks for, even where another
definer holds an identifier: that registration then stays as it is. -/
theorem Region.rewrite_registers_own (hwant : ∀ x ∈ want, ∀ y ∈ want, x.1 = y.1 → x = y)
    (hown : ∀ x ∈ want, ∀ e ∈ r.registry, own e = true → e.ident = x.1 → e.definer = x.2) :
    Registers own want r (r.rewrite own want) := by
  have hkept : ∀ e : RegEntry, (own e && !e.among want) = false ↔ own e = false ∨ (e.ident, e.definer) ∈ want := fun e => by
    rw [← among_iff, Bool.and_eq_false_iff, Bool.not_eq_false']
  have hnew : ∀ x ∈ want, (∀ y ∈ (r.giveUp fun e => own e && !e.among want).registry, y.ident ≠ x.1) ↔
      ∀ y ∈ r.registry, y.ident ≠ x.1 := by
    refine fun x hx => ⟨fun h y hy hid => h y ((mem_giveUp _ r).2 ⟨hy, (hkept y).2 ?_⟩) hid,
      fun h y hy => h y ((mem_giveUp _ r).1 hy).1⟩
    refine or_iff_not_imp_left.2 fun hy' => ?_
    have hdef := hown x hx y hy (Bool.not_eq_false _ ▸ hy') hid
    rwa [hid, hdef]
  refine ⟨r.rewrite_only own want, fun e => ?_⟩
  unfold Region.rewrite
  rw [mem_foldl_register hwant, mem_giveUp, hkept]
  exact or_congr_right (and_congr_right fun hmem => and_congr_left fun _ => hnew _ hmem)

/-- What a carousel asks for beside all that stands (R165, R167). -/
theorem Region.rewrite_none_registers (k : CarouselId) (l : List Packet) (r : Region) :
    Registers (fun _ => false) (carouselWants k l) r (r.rewrite ownNone (packetRegistrations k l)) :=
  Region.rewrite_registers_own (packetRegistrations_unique k l) fun _ _ _ _ h => absurd h (by decide)

/-- What a carousel asks for in place of its own registrations (R168). -/
theorem Region.rewrite_own_registers (k : CarouselId) (l : List Packet) (r : Region) :
    Registers (fun e => decide (e.definer = .carousel k)) (carouselWants k l) r
      (r.rewrite (ownCarousel k) (packetRegistrations k l)) :=
  Region.rewrite_registers_own (packetRegistrations_unique k l) fun _ hx _ _ howned _ =>
    (of_decide_eq_true howned).trans ((mem_packetRegistrations k l).1 hx).1.symm

/-- Registrations added, and then the writer's others given up, are one rewriting. -/
theorem Registers.then_own (h : Registers (fun _ => false) want r r') (h' : Registers own want r' r'') :
    Registers own want r r'' := by
  obtain ⟨honly, hmem⟩ := h
  obtain ⟨honly', hmem'⟩ := h'
  refine ⟨by rw [honly', honly], fun e => ?_⟩
  rw [hmem', hmem]
  constructor
  · rintro (⟨⟨he, -⟩ | hadded, hkept⟩ | ⟨hwant, hnew, hrest⟩)
    · exact .inl ⟨he, hkept⟩
    · exact .inr hadded
    · exact .inr ⟨hwant, fun x hx => hnew x ((hmem x).2 (.inl ⟨hx, .inl rfl⟩)), hrest⟩
  · rintro (⟨he, hkept⟩ | hadded)
    · exact .inl ⟨.inl ⟨he, .inl rfl⟩, hkept⟩
    · exact .inl ⟨.inr hadded, .inr hadded.1⟩

end Sys2Proof.Machine
end

section
/-!
PROOFS. CAROUSEL_CONFIG and CAROUSEL_APPEND: the bodies that they read, their refusals in order, and what they leave
(R164 to R166).
-/
namespace Sys2Proof.Machine

variable {s : State} {k : CarouselId} {g : RegionId} {c : Carousel} {x : CarouselConfig}

/-! ## The body of CAROUSEL_CONFIG (R165, R200) -/

/-- The body of a CAROUSEL_CONFIG. -/
def carouselConfigBody (x : CarouselConfig) : List Byte :=
  e1 x.carousel ++ eOpt (fun g : RegionId => e1 g) x.region ++ eOpt e4 x.interval ++
    eOpt (fun m => e1 (CarMode.code m)) x.mode

theorem readAll_carouselConfig (hi : ∀ n ∈ x.interval, n < 2 ^ 32) :
    readAll rCarouselConfig (carouselConfigBody x) = some x := by
  have hmode : ∀ m : CarMode, m.code < 256 ∧ [CarMode.continuous, .single][m.code]? = some m := by
    rintro (_ | _) <;> exact ⟨by decide, rfl⟩
  have hlast := rOpt_setting hmode x.mode []
  rw [List.append_nil] at hlast
  refine readAll_some _ _ _ ?_
  simp only [rCarouselConfig, carouselConfigBody, List.append_assoc]
  rw [rThen_some _ _ _ _ _ _ _ (rIndex_e1 x.carousel (by decide) _)
    (rThen_some _ _ _ _ _ _ _ (rOpt_index (by decide) x.region _)
      (rThen_some _ _ _ _ _ _ _ (rOpt_number hi _) hlast))]
  rfl

/-! ## CAROUSEL_CONFIG (R165) -/

/-- The settings that a CAROUSEL_CONFIG leaves. -/
theorem CarouselConfig.apply_eq (x : CarouselConfig) (c : Carousel) :
    x.apply c = { c with
      region := x.region.or c.region, intervalMs := (x.interval.map fun n => min 30000 (max 10 n)).getD c.intervalMs
      mode := x.mode.getD c.mode } := by
  unfold CarouselConfig.apply
  cases x.region <;> cases x.interval <;> rfl

theorem CarouselConfig.moves_none (h : (x.apply c).region = c.region) : x.moves c = none := by
  rw [x.apply_eq] at h
  unfold CarouselConfig.moves
  cases hx : x.region with
  | none => rfl
  | some g =>
    simp only [hx, Option.some_or] at h
    exact if_pos h.symm

theorem CarouselConfig.moves_some (hx : x.region = some g) (hc : c.region ≠ some g) : x.moves c = some g := by
  unfold CarouselConfig.moves
  rw [hx]
  exact if_neg hc

theorem doCarouselConfig_stays (h : x.moves (s.carousel x.carousel) = none) :
    doCarouselConfig x s =
      .ok (eCarouselSettings (x.apply (s.carousel x.carousel)))
        (s.setCarousel x.carousel (x.apply (s.carousel x.carousel))) := by
  unfold doCarouselConfig
  dsimp only
  rw [h]

theorem doCarouselConfig_running (h : x.moves (s.carousel x.carousel) = some g)
    (hr : (s.carousel x.carousel).state = .running) : doCarouselConfig x s = .refused .inUse [] := by
  unfold doCarouselConfig
  dsimp only
  rw [h]
  exact if_pos hr

theorem doCarouselConfig_refused (h : x.moves (s.carousel x.carousel) = some g)
    (hr : (s.carousel x.carousel).state ≠ .running) {why : RegRefusal}
    (ht : (s.region g).testAll ownNone (packetRegistrations x.carousel (s.carousel x.carousel).live) = some why) :
    doCarouselConfig x s = .refused why.result (why.refs g) := by
  unfold doCarouselConfig
  dsimp only
  rw [h]
  dsimp only
  rw [if_neg hr, ht]

/-- A carousel that does not run moves to a region that takes its live list's registrations. -/
theorem doCarouselConfig_moved (h : x.moves (s.carousel x.carousel) = some g)
    (hr : (s.carousel x.carousel).state ≠ .running)
    (ht : (s.region g).testAll ownNone (packetRegistrations x.carousel (s.carousel x.carousel).live) = none) :
    doCarouselConfig x s =
      .ok (eCarouselSettings (x.apply (s.carousel x.carousel)))
        ((moveRegistrations x.carousel (s.carousel x.carousel) g s).setCarousel x.carousel
          (x.apply (s.carousel x.carousel))) := by
  unfold doCarouselConfig
  dsimp only
  rw [h]
  dsimp only
  rw [if_neg hr, ht]

theorem registerLive_only (k : CarouselId) (l : List Packet) (o : Option RegionId) (s : State) :
    registerLive k l o s = { s with regions := (registerLive k l o s).regions } := by
  unfold registerLive
  split <;> rfl

/-- A carousel's registrations in its region are given up, and no others anywhere (R165, R174). -/
theorem registerLive_nil_region (k : CarouselId) (o : Option RegionId) (s : State) (h : RegionId) :
    (registerLive k [] o s).region h =
      if o = some h then (s.region h).without fun e => decide (e.definer = .carousel k) else s.region h := by
  cases o with
  | none => exact (if_neg (by simp)).symm
  | some g =>
    have hnone : (s.region g).rewrite (ownCarousel k) (packetRegistrations k []) =
        (s.region g).without fun e => decide (e.definer = .carousel k) := Region.rewrite_nil _ _
    rw [registerLive, hnone, State.setRegion_region]
    by_cases hg : g = h
    · rw [if_pos hg, if_pos (congrArg some hg), hg]
    · rw [if_neg hg, if_neg fun e => hg (Option.some.inj e)]

theorem moveRegistrations_only (k : CarouselId) (c : Carousel) (g : RegionId) (s : State) :
    moveRegistrations k c g s = { s with regions := (moveRegistrations k c g s).regions } := by
  unfold moveRegistrations
  dsimp only
  rw [registerLive_only]
  rfl

/-- The new region holds what the live list asks for beside what it held. -/
theorem moveRegistrations_region_new (h : c.region ≠ some g) :
    (moveRegistrations k c g s).region g = (s.region g).rewrite ownNone (packetRegistrations k c.live) := by
  unfold moveRegistrations
  rw [registerLive_nil_region, if_neg h]
  exact State.setRegion_region_self s g _

/-- The old region gives up the carousel's registrations, and every other stays as it was. -/
theorem moveRegistrations_region_ne {h : RegionId} (hne : h ≠ g) :
    (moveRegistrations k c g s).region h =
      if c.region = some h then (s.region h).without fun e => decide (e.definer = .carousel k) else s.region h := by
  unfold moveRegistrations
  rw [registerLive_nil_region, State.setRegion_region_ne _ _ _ _ hne.symm]

/-! ## The body of CAROUSEL_APPEND (R166, R200) -/

/-- A list does not read where one of its entries does not, and each of them reads alone or not at all. -/
theorem rMany_flatMap_none {α : Type} {r : Reader α} {w : α → List Byte} {l : List α} (rest : List Byte)
    (hread : ∀ a ∈ l, ∀ b, r (w a ++ b) = some (a, b) ∨ r (w a ++ b) = none) (hbad : ∃ a ∈ l, ∀ b, r (w a ++ b) = none) :
    rMany r l.length (l.flatMap w ++ rest) = none := by
  induction l with
  | nil => simp at hbad
  | cons a l ih =>
    rw [List.flatMap_cons, List.append_assoc, List.length_cons, rMany]
    rcases hread a (by simp) (l.flatMap w ++ rest) with ha | ha
    · have hlater : ∃ a ∈ l, ∀ b, r (w a ++ b) = none := by
        obtain ⟨y, hy, hnone⟩ := hbad
        rcases List.mem_cons.1 hy with rfl | hy
        · exact absurd (ha.symm.trans (hnone _)) (by simp)
        · exact ⟨y, hy, hnone⟩
      simp only [ha, ih (fun y hy => hread y (by simp [hy])) hlater, Option.map_none]
    · simp only [ha]

theorem rList_eList_none {α : Type} {most : Nat} {r : Reader α} {w : α → List Byte} {l : List α} (rest : List Byte)
    (hm : l.length ≤ most) (h256 : l.length < 256)
    (hread : ∀ a ∈ l, ∀ b, r (w a ++ b) = some (a, b) ∨ r (w a ++ b) = none) (hbad : ∃ a ∈ l, ∀ b, r (w a ++ b) = none) :
    rList most r (eList w l ++ rest) = none := by
  have hl : l.length % 256 = l.length := Nat.mod_eq_of_lt h256
  simp [rList, eList, e1_eq, hl, hm, rMany_flatMap_none rest hread hbad]

/-- A packet of 188 bytes reads where it may be loaded, and does not where it may not (R166). -/
theorem rPacket_loadable {p : Packet} (hp : p.length = 188) (rest : List Byte) :
    rWhen rPacket loadable (p ++ rest) = if loadable p then some (p, rest) else none := by
  have htake : rPacket (p ++ rest) = some (p, rest) := by
    unfold rPacket
    rw [if_neg (by simp [hp]), List.take_left' hp, List.drop_left' hp]
  unfold rWhen
  rw [htake]

theorem loadable_iff {p : Packet} : loadable p = true ↔ byteAt p 0 = 0x47 ∧ ident p ≠ 8191 := by
  rw [loadable, Bool.and_eq_true, decide_eq_true_eq, decide_eq_true_eq]
  rfl

/-- The body of a CAROUSEL_APPEND. -/
def carouselAppendBody (x : CarouselAppend) : List Byte :=
  e1 x.carousel ++ eFlag x.newList ++ eList (fun p : Packet => p) x.packets

theorem readAll_carouselAppend {x : CarouselAppend} (hlen : x.packets.length ≤ 8) (hwf : ∀ p ∈ x.packets, p.length = 188)
    (hload : ∀ p ∈ x.packets, loadable p = true) : readAll rCarouselAppend (carouselAppendBody x) = some x := by
  have hlist := rList_eList 8 (rWhen rPacket loadable) (fun p : Packet => p) x.packets [] hlen (by omega) fun p hp b => by
    rw [rPacket_loadable (hwf p hp), if_pos (hload p hp)]
  rw [List.append_nil] at hlist
  refine readAll_some _ _ _ ?_
  simp only [rCarouselAppend, carouselAppendBody, List.append_assoc]
  rw [rThen_some _ _ _ _ _ _ _ (rIndex_e1 x.carousel (by decide) _)
    (rThen_some _ _ _ _ _ _ _ (rFlag_eFlag x.newList _) hlist)]
  rfl

/-- A CAROUSEL_APPEND whose list does not read does not read. -/
theorem readAll_carouselAppend_none {x : CarouselAppend}
    (h : rList 8 (rWhen rPacket loadable) (eList (fun p : Packet => p) x.packets ++ []) = none) :
    readAll rCarouselAppend (carouselAppendBody x) = none := by
  rw [List.append_nil] at h
  refine readAll_none ?_
  simp only [rCarouselAppend, carouselAppendBody, List.append_assoc]
  rw [rThen_none (rIndex_e1 x.carousel (by decide) _) (rThen_none (rFlag_eFlag x.newList _) h)]
  rfl

theorem readAll_carouselAppend_unloadable {x : CarouselAppend} (hlen : x.packets.length ≤ 8)
    (hwf : ∀ p ∈ x.packets, p.length = 188) (hbad : ∃ p ∈ x.packets, loadable p = false) :
    readAll rCarouselAppend (carouselAppendBody x) = none := by
  refine readAll_carouselAppend_none (rList_eList_none [] hlen (by omega) (fun p hp b => ?_) ?_)
  · rw [rPacket_loadable (hwf p hp)]
    cases loadable p
    · exact .inr rfl
    · exact .inl rfl
  · obtain ⟨p, hp, hload⟩ := hbad
    exact ⟨p, hp, fun b => by rw [rPacket_loadable (hwf p hp), hload]; rfl⟩

/-! ## CAROUSEL_APPEND (R164, R166) -/

section Append

variable {x : CarouselAppend} (hc : s.carousel x.carousel = c)

include hc

theorem doCarouselAppend_pending (hswap : c.swapPending = true) : doCarouselAppend x s = .refused .inUse [] := by
  subst hc
  exact if_pos hswap

theorem doCarouselAppend_full (hswap : c.swapPending = false)
    (hfull : 64 < (x.kept c).length + x.packets.length ∨
      s.carouselFree + (c.building.length - (x.kept c).length) < x.packets.length) :
    doCarouselAppend x s = .refused .full [] := by
  subst hc
  unfold doCarouselAppend
  dsimp only
  rw [if_neg (by simp [hswap]), if_pos (by simpa [Config.listCap] using hfull)]

theorem doCarouselAppend_ok (hswap : c.swapPending = false) (hlen : (x.kept c).length + x.packets.length ≤ 64)
    (hfree : x.packets.length ≤ s.carouselFree + (c.building.length - (x.kept c).length)) :
    doCarouselAppend x s =
      .ok (e2 ((x.kept c).length + x.packets.length) ++
          e2 (s.setCarousel x.carousel { c with building := x.kept c ++ x.packets }).carouselFree)
        (s.setCarousel x.carousel { c with building := x.kept c ++ x.packets }) := by
  subst hc
  unfold doCarouselAppend
  dsimp only
  rw [if_neg (by simp [hswap]), if_neg (by simp [Config.listCap, hlen, hfree]), List.length_append]

end Append

/-- Settles O50: CAROUSEL_CONFIG by whether the region changes and the registration test of the new one, CAROUSEL_APPEND by
what its body reads as and then by the checks in their order. -/
theorem carouselConfigAndAppend : Obligations.CarouselConfigAndAppend := by
  refine ⟨?config, ?append⟩
  case config =>
    rintro k region interval mode c new body reply s hc hi rfl hnew rfl rfl
    have hread := readAll_carouselConfig
      (x := { carousel := k, region := region, interval := interval, mode := mode }) hi
    obtain rfl := hnew.trans (CarouselConfig.apply_eq
      { carousel := k, region := region, interval := interval, mode := mode } (s.carousel k)).symm
    refine ⟨fun hregion => answers_of_serve (fun _ => rfl) hc (.inl rfl) hread
      (doCarouselConfig_stays (CarouselConfig.moves_none hregion)), ?_⟩
    rintro g rfl hne
    have hmoves := CarouselConfig.moves_some
      (x := { carousel := k, region := some g, interval := interval, mode := mode }) rfl hne
    refine ⟨fun hr => refuses_of_serve (fun _ => rfl) hc (.inl rfl) hread (doCarouselConfig_running hmoves hr), fun hr =>
      ⟨fun pre y post e hl hpre he hd => ?_, fun hnew hfull => ?_, fun hroom hfree => ⟨_,
        answers_of_serve (fun _ => rfl) hc (.inl rfl) hread
          (doCarouselConfig_moved hmoves hr (testAll_packets_none hfree hroom)), ?_, ?_, fun h hh => ?_⟩⟩⟩
    · exact refuses_of_serve (fun _ => rfl) hc (.inl rfl) hread
        (doCarouselConfig_refused hmoves hr (testAll_conflict_first hl hpre he hd))
    · exact refuses_of_serve (fun _ => rfl) hc (.inl rfl) hread
        (doCarouselConfig_refused hmoves hr (testAll_packets_full hnew hfull))
    · rw [moveRegistrations_only]
      rfl
    · rw [State.setCarousel_region_of, moveRegistrations_region_new hne]
      exact Region.rewrite_none_registers k _ _
    · rw [State.setCarousel_region_of, moveRegistrations_region_ne hh]
  case append =>
    rintro k fresh ps kept c body free s hc rfl hwf rfl rfl rfl
    refine ⟨fun hmore h256 => ?_, fun hlen => ⟨fun ⟨p, hp, hbad⟩ => ?_, fun hload => ?_⟩⟩
    · exact refuses_badField_of_serve (fun _ => rfl) hc (.inl rfl)
        (readAll_carouselAppend_none (x := { carousel := k, newList := fresh, packets := ps })
          (rList_eList_long _ _ ps [] hmore h256))
    · refine refuses_badField_of_serve (fun _ => rfl) hc (.inl rfl)
        (readAll_carouselAppend_unloadable (x := { carousel := k, newList := fresh, packets := ps }) hlen hwf ⟨p, hp, ?_⟩)
      rw [Bool.eq_false_iff, ne_eq, loadable_iff, not_and_or, not_not]
      exact hbad
    · have hread := readAll_carouselAppend (x := { carousel := k, newList := fresh, packets := ps }) hlen hwf
        fun p hp => loadable_iff.2 (hload p hp)
      exact ⟨fun hswap => refuses_of_serve (fun _ => rfl) hc (.inl rfl) hread (doCarouselAppend_pending rfl hswap),
        fun hswap hfull => refuses_of_serve (fun _ => rfl) hc (.inl rfl) hread (doCarouselAppend_full rfl hswap hfull),
        fun hswap hfit hfree => ⟨_, rfl,
          answers_of_serve (fun _ => rfl) hc (.inl rfl) hread (doCarouselAppend_ok rfl hswap hfit hfree)⟩⟩

end Sys2Proof.Machine
end

section
/-!
PROOFS. CAROUSEL_SWAP: its refusals in order, the identifiers that it tells as new, and the swap taken at once or left to wait
(R167, R168).
-/
namespace Sys2Proof.Machine

variable {s : State} {k : CarouselId} {g : RegionId}

/-! ## A swap that takes effect (R168) -/

theorem State.setCarousel_setCarousel (s : State) (k : CarouselId) (x y : Carousel) :
    (s.setCarousel k x).setCarousel k y = s.setCarousel k y := by
  simp [State.setCarousel]

/-- A swap that takes effect in a region: the lists, and the registrations of the carousel in that region. -/
theorem swapEffect_eq (hk : (s.carousel k).region = some g) :
    swapEffect k s =
      (s.setCarousel k (s.carousel k).swapped).setRegion g
        ((s.region g).rewrite (ownCarousel k) (packetRegistrations k (s.carousel k).building)) := by
  unfold swapEffect
  dsimp only [Carousel.swapped]
  rw [hk]
  rfl

theorem settleSwap_pending (hk : (s.carousel k).region = some g) (h : (s.carousel k).swapPending = true) :
    settleSwap k s =
      (s.setCarousel k (s.carousel k).settled).setRegion g
        ((s.region g).rewrite (ownCarousel k) (packetRegistrations k (s.carousel k).building)) := by
  have hsettled : (s.carousel k).settled = (s.carousel k).swapped := if_pos h
  rw [hsettled, ← swapEffect_eq hk]
  exact if_pos h

theorem Carousel.swapped_eq {c : Carousel} (h : c.swapPending = false) :
    c.swapped = { c with live := c.building, building := [] } := by
  cases c
  cases h
  rfl

theorem takeSwap_waits (h : (s.carousel k).cursor ≠ none) :
    takeSwap k s = s.setCarousel k { s.carousel k with swapPending := true } := by
  obtain ⟨i, hi⟩ := Option.ne_none_iff_exists'.1 h
  unfold takeSwap
  rw [hi]

theorem takeSwap_now (hk : (s.carousel k).region = some g) (h : (s.carousel k).cursor = none) :
    takeSwap k s =
      (s.setCarousel k (s.carousel k).swapped).setRegion g
        ((s.region g).rewrite (ownCarousel k) (packetRegistrations k (s.carousel k).building)) := by
  rw [← swapEffect_eq hk]
  unfold takeSwap
  rw [h]

/-! ## The reply (R167) -/

/-- The bytes of the registrations that a region does not hold are those of the identifiers that are new there. -/
theorem eList_missing (k : CarouselId) (l : List Packet) (r : Region) :
    eList (fun x : Registration => e2 x.1.toNat) (r.missing (packetRegistrations k l)) =
      eList (fun i : Ident => e2 i.toNat) ((distinctIdents l).filter fun i => r.registry.all fun e => e.ident != i) := by
  have hlookup : ∀ i : Ident, (r.lookup i).isNone = r.registry.all fun e => e.ident != i := fun i => by
    rw [Bool.eq_iff_iff, Option.isNone_iff_eq_none, Region.lookup_none]
    simp
  have hmissing : r.missing (packetRegistrations k l) =
      ((distinctIdents l).filter fun i => r.registry.all fun e => e.ident != i).map fun i => (i, Definer.carousel k) := by
    unfold Region.missing packetRegistrations
    rw [List.filter_map]
    simp only [Function.comp_def, hlookup]
  rw [hmissing, eList, eList, List.length_map, List.flatMap_map]

/-! ## CAROUSEL_SWAP (R167) -/

theorem readAll_carousel (k : CarouselId) : readAll (rIndex 32) (e1 k) = some k :=
  readAll_some _ _ _ (by simpa using rIndex_e1 k (by decide) [])

theorem doCarouselSwap_noRegion (h : (s.carousel k).region = none) : doCarouselSwap k s = .refused .badField [] := by
  unfold doCarouselSwap
  dsimp only
  rw [h]

section Region

variable (hk : (s.carousel k).region = some g)

include hk

theorem doCarouselSwap_pending (h : (s.carousel k).swapPending = true) : doCarouselSwap k s = .refused .inUse [] := by
  unfold doCarouselSwap
  dsimp only
  rw [hk]
  exact if_pos h

variable (hswap : (s.carousel k).swapPending = false)

include hswap

theorem doCarouselSwap_empty (h : (s.carousel k).building = []) : doCarouselSwap k s = .refused .empty [] := by
  unfold doCarouselSwap
  dsimp only
  rw [hk, hswap, h]
  rfl

variable (hb : (s.carousel k).building ≠ [])

include hb

theorem doCarouselSwap_refused {why : RegRefusal}
    (ht : (s.region g).testAll ownNone (packetRegistrations k (s.carousel k).building) = some why) :
    doCarouselSwap k s = .refused why.result (why.refs g) := by
  unfold doCarouselSwap
  dsimp only
  rw [hk, hswap, List.isEmpty_eq_false_iff.2 hb]
  dsimp only
  rw [ht]
  rfl

/-- A building list that the region takes: its identifiers are registered and its swap is taken. -/
theorem doCarouselSwap_ok
    (ht : (s.region g).testAll ownNone (packetRegistrations k (s.carousel k).building) = none) :
    doCarouselSwap k s =
      .ok (eFlag (s.carousel k).cursor.isNone ++ eList (fun x : Registration => e2 x.1.toNat)
          ((s.region g).missing (packetRegistrations k (s.carousel k).building)))
        (takeSwap k (s.setRegion g
          ((s.region g).rewrite ownNone (packetRegistrations k (s.carousel k).building)))) := by
  unfold doCarouselSwap
  dsimp only
  rw [hk, hswap, List.isEmpty_eq_false_iff.2 hb]
  dsimp only
  rw [ht]
  rfl

end Region

/-- Settles O51: the checks in their order, and then the registrations and the swap, by whether a cycle is in progress. -/
theorem carouselSwapTakesTheBuildingList : Obligations.CarouselSwapTakesTheBuildingList := by
  rintro k c s hc rfl
  have hread := readAll_carousel k
  refine ⟨fun hk => refuses_of_serve (fun _ => rfl) hc (.inl rfl) hread (doCarouselSwap_noRegion hk), fun g hk =>
    ⟨fun hswap => refuses_of_serve (fun _ => rfl) hc (.inl rfl) hread (doCarouselSwap_pending hk hswap),
      fun hswap hb => refuses_of_serve (fun _ => rfl) hc (.inl rfl) hread (doCarouselSwap_empty hk hswap hb),
      fun hswap hb => ⟨fun pre x post e hl hpre he hd => ?_, fun hnew hfull => ?_, fun hroom hfree added hadded => ?_⟩⟩⟩
  · exact refuses_of_serve (fun _ => rfl) hc (.inl rfl) hread
      (doCarouselSwap_refused hk hswap hb (testAll_conflict_first hl hpre he hd))
  · exact refuses_of_serve (fun _ => rfl) hc (.inl rfl) hread
      (doCarouselSwap_refused hk hswap hb (testAll_packets_full hnew hfull))
  · have hok := doCarouselSwap_ok hk hswap hb (testAll_packets_none hfree hroom)
    rw [eList_missing, ← hadded] at hok
    refine ⟨fun hcursor => ?now, fun hcursor => ?waits⟩
    case now =>
      rw [takeSwap_now (s := s.setRegion g _) hk hcursor, hcursor] at hok
      refine ⟨_, answers_of_serve (fun _ => rfl) hc (.inl rfl) hread hok, ?_, ?_, fun h hh => ?_⟩
      · rw [← Carousel.swapped_eq hswap]
        rfl
      · rw [State.setRegion_region_self, State.setRegion_region_self]
        exact (Region.rewrite_none_registers k _ _).then_own (Region.rewrite_own_registers k _ _)
      · rw [State.setRegion_region_ne _ _ _ _ hh.symm]
        exact State.setRegion_region_ne _ _ _ _ hh.symm
    case waits =>
      have hflag : eFlag (s.carousel k).cursor.isNone = [0] := by
        rw [Option.isNone_eq_false_iff.2 (Option.isSome_iff_ne_none.2 hcursor)]
        rfl
      rw [takeSwap_waits (s := s.setRegion g _) hcursor, hflag] at hok
      refine ⟨_, answers_of_serve (fun _ => rfl) hc (.inl rfl) hread hok, rfl, ?_, fun h hh =>
        State.setRegion_region_ne _ _ _ _ hh.symm⟩
      rw [State.setCarousel_region_of, State.setRegion_region_self]
      exact Region.rewrite_none_registers k _ _

end Sys2Proof.Machine
end

section
/-!
PROOFS. CAROUSEL_START, CAROUSEL_STOP, CAROUSEL_CLEAR and CAROUSEL_READ (R168 to R170, R173, R174, R177).
-/
namespace Sys2Proof.Machine

variable {s : State} {k : CarouselId} {g : RegionId}

/-! ## CAROUSEL_START (R169, R170) -/

theorem doCarouselStart_noRegion (h : (s.carousel k).region = none) : doCarouselStart k s = .refused .badField [] := by
  unfold doCarouselStart
  dsimp only
  rw [h]

section Region

variable (hk : (s.carousel k).region = some g)

include hk

theorem doCarouselStart_empty (h : (s.carousel k).live = []) : doCarouselStart k s = .refused .empty [] := by
  unfold doCarouselStart
  dsimp only
  rw [hk, h]
  rfl

variable (hlive : (s.carousel k).live ≠ [])

include hlive

theorem doCarouselStart_running (h : (s.carousel k).state = .running) : doCarouselStart k s = .ok [1, 0] s := by
  unfold doCarouselStart
  dsimp only
  rw [hk, List.isEmpty_eq_false_iff.2 hlive]
  exact if_pos h

theorem doCarouselStart_starts (h : (s.carousel k).state ≠ .running) :
    doCarouselStart k s =
      .ok (e1 CarState.running.code ++ eOpt eClock ((startCarousel k s).carousel k).cycleStart) (startCarousel k s) := by
  unfold doCarouselStart
  dsimp only
  rw [hk, List.isEmpty_eq_false_iff.2 hlive]
  exact if_neg h

omit hlive

/-- Without slots no cycle begins, and the cycle start becomes absent (log entry 28). -/
theorem startCarousel_stopped (h : (s.region g).clk = none) :
    startCarousel k s = s.setCarousel k { s.carousel k with state := .running, cycleStart := none } := by
  have hrun : ¬ s.regionRunning (s.carousel k).region = true := by
    rw [hk, State.regionRunning, h]
    decide
  exact congrArg (s.setCarousel k) (if_neg hrun)

theorem startCarousel_cycling (h : (s.region g).clk ≠ none) :
    startCarousel k s = s.setCarousel k { (s.carousel k).cycling s.clock with state := .running } := by
  have hrun : s.regionRunning (s.carousel k).region = true := by
    rw [hk]
    exact Option.isSome_iff_ne_none.2 h
  exact congrArg (s.setCarousel k) (if_pos hrun)

end Region

/-! ## CAROUSEL_STOP (R168, R173) -/

theorem doCarouselStop_idle (h : (s.carousel k).state = .idle) :
    doCarouselStop k s = .ok (e1 0 ++ e2 (s.carousel k).stillDue) s := by
  unfold doCarouselStop
  dsimp only
  rw [h]
  rfl

theorem doCarouselStop_stops (h : (s.carousel k).state ≠ .idle) :
    doCarouselStop k s =
      .ok (e1 (s.carousel k).state.code ++ e2 (s.carousel k).stillDue) (stopCarousel k s) := by
  unfold doCarouselStop
  dsimp only
  rw [if_neg h]

/-- A stop settles the swap of a carousel that is IDLE with its cycle at an end. -/
theorem stopCarousel_eq (k : CarouselId) (s : State) :
    stopCarousel k s =
      settleSwap k (s.setCarousel k { s.carousel k with state := .idle, cursor := none, interval := none }) := by
  unfold stopCarousel endCycle
  rw [State.setCarousel_carousel_self, State.setCarousel_setCarousel]

theorem stopCarousel_noSwap (h : (s.carousel k).swapPending = false) :
    stopCarousel k s = s.setCarousel k { s.carousel k with state := .idle, cursor := none, interval := none } := by
  rw [stopCarousel_eq, settleSwap_noSwap]
  rw [State.setCarousel_carousel_self]
  exact h

theorem stopCarousel_swap (hk : (s.carousel k).region = some g) (h : (s.carousel k).swapPending = true) :
    stopCarousel k s =
      (s.setCarousel k { (s.carousel k).settled with state := .idle, cursor := none, interval := none }).setRegion g
        ((s.region g).rewrite (ownCarousel k) (packetRegistrations k (s.carousel k).building)) := by
  have hsettled : ({ s.carousel k with state := .idle, cursor := none, interval := none } : Carousel).settled =
      { (s.carousel k).settled with state := .idle, cursor := none, interval := none } := by
    unfold Carousel.settled
    split <;> rfl
  rw [stopCarousel_eq, settleSwap_pending (g := g), State.setCarousel_carousel_self, hsettled,
    State.setCarousel_setCarousel]
  · rfl
  · rw [State.setCarousel_carousel_self]
    exact hk
  · rw [State.setCarousel_carousel_self]
    exact h

/-! ## CAROUSEL_CLEAR and CAROUSEL_READ (R174, R177) -/

theorem doCarouselClear_running (h : (s.carousel k).state = .running) : doCarouselClear k s = .refused .inUse [] :=
  if_pos h

theorem doCarouselClear_clears (h : (s.carousel k).state ≠ .running) :
    doCarouselClear k s =
      .ok (e2 ((s.carousel k).live.length + (s.carousel k).building.length)) (clearCarousel k s) := if_neg h

/-- The model's bytes of an interval deadline are those of the rules. -/
theorem eInterval_eq (now : Clock) (x : Option (Deadline × Bool)) :
    eInterval now x =
      match x with
      | none => [0]
      | some (d, false) => [1] ++ e6 (d.len - (now - d.set).toNat)
      | some (_, true) => [2] := by
  rcases x with _ | ⟨d, _ | _⟩ <;> rfl

/-- The model's bytes of the cursor and of the packets still due are those of the rules. -/
theorem eCursor_eq (c : Carousel) :
    eOpt (fun i => e1 i ++ e2 c.stillDue) c.cursor = eOpt (fun i => e1 i ++ e2 (c.live.length - i)) c.cursor := by
  unfold Carousel.stillDue
  cases c.cursor <;> rfl

/-- Settles O52: each request by the case of its rule that the carousel's record meets. -/
theorem carouselRequestsStartStopClearAndRead : Obligations.CarouselRequestsStartStopClearAndRead := by
  rintro k c s rfl
  have hread := readAll_carousel k
  refine ⟨fun hc => ⟨?noRegion, fun g hk => ⟨?empty, fun hlive => ⟨?running, ?stopped, ?cycling⟩⟩, ?stopIdle, ?stop,
    ?stopSwap, ?clearRunning, ?clear⟩, fun l hc => ?read⟩
  case noRegion =>
    exact fun hk => refuses_of_serve (fun _ => rfl) hc (.inl rfl) hread (doCarouselStart_noRegion hk)
  case empty =>
    exact fun hnil => refuses_of_serve (fun _ => rfl) hc (.inl rfl) hread (doCarouselStart_empty hk hnil)
  case running =>
    exact fun hr => answers_of_serve (fun _ => rfl) hc (.inl rfl) hread (doCarouselStart_running hk hlive hr)
  case stopped =>
    intro hr hclk
    have hstart := doCarouselStart_starts hk hlive hr
    rw [startCarousel_stopped hk hclk, State.setCarousel_carousel_self] at hstart
    exact answers_of_serve (fun _ => rfl) hc (.inl rfl) hread hstart
  case cycling =>
    intro hr hclk
    have hstart := doCarouselStart_starts hk hlive hr
    rw [startCarousel_cycling hk hclk, State.setCarousel_carousel_self] at hstart
    exact answers_of_serve (fun _ => rfl) hc (.inl rfl) hread hstart
  case stopIdle => exact fun hi => answers_of_serve (fun _ => rfl) hc (.inl rfl) hread (doCarouselStop_idle hi)
  case stop =>
    intro hi hswap
    have hstop := doCarouselStop_stops hi
    rw [stopCarousel_noSwap hswap] at hstop
    exact answers_of_serve (fun _ => rfl) hc (.inl rfl) hread hstop
  case stopSwap =>
    intro g hi hswap hk
    have hstop := doCarouselStop_stops hi
    rw [stopCarousel_swap hk hswap] at hstop
    refine ⟨_, answers_of_serve (fun _ => rfl) hc (.inl rfl) hread hstop, rfl, ?_, fun h hh =>
      State.setRegion_region_ne _ _ _ _ hh.symm⟩
    rw [State.setRegion_region_self]
    exact Region.rewrite_own_registers k _ _
  case clearRunning =>
    exact fun hr => refuses_of_serve (fun _ => rfl) hc (.inl rfl) hread (doCarouselClear_running hr)
  case clear =>
    exact fun hr => ⟨_, answers_of_serve (fun _ => rfl) hc (.inl rfl) hread (doCarouselClear_clears hr),
      registerLive_only _ _ _ _, fun g => registerLive_nil_region _ _ _ _⟩
  case read =>
    have hanswer : doCarouselRead k s = .ok _ s := rfl
    rw [eInterval_eq, eCursor_eq] at hanswer
    exact answers_of_serve (fun _ => rfl) hc (.inr rfl) hread hanswer

end Sys2Proof.Machine
end

section
/-!
PROOFS. The cycle of a carousel at a slot instant: the cursor, the finish by mode and the registrations that a pending swap
gives up; and the interval deadline (R168, R170 to R172).
-/
namespace Sys2Proof.Machine

variable {s t : State} {g : RegionId} {k : CarouselId} {r : Region} {c : Carousel} {d : Deadline} {x : SlotClock}
  {p : Packet} {i : Nat} {now : Clock}

/-! ## What an instant leaves of the registrations and of the drain records of its region -/

theorem Region.oweAll_definers (r : Region) (es : List QEntry) : (r.oweAll es).definers = r.definers := by
  unfold Region.definers
  rw [Region.oweAll_registry, List.map_map]
  rfl

theorem Region.readied_definers (r : Region) (now : Clock) : (r.readied now).definers = r.definers := by
  unfold Region.readied
  rw [Region.dropLate_eq, Region.rebase_eq]
  exact Region.oweAll_definers _ _

theorem Region.note_definers (r : Region) (i : Ident) (last : Continuity) (paid : Bool) :
    (r.note i last paid).definers = r.definers := by
  unfold Region.note
  split
  · exact map_rewritten (u := fun e : RegEntry => { e with last := last, owed := e.owed && !paid }) (fun _ => rfl)
      (fun e => e.ident = i) _
  · rfl

theorem Region.begunCarousel_definers (r : Region) (k : CarouselId) (p : Packet) :
    (r.begunCarousel k p).definers = r.definers := r.note_definers _ _ _

/-- Every drain record of a region is one of an identifier that a queued entry carries (R158). -/
def Region.drainsQueued (r : Region) : Prop := ∀ d ∈ r.drains, r.queued d.ident = true

theorem Region.readied_drainsQueued (r : Region) (now : Clock) : (r.readied now).drainsQueued := by
  unfold Region.readied
  rw [Region.dropLate_eq]
  exact fun d hd => (List.mem_filter.1 hd).2

theorem Region.note_drainsQueued (h : r.drainsQueued) (i : Ident) (last : Continuity) (paid : Bool) :
    (r.note i last paid).drainsQueued := by
  unfold Region.note
  split
  · exact h
  · intro d hd
    obtain ⟨d', hd', rfl⟩ := List.mem_map.1 hd
    have hident : (if d'.ident = i then { d' with last := last, owed := d'.owed && !paid } else d').ident = d'.ident := by
      split <;> rfl
    rw [hident]
    exact h d' hd'

theorem Region.begunCarousel_drainsQueued (h : r.drainsQueued) (k : CarouselId) (p : Packet) :
    (r.begunCarousel k p).drainsQueued := Region.note_drainsQueued h _ _ _

/-! ## A swap whose building list is registered (R168) -/

/-- Whether a registration is one that a pending swap gives up. -/
def goneBySwap (k : CarouselId) (c : Carousel) (e : RegEntry) : Bool := !keptBySwap k c (e.ident, e.definer)

/-- With the building list registered, a swap gives up registrations and makes none. -/
theorem Region.rewrite_building (h : r.holdsBuilding k c) :
    r.rewrite (ownCarousel k) (packetRegistrations k c.building) = r.giveUp (goneBySwap k c) := by
  have hgone : (fun e => ownCarousel k e && !e.among (packetRegistrations k c.building)) = goneBySwap k c := by
    funext e
    rw [goneBySwap, keptBySwap_eq, Bool.not_not]
  unfold Region.rewrite
  rw [hgone]
  refine foldl_register_held fun y hy hnone => ?_
  obtain ⟨-, p, hp, hid⟩ := (mem_packetRegistrations k _).1 hy
  obtain ⟨e, hmem, heq⟩ := List.mem_map.1 (h p hp)
  obtain ⟨hident, hdef⟩ := Prod.mk.inj heq
  have hkept : goneBySwap k c e = false := by
    rw [goneBySwap, keptBySwap, hident, List.any_eq_true.2 ⟨p, hp, decide_eq_true rfl⟩, Bool.or_true]
    rfl
  exact (Region.lookup_none _ _).1 hnone e ((mem_giveUp _ r).2 ⟨hmem, hkept⟩) (hident.trans hid)

theorem Region.giveUp_definers (r : Region) (k : CarouselId) (c : Carousel) :
    (r.giveUp (goneBySwap k c)).definers = r.definers.filter (keptBySwap k c) := by
  simp only [Region.definers, Region.giveUp, goneBySwap, Bool.not_not, List.filter_map, Function.comp_def]

/-- A registration that is given up stays as a drain record exactly while a queued entry carries its identifier. -/
theorem Region.giveUp_drains (h : r.drainsQueued) {y : Ident × Definer} (hy : y ∈ r.definers)
    (hgone : keptBySwap k c y = false) :
    (∃ d ∈ (r.giveUp (goneBySwap k c)).drains, d.ident = y.1) ↔ ∃ q ∈ r.mainQ ++ r.expQ, q.out = y.1 := by
  have hqueued : ∀ j, r.queued j = true ↔ ∃ q ∈ r.mainQ ++ r.expQ, q.out = j := fun j => by
    simp only [Region.queued, List.any_eq_true, beq_iff_eq]
  rw [← hqueued]
  constructor
  · rintro ⟨d, hd, hid⟩
    rw [← hid]
    rcases List.mem_append.1 hd with hd | hd
    · exact h d hd
    · obtain ⟨e, he, rfl⟩ := List.mem_map.1 hd
      exact (Bool.and_eq_true_iff.1 (List.mem_filter.1 he).2).2
  · intro hq
    obtain ⟨e, he, rfl⟩ := List.mem_map.1 hy
    refine ⟨_, List.mem_append_right _ (List.mem_map_of_mem (List.mem_filter.2 ⟨he, ?_⟩)), rfl⟩
    rw [goneBySwap, hgone, hq]
    rfl

/-! ## The finish of a cycle (R168, R171, R172) -/

theorem Carousel.settled_closed (c : Carousel) :
    ({ c with cursor := none } : Carousel).settled = { c.settled with cursor := none } := by
  unfold Carousel.settled
  split <;> rfl

theorem Carousel.settled_mode (c : Carousel) : c.settled.mode = c.mode := by
  unfold Carousel.settled
  split <;> rfl

theorem Carousel.settled_interval (c : Carousel) : c.settled.interval = c.interval := by
  unfold Carousel.settled
  split <;> rfl

theorem cycleClosed_carousel (k : CarouselId) (s : State) :
    (cycleClosed k s).carousel k = { (s.carousel k).settled with cursor := none } := by
  unfold cycleClosed
  rw [settleSwap_carousel, if_pos rfl, State.setCarousel_carousel_self, Carousel.settled_closed]

theorem cycleClosed_clock (hk : (s.carousel k).region = some g) : (cycleClosed k s).clock = s.clock :=
  (congrArg State.clock (cycleClosed_cycling hk).1 :)

theorem cycleClosed_region_swap (hk : (s.carousel k).region = some g) (h : (s.carousel k).swapPending = true) :
    (cycleClosed k s).region g =
      (s.region g).rewrite (ownCarousel k) (packetRegistrations k (s.carousel k).building) := by
  unfold cycleClosed
  rw [settleSwap_pending (g := g), State.setCarousel_carousel_self]
  · exact State.setRegion_region_self _ g _
  · rw [State.setCarousel_carousel_self]
    exact hk
  · rw [State.setCarousel_carousel_self]
    exact h

/-- The mode and the mark of a late cycle at the finish are those that stood before it. -/
theorem finishCycle_single (h : (s.carousel k).mode = .single) :
    finishCycle k s = (cycleClosed k s).setCarousel k
      { (s.carousel k).settled with cursor := none, state := .done, interval := none } := by
  have hc := cycleClosed_carousel k s
  unfold cycleClosed at hc ⊢
  unfold finishCycle
  dsimp only
  rw [hc]
  dsimp only
  rw [Carousel.settled_mode, h]

theorem finishCycle_waits (h : (s.carousel k).mode = .continuous) (hi : ∀ d, (s.carousel k).interval ≠ some (d, true)) :
    finishCycle k s = cycleClosed k s := by
  have hc := cycleClosed_carousel k s
  unfold cycleClosed at hc ⊢
  unfold finishCycle
  dsimp only
  rw [hc]
  dsimp only
  rw [Carousel.settled_mode, Carousel.settled_interval, h]
  dsimp only
  split
  · next d hd => exact absurd hd (hi d)
  all_goals rfl

theorem finishCycle_late (hk : (s.carousel k).region = some g) (h : (s.carousel k).mode = .continuous)
    (hi : (s.carousel k).interval = some (d, true)) :
    finishCycle k s = raiseEvent .carouselLate (.carousel k) ((cycleClosed k s).setCarousel k
      (({ (s.carousel k).settled with cursor := none } : Carousel).cycling s.clock)) := by
  have hc := cycleClosed_carousel k s
  rw [← cycleClosed_clock hk]
  unfold cycleClosed at hc ⊢
  unfold finishCycle
  dsimp only
  rw [hc]
  dsimp only
  rw [Carousel.settled_mode, Carousel.settled_interval, h]
  dsimp only
  rw [hi]
  rfl

theorem finishCycle_regions (k : CarouselId) (s : State) : (finishCycle k s).regions = (cycleClosed k s).regions := by
  rcases finishCycle_cases k s with h | ⟨x, h⟩ | ⟨x, h⟩ <;> rw [h] <;> rfl

/-- The cursor moves on in one carousel alone. -/
theorem advanceCursor_carousel_ne {j : CarouselId} (hj : j ≠ k) : (advanceCursor k s).carousel j = s.carousel j := by
  have hclosed : (cycleClosed k s).carousel j = s.carousel j := by
    unfold cycleClosed
    rw [settleSwap_carousel, if_neg hj.symm, State.setCarousel_carousel_ne _ _ _ _ hj.symm]
  have hset : ∀ (u : State) (x : Carousel), (u.setCarousel k x).carousel j = u.carousel j := fun u x =>
    State.setCarousel_carousel_ne u k x j hj.symm
  cases hi : (s.carousel k).cursor with
  | none => rw [advanceCursor_none hi]
  | some i =>
    by_cases hnext : i + 1 < (s.carousel k).live.length
    · rw [advanceCursor_next hi hnext, hset]
    · rw [advanceCursor_last hi hnext]
      rcases finishCycle_cases k s with h | ⟨x, h⟩ | ⟨x, h⟩ <;> rw [h]
      · exact hclosed
      · rw [hset, hclosed]
      · rw [raiseEvent_carousel_of, hset, hclosed]

/-! ## The interval deadline (R170, R172) -/

/-- A deadline that does not wait to be taken, and one before its moment (log entry 15). -/
theorem intervalReached_waits (h : (s.carousel k).intervalDue s.clock = false) : intervalReached k s = s :=
  if_neg (by simp [h])

theorem Carousel.intervalDue_pending (h : c.interval = some (d, false)) :
    c.intervalDue now = (decide (c.state = .running) && decide (d.len ≤ (now - d.set).toNat)) := by
  unfold Carousel.intervalDue
  rw [h]
  rfl

theorem Carousel.intervalDue_none
    (h : c.state ≠ .running ∨ c.interval = none ∨ ∃ d, c.interval = some (d, true)) : c.intervalDue now = false := by
  unfold Carousel.intervalDue
  rcases h with h | h | ⟨d, h⟩
  · rw [decide_eq_false h, Bool.false_and]
  all_goals rw [h, Bool.and_false]

theorem intervalReached_begins (h : (s.carousel k).intervalDue s.clock = true) (hcursor : (s.carousel k).cursor = none) :
    intervalReached k s = s.setCarousel k ((s.carousel k).cycling s.clock) := by
  unfold intervalReached
  dsimp only
  rw [if_pos h, hcursor]
  rfl

theorem intervalReached_marks (h : (s.carousel k).intervalDue s.clock = true) (hcursor : (s.carousel k).cursor ≠ none) :
    intervalReached k s = s.setCarousel k
      { s.carousel k with interval := (s.carousel k).interval.map fun d => (d.1, true) } := by
  obtain ⟨i, hi⟩ := Option.ne_none_iff_exists'.1 hcursor
  unfold intervalReached
  dsimp only
  rw [if_pos h, hi]

/-! ## A carousel packet begun at a slot instant (R168, R171, R172) -/

section Instant

variable (h : Sends g x s t) (hchoice : (instantReady g s).choose g = .carousel k p)

/-- The state in which the cursor of the carousel that is served moves on. -/
def carouselServed (g : RegionId) (k : CarouselId) (p : Packet) (s : State) : State :=
  (instantReady g s).setRegion g (((s.region g).readied s.clock).begunCarousel k p)

@[simp] theorem carouselServed_carousel (g : RegionId) (k : CarouselId) (p : Packet) (s : State) (j : CarouselId) :
    (carouselServed g k p s).carousel j = s.carousel j := instantReady_carousel g s j

theorem carouselServed_region (g : RegionId) (k : CarouselId) (p : Packet) (s : State) :
    (carouselServed g k p s).region g = ((s.region g).readied s.clock).begunCarousel k p :=
  State.setRegion_region_self _ g _

theorem carouselServed_clock (g : RegionId) (k : CarouselId) (p : Packet) (s : State) :
    (carouselServed g k p s).clock = s.clock :=
  (congrArg State.clock (instantReady_instant g s).1 :)

theorem carouselServed_definers (g : RegionId) (k : CarouselId) (p : Packet) (s : State) :
    ((carouselServed g k p s).region g).definers = (s.region g).definers := by
  rw [carouselServed_region, Region.begunCarousel_definers, Region.readied_definers]

include hchoice in
theorem instantBegun_served : (instantBegun g s).2 = advanceCursor k (carouselServed g k p s) := by
  rw [instantBegun_carousel hchoice]
  rfl

include h hchoice

theorem Sends.carousel_advanced (j : CarouselId) :
    t.carousel j = (advanceCursor k (carouselServed g k p s)).carousel j := by
  rw [← instantBegun_served hchoice]
  unfold State.carousel
  rw [h.carousels]

/-- The registrations, the drain records and the queues of the region are those with which the cursor has moved on. -/
theorem Sends.carousel_region :
    t.region g = { t.region g with
      mainQ := ((advanceCursor k (carouselServed g k p s)).region g).mainQ
      expQ := ((advanceCursor k (carouselServed g k p s)).region g).expQ
      registry := ((advanceCursor k (carouselServed g k p s)).region g).registry
      drains := ((advanceCursor k (carouselServed g k p s)).region g).drains } := by
  rw [h.records, instantBegun_served hchoice]

/-- The carousels that are not served stay as they are. -/
theorem Sends.carousel_others {j : CarouselId} (hj : j ≠ k) : t.carousel j = s.carousel j := by
  rw [h.carousel_advanced hchoice, advanceCursor_carousel_ne hj, carouselServed_carousel]

variable (hi : (s.carousel k).cursor = some i)

include hi

/-- A cycle with packets after this one goes on. -/
theorem Sends.carousel_goesOn (hnext : i + 1 < (s.carousel k).live.length) :
    t.carousel k = { s.carousel k with cursor := some (i + 1) } := by
  rw [h.carousel_advanced hchoice, advanceCursor_next (by simpa using hi) (by simpa using hnext),
    State.setCarousel_carousel_self, carouselServed_carousel]

/-- Where no swap takes effect the registrations keep their definers. -/
theorem Sends.carousel_definers (hswap : i + 1 < (s.carousel k).live.length ∨ (s.carousel k).swapPending = false) :
    (t.region g).definers = (s.region g).definers := by
  have hregions : (advanceCursor k (carouselServed g k p s)).region g = (carouselServed g k p s).region g := by
    unfold State.region
    rw [advanceCursor_regions (i := i)]
    · simpa using hi
    · simpa using hswap.symm
  rw [h.carousel_region hchoice, hregions]
  exact carouselServed_definers g k p s

variable (hlast : i + 1 = (s.carousel k).live.length)

include hlast

omit h hchoice in
theorem advanceCursor_served :
    advanceCursor k (carouselServed g k p s) = finishCycle k (carouselServed g k p s) := by
  exact advanceCursor_last (by simpa using hi) (by simp [hlast])

/-- A swap that takes effect past the last packet, with the building list registered (R158, R168). -/
theorem Sends.carousel_swaps (hk : (s.carousel k).region = some g) (hswap : (s.carousel k).swapPending = true)
    (hheld : (s.region g).holdsBuilding k (s.carousel k)) :
    (t.region g).definers = (s.region g).definers.filter (keptBySwap k (s.carousel k)) ∧
      ∀ y ∈ (s.region g).definers, keptBySwap k (s.carousel k) y = false →
        ((∃ d ∈ (t.region g).drains, d.ident = y.1) ↔
          ∃ q ∈ (t.region g).mainQ ++ (t.region g).expQ, q.out = y.1) := by
  have hdefiners := carouselServed_definers g k p s
  have hdrains : ((carouselServed g k p s).region g).drainsQueued := by
    rw [carouselServed_region]
    exact Region.begunCarousel_drainsQueued (Region.readied_drainsQueued _ _) k p
  have hgone : (advanceCursor k (carouselServed g k p s)).region g =
      ((carouselServed g k p s).region g).giveUp (goneBySwap k (s.carousel k)) := by
    rw [advanceCursor_served hi hlast]
    unfold State.region
    rw [finishCycle_regions]
    refine (cycleClosed_region_swap (by simpa using hk) (by simpa using hswap)).trans ?_
    rw [carouselServed_carousel]
    exact Region.rewrite_building fun q hq => hdefiners ▸ hheld q hq
  rw [h.carousel_region hchoice, hgone, ← hdefiners]
  exact ⟨Region.giveUp_definers _ _ _, fun y hy hkept => Region.giveUp_drains hdrains hy hkept⟩

/-- A SINGLE carousel is DONE (R171). -/
theorem Sends.carousel_done (hm : (s.carousel k).mode = .single) :
    t.carousel k = { (s.carousel k).settled with cursor := none, state := .done, interval := none } := by
  rw [h.carousel_advanced hchoice, advanceCursor_served hi hlast, finishCycle_single (by simpa using hm),
    State.setCarousel_carousel_self, carouselServed_carousel]

/-- A CONTINUOUS one waits for its interval deadline (R171). -/
theorem Sends.carousel_waits (hm : (s.carousel k).mode = .continuous)
    (hmark : ∀ d, (s.carousel k).interval ≠ some (d, true)) :
    t.carousel k = { (s.carousel k).settled with cursor := none } := by
  rw [h.carousel_advanced hchoice, advanceCursor_served hi hlast,
    finishCycle_waits (by simpa using hm) (by simpa using hmark), cycleClosed_carousel,
    carouselServed_carousel]

/-- One whose deadline was reached in the cycle begins the next at once, and reports it (R172). -/
theorem Sends.carousel_late (hk : (s.carousel k).region = some g) (hm : (s.carousel k).mode = .continuous)
    (hmark : (s.carousel k).interval = some (d, true)) :
    t.carousel k = ({ (s.carousel k).settled with cursor := none } : Carousel).cycling s.clock ∧
      t.detected.note = true := by
  have hlate := finishCycle_late (s := carouselServed g k p s) (by simpa using hk) (by simpa using hm)
    (by simpa using hmark)
  rw [carouselServed_carousel, carouselServed_clock] at hlate
  refine ⟨?_, ?_⟩
  · rw [h.carousel_advanced hchoice, advanceCursor_served hi hlast, hlate, raiseEvent_carousel_of,
      State.setCarousel_carousel_self]
  · have hdetected : t.detected = _ := (congrArg State.detected h.only :)
    rw [hdetected, instantBegun_served hchoice, advanceCursor_served hi hlast, hlate]
    exact (raiseEvent_has _ .carouselLate (.carousel k) .note).trans (Bool.or_true _)

end Instant

/-- Settles O53: a packet that a carousel begins moves its cursor on or finishes its cycle by mode, with the swap that waits
for the finish; and the deadline by whether it is reached and whether a cycle is in progress. -/
theorem carouselCyclesRepeat : Obligations.CarouselCyclesRepeat := by
  refine ⟨?instant, ?deadline⟩
  case instant =>
    rintro g k c done i x s t rfl hclk hnow hk hi hlt hturn hfirst rfl hexec
    obtain ⟨u, hu⟩ := exists_sends hclk hnow
    obtain rfl : t = u := Host.Outcome.next.inj (hexec.symm.trans hu.exec)
    have hchoice := instantReady_choose_carousel (mt Region.mainsTurn_readied.1 hturn) hk hi
      (List.getElem?_eq_getElem hlt) hfirst
    exact ⟨fun h hh => hu.carousel_others hchoice hh, hu.carousel_definers hchoice hi,
      fun hlast hswap hheld => hu.carousel_swaps hchoice hi hlast hk hswap hheld, hu.carousel_goesOn hchoice hi,
      fun hlast => ⟨hu.carousel_done hchoice hi hlast, hu.carousel_waits hchoice hi hlast,
        fun d hm hmark => hu.carousel_late hchoice hi hlast hk hm hmark⟩⟩
  case deadline =>
    rintro k c s rfl
    refine ⟨fun hnone => congrArg Host.Outcome.next (intervalReached_waits (Carousel.intervalDue_none hnone)),
      fun d hd => ?_⟩
    have hdue := Carousel.intervalDue_pending (now := s.clock) hd
    refine ⟨fun hearly => congrArg Host.Outcome.next (intervalReached_waits ?_), fun hreached hrunning => ?_⟩
    · rw [hdue, decide_eq_false (Nat.not_le.2 hearly), Bool.and_false]
    · rw [hrunning, decide_eq_true hreached] at hdue
      refine ⟨fun hcursor => congrArg Host.Outcome.next (intervalReached_begins hdue hcursor), fun hcursor => ?_⟩
      have hmarks := intervalReached_marks hdue hcursor
      rw [hd] at hmarks
      exact congrArg Host.Outcome.next hmarks

end Sys2Proof.Machine
end

section
/-!
PROOFS. CAPTURE_READ and CAPTURE_RELEASE: the count that they read and bring into its range, and the ring and the pool that
a release leaves (R63, R182, R183).
-/
namespace Sys2Proof.Machine

theorem readAll_count {n : Nat} (hn : n < 65536) : readAll (rNat 2) (e2 n) = some n :=
  readAll_some _ _ n (by simpa using rNat_e2 n [] hn)

theorem clamp_zero (hi x : Nat) : clamp 0 hi x = min hi x := by rw [clamp, Nat.zero_max]

/-- The entries that leave the ring drop their references together (R63). -/
theorem releaseCapture_eq (n : Nat) (s : State) :
    releaseCapture n s =
      { s with
        capture := s.capture.drop n
        pool := droppedFrom ((s.capture.take n).map CapEntry.buf) s.pool } := by
  rw [← foldl_dropRef, List.foldl_map]
  rfl

/-- A release of more entries than there are is a release of all of them. -/
theorem releaseCapture_min (n : Nat) (s : State) :
    releaseCapture (min s.capture.length n) s = releaseCapture n s := by
  unfold releaseCapture
  rw [Nat.min_comm, ← List.take_eq_take_min, ← List.drop_eq_drop_min]

/-- CAPTURE_RELEASE tells the entries taken and those left, and the ring loses as many as were asked for (R183). -/
theorem doCaptureRelease_eq (n : Nat) (s : State) :
    doCaptureRelease n s =
      .ok (e2 (min s.capture.length n) ++ e2 (s.capture.length - min s.capture.length n)) (releaseCapture n s) := by
  unfold doCaptureRelease
  dsimp only
  rw [clamp_zero, releaseCapture_min]

/-- Settles O54: the management link's two requests by the count that each takes, and the cue link's refusals. -/
theorem captureReadAndRelease : Obligations.CaptureReadAndRelease := by
  refine ⟨fun n s hc hn => ⟨?read, ?release⟩, fun body s hc => ⟨?readOnCue, ?releaseOnCue⟩⟩
  case read => exact answers_of_serve (fun _ => rfl) hc (.inl rfl) (readAll_count hn) rfl
  case release =>
    rw [← releaseCapture_eq]
    exact answers_of_serve (fun _ => rfl) hc (.inl rfl) (readAll_count hn) (doCaptureRelease_eq n s)
  case readOnCue => exact refuses_notPermitted_of_serve (fun _ => rfl) hc rfl
  case releaseOnCue => exact refuses_notPermitted_of_serve (fun _ => rfl) hc rfl

end Sys2Proof.Machine
end

section
/-!
PROOFS. Reporting and the transmitter: where an event or another notice goes in a link's queue, and what a transmitter begins
and completes (R190 to R194); and the step with a command waiting.
-/
namespace Sys2Proof.Machine

/-! ## The step -/

/-- Settles O1: with a command in front, that is the step. -/
theorem stepRunsTheFrontCommand : Obligations.StepRunsTheFrontCommand := fun _ _ _ => rfl

/-! ## Notices of one kind and key (R191, R192) -/

theorem Notice.sameKey_eq_false {m n : Notice} (h : ¬m.sameKindAndKey n) : m.sameKey n = false :=
  Bool.eq_false_iff.2 fun he => h ((m.sameKey_iff n).1 he)

/-- Two events have one key where cause and object are the same. -/
theorem Notice.event_sameKindAndKey {c : Cause} {o : ObjRef} {t : Clock} {r : Nat} {x : Notice} :
    (Notice.event c o t r).sameKindAndKey x ↔ ∃ t' r', x = .event c o t' r' := by
  rw [← Notice.sameKey_iff]
  cases x with
  | event c' o' t' r' =>
    simp only [Notice.sameKey, Bool.and_eq_true, decide_eq_true_eq, Notice.event.injEq]
    constructor
    · rintro ⟨rfl, rfl⟩
      exact ⟨t', r', rfl, rfl, rfl, rfl⟩
    · rintro ⟨_, _, rfl, rfl, -, -⟩
      exact ⟨rfl, rfl⟩
  | _ => simp [Notice.sameKey]

/-- READY has no key: it neither replaces a notice nor is replaced. -/
theorem Notice.ready_unkeyed (cause : ResetCause) (x : Notice) :
    ¬Notice.sameKindAndKey (.ready cause) x ∧ ¬x.sameKindAndKey (.ready cause) := by
  rw [← Notice.sameKey_iff, ← Notice.sameKey_iff]
  cases x <;> simp [Notice.sameKey]

/-- The content of any notice but an event takes the whole place of the waiting one. -/
theorem Notice.over_of_not_event {n : Notice} (h : ∀ c o t r, n ≠ .event c o t r) (old : Notice) : n.over old = n := by
  cases n with
  | event c o t r => exact absurd rfl (h c o t r)
  | _ => rfl

/-- A notice replaces the first waiting one of its kind and key, where that stands. -/
theorem LinkState.place_replaces {k : LinkState} {n old : Notice} {pre post : List Notice}
    (hk : k.notices = pre ++ old :: post) (hpre : ∀ x ∈ pre, ¬n.sameKindAndKey x) (hold : n.sameKindAndKey old) :
    k.place n = { k with notices := pre ++ n.over old :: post } := by
  have hreplace := replaceWaiting_append n old pre post (fun x hx => Notice.sameKey_eq_false (hpre x hx))
    ((n.sameKey_iff old).2 hold)
  rw [LinkState.place, hk, hreplace]

/-- With no notice of its kind and key waiting, a notice joins the queue, or is dropped (R192, R193). -/
theorem LinkState.place_joins {k : LinkState} {n : Notice} (h : ∀ x ∈ k.notices, ¬n.sameKindAndKey x) :
    k.place n =
      if k.notices.length < 32 then { k with notices := k.notices ++ [n] } else { k with lost := true } := by
  rw [LinkState.place, replaceWaiting_none n _ fun x hx => Notice.sameKey_eq_false (h x hx)]

/-! ## Events (R192 to R194) -/

/-- An event touches a link by placing its notice there, where the link reports its class. -/
theorem raiseEvent_link (c : Cause) (o : ObjRef) (s : State) (l : Link) :
    (raiseEvent c o s).link l = (s.link l).placeEvent c o s.clock := by
  cases l <;> rfl

theorem LinkState.placeEvent_disabled {k : LinkState} {c : Cause} (h : k.enables.has c.cls = false) (o : ObjRef)
    (now : Clock) : k.placeEvent c o now = k :=
  if_neg (Bool.eq_false_iff.1 h)

theorem LinkState.placeEvent_enabled {k : LinkState} {c : Cause} (h : k.enables.has c.cls = true) (o : ObjRef)
    (now : Clock) : k.placeEvent c o now = k.place (.event c o now 1) :=
  if_pos h

/-- Settles O6: an event places its notice on each link that reports its class, and a notice replaces the waiting one of its
kind and key, joins, or is dropped. -/
theorem eventsAreReportedAndCoalesced : Obligations.EventsAreReportedAndCoalesced := by
  refine ⟨fun c o s => ⟨raiseEvent_only s c o, raiseEvent_has s c o⟩, fun c o s l hoff => ?disabled,
    fun c o s l pre post t r hon hq hpre => ?replaces, fun c o s l hon hnone => ?joins,
    fun k n => ⟨fun pre old post hk hpre hold hn => ?placed, LinkState.place_joins, Notice.ready_unkeyed⟩⟩
  case disabled => rw [raiseEvent_link, LinkState.placeEvent_disabled hoff]
  case replaces =>
    have hfirst : ∀ x ∈ pre, ¬(Notice.event c o s.clock 1).sameKindAndKey x := fun x hx hkey => by
      obtain ⟨t', r', rfl⟩ := Notice.event_sameKindAndKey.1 hkey
      exact hpre t' r' hx
    rw [raiseEvent_link, LinkState.placeEvent_enabled hon,
      LinkState.place_replaces hq hfirst (Notice.event_sameKindAndKey.2 ⟨t, r, rfl⟩)]
    rfl
  case joins =>
    have hunkeyed : ∀ x ∈ (s.link l).notices, ¬(Notice.event c o s.clock 1).sameKindAndKey x := fun x hx hkey => by
      obtain ⟨t', r', rfl⟩ := Notice.event_sameKindAndKey.1 hkey
      exact hnone t' r' hx
    rw [raiseEvent_link, LinkState.placeEvent_enabled hon, LinkState.place_joins hunkeyed]
  case placed => rw [LinkState.place_replaces hk hpre hold, Notice.over_of_not_event hn]

/-! ## The transmitter (R190, R193) -/

theorem beginSend_sending {l : Link} {s : State} {x : Sending} (h : (s.link l).tx = some x) : beginSend l s = s := by
  simp only [beginSend, h]

/-- A free transmitter begins the oldest reply. -/
theorem beginSend_reply {l : Link} {s : State} {r : Reply} {rest : List Reply} (htx : (s.link l).tx = none)
    (hr : (s.link l).replies = r :: rest) :
    beginSend l s = s.setLink l { s.link l with
      replies := rest, tx := some { bytes := frameBytes r.kind r.tag r.body, resetReply := isResetReply l r s } } := by
  simp only [beginSend, htx, hr]

/-- With no reply waiting, a free transmitter begins the oldest notice. -/
theorem beginSend_notice {l : Link} {s : State} {n : Notice} {rest : List Notice} (htx : (s.link l).tx = none)
    (hr : (s.link l).replies = []) (hn : (s.link l).notices = n :: rest) :
    beginSend l s = s.setLink l { s.link l with
      notices := rest, lost := false
      tx := some { bytes := frameBytes n.kind 0 (eFlag (s.link l).lost ++ eNotice n), resetReply := false } } := by
  simp only [beginSend, htx, hr, hn]

theorem beginSend_nothing {l : Link} {s : State} (htx : (s.link l).tx = none) (hr : (s.link l).replies = [])
    (hn : (s.link l).notices = []) : beginSend l s = s := by
  simp only [beginSend, htx, hr, hn]

/-- While no RESET waits, no reply is one that makes a reset take effect. -/
theorem isResetReply_of_not_resetting {s : State} (h : s.resetting = false) (l : Link) (r : Reply) :
    isResetReply l r s = false := by
  simp [isResetReply, h]

theorem frameDone_idle {l : Link} {s : State} (h : (s.link l).tx = none) : frameDone l s = s := by
  simp only [frameDone, h]

/-- A transmitter that completes a frame other than the RESET reply is free. -/
theorem frameDone_frees {l : Link} {s : State} {bytes : List Byte}
    (h : (s.link l).tx = some { bytes := bytes, resetReply := false }) :
    frameDone l s = s.setLink l { s.link l with tx := none } := by
  simp [frameDone, h]

/-- The end of the RESET reply makes the reset take effect (R198). -/
theorem frameDone_resets {l : Link} {s : State} {bytes : List Byte}
    (h : (s.link l).tx = some { bytes := bytes, resetReply := true }) : frameDone l s = resetPart .request s := by
  simp [frameDone, h]

/-- Settles O7: what a transmitter begins, by what waits on its link, and how it becomes free. -/
theorem transmitterSendsRepliesFirst : Obligations.TransmitterSendsRepliesFirst := by
  refine ⟨fun l s x h => congrArg _ (beginSend_sending h), fun l s r rest htx hreset hr => ?_,
    fun l s n rest htx hr hn => congrArg _ (beginSend_notice htx hr hn),
    fun l s htx hr hn => congrArg _ (beginSend_nothing htx hr hn),
    fun l s => ⟨fun h => congrArg _ (frameDone_idle h), fun bytes h => congrArg _ (frameDone_frees h)⟩⟩
  have hbegin := beginSend_reply htx hr
  rw [isResetReply_of_not_resetting hreset] at hbegin
  exact congrArg Host.Outcome.next hbegin

end Sys2Proof.Machine
end

section
/-!
PROOFS. The receiver: what a byte does to the bytes of a frame in progress, the frame that arrives byte by byte, and what is
discarded or finds no room (R185 to R187, R190).
-/
namespace Sys2Proof.Machine

variable {s : State} {l : Link} {f : Frame} {b c d : Byte}

/-! ## The gap (R186) -/

/-- A hunting receiver has no gap to measure. -/
theorem closeGap_hunting (h : (s.link l).rx = none) : closeGap l s = s := by simp [closeGap, LinkState.gapOver, h]

/-- Within 50 ms of its last byte a frame stays in progress. -/
theorem closeGap_in_time (h : elapsed s.clock (s.link l).rxLast ≤ 1350000) : closeGap l s = s := by
  have hgap : ¬Config.gapTicks < elapsed s.clock (s.link l).rxLast := Nat.not_lt.2 h
  simp [closeGap, LinkState.gapOver, hgap]

theorem gapOver_iff : (s.link l).gapOver s.clock = true ↔
    (s.link l).rx ≠ none ∧ 1350000 < elapsed s.clock (s.link l).rxLast := by
  rw [LinkState.gapOver, Bool.and_eq_true, decide_eq_true_eq, Option.isSome_iff_ne_none]

theorem elapsed_self (now : Clock) : elapsed now now = 0 := by simp [elapsed]

/-! ## One byte (R186) -/

/-- The link once a byte is received: the bytes of the frame still in progress, and the time. -/
def heard (l : Link) (rx : Option (List Byte)) (s : State) : State :=
  s.setLink l { s.link l with rx := rx, rxLast := s.clock }

@[simp] theorem heard_clock (rx : Option (List Byte)) : (heard l rx s).clock = s.clock := State.setLink_clock s l _

@[simp] theorem heard_link (rx : Option (List Byte)) :
    (heard l rx s).link l = { s.link l with rx := rx, rxLast := s.clock } := by simp [heard]

@[simp] theorem heard_heard (rx rx' : Option (List Byte)) : heard l rx' (heard l rx s) = heard l rx' s := by
  simp [heard]

/-- A byte with no over-long gap before it: the bytes are scanned, and what is found takes effect. -/
theorem receiveByte_scanned {items : List RxItem} {rx : Option (List Byte)} (hgap : closeGap l s = s)
    (hscan : scanFrames (rxBytes (s.link l) b).length (rxBytes (s.link l) b) = (items, rx)) :
    receiveByte l b s = items.foldl (acceptItem l) (heard l rx s) := by
  simp only [receiveByte, hgap, hscan]
  rfl

/-- The bytes before a receiver in a frame are the marker, those of the frame so far, and the new one. -/
theorem rxBytes_in_frame {buf : List Byte} (h : (s.link l).rx = some buf) :
    rxBytes (s.link l) b = marker :: (buf ++ [b]) := by
  simp only [rxBytes, h]

/-- Bytes with no marker among them hold nothing. -/
theorem scanFrames_no_marker (n : Nat) {bytes : List Byte} (h : ∀ x ∈ bytes, x ≠ marker) :
    scanFrames n bytes = ([], none) := by
  induction bytes generalizing n with
  | nil => cases n <;> rfl
  | cons x rest ih =>
    cases n with
    | zero => rfl
    | succ n =>
      rw [scanFrames, if_pos (h x List.mem_cons_self)]
      exact ih n fun y hy => h y (List.mem_cons_of_mem x hy)

/-- A frame that is still incomplete goes on. -/
theorem receiveByte_incomplete {buf : List Byte} (hgap : closeGap l s = s) (hrx : (s.link l).rx = some buf)
    (htry : tryFrame (buf ++ [b]) = .incomplete) : receiveByte l b s = heard l (some (buf ++ [b])) s := by
  refine receiveByte_scanned (items := []) hgap ?_
  rw [rxBytes_in_frame hrx, List.length_cons, scanFrames, if_neg (not_not_intro rfl), htry]

/-- A good frame with its last byte reaches the link, and the receiver hunts again. -/
theorem receiveByte_good {buf : List Byte} (hgap : closeGap l s = s) (hrx : (s.link l).rx = some buf)
    (htry : tryFrame (buf ++ [b]) = .good f []) : receiveByte l b s = acceptFrame l f (heard l none s) := by
  refine receiveByte_scanned (items := [.good f]) hgap ?_
  rw [rxBytes_in_frame hrx, List.length_cons, scanFrames, if_neg (not_not_intro rfl), htry]
  dsimp only
  rw [scanFrames_no_marker _ fun x hx => absurd hx List.not_mem_nil]

/-- A frame that is too long or fails its check, with no marker in it, is discarded with its event. -/
theorem receiveByte_discards {buf : List Byte} (hgap : closeGap l s = s) (hrx : (s.link l).rx = some buf)
    (hmarker : ∀ x ∈ buf ++ [b], x ≠ marker)
    (htry : tryFrame (buf ++ [b]) = .tooLong ∨ tryFrame (buf ++ [b]) = .badCheck) :
    receiveByte l b s = raiseEvent .linkFrame (.link l) (heard l none s) := by
  refine receiveByte_scanned (items := [.discarded]) hgap ?_
  rw [rxBytes_in_frame hrx, List.length_cons, scanFrames, if_neg (not_not_intro rfl), scanFrames_no_marker _ hmarker]
  rcases htry with h | h <;> rw [h]

/-- A hunting receiver passes over a byte that is no marker, and begins a frame at one that is. -/
theorem receiveByte_hunting (hrx : (s.link l).rx = none) :
    receiveByte l b s = heard l (if b = marker then some [] else none) s := by
  have hbytes : rxBytes (s.link l) b = [b] := by simp only [rxBytes, hrx]
  refine receiveByte_scanned (items := []) (closeGap_hunting hrx) ?_
  rw [hbytes]
  by_cases h : b = marker
  · rw [h, if_pos rfl]
    rfl
  · rw [if_neg h]
    exact scanFrames_no_marker _ (by simpa using h)

/-! ## The bytes of a frame (R185, R201) -/

theorem e2_eq (n : Nat) : e2 n = [BitVec.ofNat 8 (n / 256), BitVec.ofNat 8 n] := by simp [e2, be]

/-- A length of two bytes is read as it was written. -/
theorem length_of_bytes {n : Nat} (h : n < 65536) :
    (BitVec.ofNat 8 (n / 256)).toNat * 256 + (BitVec.ofNat 8 n).toNat = n := by
  rw [be_toNat, be_toNat]
  omega

theorem coveredBytes_eq (f : Frame) : coveredBytes f =
    BitVec.ofNat 8 (f.body.length / 256) :: BitVec.ofNat 8 f.body.length :: f.kind :: f.tag :: f.body := by
  simp [coveredBytes, e2_eq]

theorem coveredBytes_length (f : Frame) : (coveredBytes f).length = f.body.length + 4 := by simp [coveredBytes_eq]

/-- A longer length than a body may have is told by the first two bytes. -/
theorem tryFrame_tooLong {hi lo : Byte} (h : 1600 < hi.toNat * 256 + lo.toNat) : tryFrame [hi, lo] = .tooLong :=
  if_pos h

theorem Frame.length_le (hf : f.wf = true) : f.body.length ≤ 1600 := of_decide_eq_true hf

/-- A whole frame of a length that is allowed is good or not by its check. -/
theorem tryFrame_whole (hf : f.wf = true) :
    tryFrame (coveredBytes f ++ [c, d]) = if checkBytes (coveredBytes f) = [c, d] then .good f [] else .badCheck := by
  have hlen := Frame.length_le hf
  have htake : (coveredBytes f ++ [c, d]).take (f.body.length + 4) = coveredBytes f :=
    List.take_left' (coveredBytes_length f)
  have hdrop : (coveredBytes f ++ [c, d]).drop (f.body.length + 4) = [c, d] := List.drop_left' (coveredBytes_length f)
  have hall : (coveredBytes f ++ [c, d]).length = f.body.length + 6 := by simp [coveredBytes_length]
  have hnil : (coveredBytes f ++ [c, d]).drop (f.body.length + 6) = [] := List.drop_of_length_le hall.le
  rw [coveredBytes_eq] at htake hdrop hall hnil ⊢
  simp only [List.cons_append] at htake hdrop hall hnil ⊢
  simp only [tryFrame, length_of_bytes (show f.body.length < 65536 by omega), htake, hdrop, hall, hnil]
  rw [if_neg (show ¬Config.bodyCap < f.body.length from Nat.not_lt.2 hlen), if_neg (Nat.lt_irrefl _)]
  simp

/-- Fewer bytes than a whole frame, of a length that is allowed, are incomplete. -/
theorem tryFrame_part (hf : f.wf = true) {p q : List Byte} (h : p ++ q = coveredBytes f ++ [c, d]) (hq : q ≠ []) :
    tryFrame p = .incomplete := by
  have hlen := Frame.length_le hf
  have hshort : p.length < f.body.length + 6 := by
    have hall := congrArg List.length h
    have hpos := List.length_pos_iff.2 hq
    simp only [List.length_append, coveredBytes_length, List.length_cons, List.length_nil] at hall
    omega
  match p, h with
  | [], _ => rfl
  | [_], _ => rfl
  | hi :: lo :: more, h =>
    rw [coveredBytes_eq] at h
    simp only [List.cons_append, List.cons.injEq] at h
    obtain ⟨rfl, rfl, -⟩ := h
    simp only [tryFrame, length_of_bytes (show f.body.length < 65536 by omega)]
    rw [if_neg (show ¬Config.bodyCap < f.body.length from Nat.not_lt.2 hlen), if_pos hshort]

/-! ## A frame byte by byte (R186, R187) -/

/-- A frame that finds fewer than four requests waiting joins them. -/
theorem acceptFrame_joins (h : (s.link l).requests.length < 4) :
    acceptFrame l f s = s.setLink l { s.link l with requests := (s.link l).requests ++ [f] } :=
  if_pos h

/-- A frame that finds four requests waiting is answered BUSY, or disregarded where eight replies wait. -/
theorem acceptFrame_busy (h : 4 ≤ (s.link l).requests.length) :
    acceptFrame l f s =
      if (s.link l).replies.length < 8 then refuse l f .busy [] s else raiseEvent (.refused .busy) (.link l) s :=
  if_neg (Nat.not_lt.2 h)

theorem receiveAll_cons (rest : List Byte) : receiveAll l (b :: rest) s = receiveAll l rest (receiveByte l b s) := rfl

/-- With the bytes `p` of a frame received, those still to come bring it into the request queue. -/
theorem receiveAll_rest (hf : f.wf = true) (hroom : (s.link l).requests.length < 4)
    (hcheck : checkBytes (coveredBytes f) = [c, d]) {q : List Byte} (hq : q ≠ []) :
    ∀ p, p ++ q = coveredBytes f ++ [c, d] →
      receiveAll l q (heard l (some p) s) =
        .next (s.setLink l { s.link l with
          rx := none, rxLast := s.clock, requests := (s.link l).requests ++ [f] }) := by
  have hgap : ∀ p, closeGap l (heard l (some p) s) = heard l (some p) s := fun p =>
    closeGap_in_time (by simp [elapsed_self])
  induction q with
  | nil => exact absurd rfl hq
  | cons b q ih =>
    intro p hp
    have hrx : ((heard l (some p) s).link l).rx = some p := by simp
    rw [receiveAll_cons]
    rcases eq_or_ne q [] with rfl | hmore
    · have htry : tryFrame (p ++ [b]) = .good f [] := by rw [hp, tryFrame_whole hf, if_pos hcheck]
      rw [receiveByte_good (hgap p) hrx htry, heard_heard, acceptFrame_joins (by simpa using hroom)]
      simp [receiveAll, heard]
    · have hp' : (p ++ [b]) ++ q = coveredBytes f ++ [c, d] := by rw [← hp, List.append_assoc, List.singleton_append]
      rw [receiveByte_incomplete (hgap p) hrx (tryFrame_part hf hp' hmore), heard_heard]
      exact ih hmore (p ++ [b]) hp'

/-- Settles O4: the marker begins the frame, each byte but the last leaves it in progress, and the last makes it good. -/
theorem frameArrivesByteByByte : Obligations.FrameArrivesByteByByte := by
  intro l f s hf hrx hroom
  have hcheck : checkBytes (coveredBytes f) =
      [BitVec.ofNat 8 ((crc16 (coveredBytes f)).toNat / 256), BitVec.ofNat 8 (crc16 (coveredBytes f)).toNat] := e2_eq _
  have hbytes : frameBytes f.kind f.tag f.body = marker :: (coveredBytes f ++ checkBytes (coveredBytes f)) := rfl
  rw [hbytes, receiveAll_cons, receiveByte_hunting hrx, if_pos rfl, hcheck]
  exact receiveAll_rest hf hroom hcheck (by simp) [] rfl

/-- Settles O5: the byte that no frame can hold, the three ways of discarding a frame, and the frame that finds no room. -/
theorem receiverDiscardsWhatIsNoFrame : Obligations.ReceiverDiscardsWhatIsNoFrame := by
  refine ⟨fun l b s hrx hb => congrArg Host.Outcome.next ?passedOver,
    fun l hi lo s hrx htime hlong hhi hlo => congrArg Host.Outcome.next ?tooLong,
    fun l f c d s hf hrx htime hcheck hmarker => congrArg Host.Outcome.next ?badCheck,
    fun l f c d s hf hrx htime hcheck hfull => congrArg Host.Outcome.next ?busy, fun l s => ?gap⟩
  case passedOver =>
    have hb' : b ≠ marker := hb
    rw [receiveByte_hunting hrx, if_neg hb']
    rfl
  case tooLong =>
    exact receiveByte_discards (closeGap_in_time htime) hrx (by simpa [marker] using ⟨hhi, hlo⟩)
      (.inl (tryFrame_tooLong hlong))
  case badCheck =>
    have hbytes : coveredBytes f ++ [c] ++ [d] = coveredBytes f ++ [c, d] := List.append_assoc _ _ _
    refine receiveByte_discards (closeGap_in_time htime) hrx ?_ (.inr ?_)
    · rw [hbytes]
      exact hmarker
    · rw [hbytes, tryFrame_whole hf, if_neg hcheck]
  case busy =>
    have htry : tryFrame (coveredBytes f ++ [c] ++ [d]) = .good f [] := by
      rw [List.append_assoc]
      exact (tryFrame_whole hf).trans (if_pos hcheck)
    rw [receiveByte_good (closeGap_in_time htime) hrx htry, acceptFrame_busy (by simpa using hfull), heard_link]
    rfl
  case gap =>
    refine congrArg Host.Outcome.next ?_
    simp only [closeGap, gapOver_iff]

end Sys2Proof.Machine
end

section
/-!
PROOFS. Readers and forms: each reader of R200 takes of a body exactly what its form says, so that a body is read whole where
it has the form of its request, and not otherwise (R188, R200).
-/
namespace Sys2Proof.Machine

variable {α β : Type} {r : Reader α} {q : Reader β} {F G : Form} {L : List Form}

/-- A reader takes what a form says, and fails where the form does. -/
def Reads (r : Reader α) (F : Form) : Prop := ∀ b, (r b).map Prod.snd = F b

/-! ## Readers put together -/

/-- What becomes of the item that is read has no bearing on what is taken. -/
theorem Reads.map {f : α × List Byte → β × List Byte} (hr : Reads r F) (hf : ∀ x, (f x).2 = x.2) :
    Reads (fun b => (r b).map f) F := fun b => by
  rw [← hr b, Option.map_map]
  exact Option.map_congr fun x _ => hf x

theorem Reads.one (hr : Reads r F) : Reads r (Form.seq [F]) := fun b => by
  rw [hr b, Form.seq]
  cases F b <;> rfl

theorem reads_nothing : Reads rNothing (Form.seq []) := fun _ => rfl

/-- One item after another takes one form after another. -/
theorem Reads.then (hr : Reads r F) (hq : Reads q (Form.seq L)) : Reads (rThen r q) (Form.seq (F :: L)) := fun b => by
  rw [Form.seq, ← hr b]
  unfold rThen
  cases r b with
  | none => rfl
  | some x =>
    dsimp only [Option.map_some, Option.bind_some]
    rw [← hq x.2, Option.map_map]
    rfl

theorem Reads.opt (hr : Reads r F) : Reads (rOpt r) (Form.opt F) := fun b => by
  cases b with
  | nil => rfl
  | cons x rest =>
    simp only [rOpt, Form.opt]
    split
    · rfl
    · split
      · rw [← hr rest, Option.map_map]
        rfl
      · rfl

theorem Reads.many (hr : Reads r F) (n : Nat) : Reads (rMany r n) (Form.seq (List.replicate n F)) := by
  induction n with
  | zero => exact fun _ => rfl
  | succ n ih =>
    intro b
    rw [List.replicate_succ, Form.seq, ← hr b]
    unfold rMany
    cases r b with
    | none => rfl
    | some x =>
      dsimp only [Option.map_some, Option.bind_some]
      rw [← ih x.2, Option.map_map]
      rfl

theorem Reads.list (hr : Reads r F) (most : Nat) : Reads (rList most r) (Form.list most F) := fun b => by
  cases b with
  | nil => rfl
  | cons x rest =>
    simp only [rList, Form.list]
    split
    · exact hr.many _ rest
    · rfl

/-! ## Numbers -/

/-- The number that bytes spell, high byte first, added to what has been read. -/
def spelled (v : Nat) (b : List Byte) : Nat := b.foldl (fun v x => v * 256 + x.toNat) v

theorem Form.num_eq (n : Nat) (ok : Nat → Bool) (b : List Byte) :
    Form.num n ok b = if n ≤ b.length ∧ ok (spelled 0 (b.take n)) then some (b.drop n) else none := rfl

theorem rNatFrom_eq (n v : Nat) (b : List Byte) :
    rNatFrom n v b = if n ≤ b.length then some (spelled v (b.take n), b.drop n) else none := by
  induction n generalizing v b with
  | zero => simp [rNatFrom, spelled]
  | succ n ih =>
    cases b with
    | nil => simp [rNatFrom]
    | cons x rest => simp [rNatFrom, ih, spelled]

theorem rNat_eq (n : Nat) (b : List Byte) :
    rNat n b = if n ≤ b.length then some (spelled 0 (b.take n), b.drop n) else none :=
  rNatFrom_eq n 0 b

theorem reads_nat (n : Nat) : Reads (rNat n) (Form.any n) := fun b => by
  rw [rNat_eq, Form.any, Form.num_eq]
  by_cases h : n ≤ b.length <;> simp [h]

theorem reads_natWhen (n : Nat) {ok : Nat → Bool} : Reads (rWhen (rNat n) ok) (Form.num n ok) := fun b => by
  rw [Form.num_eq, rWhen, rNat_eq]
  by_cases h : n ≤ b.length
  · by_cases hok : ok (spelled 0 (b.take n)) = true <;> simp [h, hok]
  · simp [h]

/-! ## One byte -/

/-- A number of one byte takes that byte. -/
theorem Form.num_one_cons (ok : Nat → Bool) (x : Byte) (rest : List Byte) :
    Form.num 1 ok (x :: rest) = if ok x.toNat then some rest else none := by
  simp [Form.num_eq, spelled]

theorem Form.num_one_nil (ok : Nat → Bool) : Form.num 1 ok [] = none := rfl

theorem Form.below_cons (n : Nat) (x : Byte) (rest : List Byte) :
    Form.below n (x :: rest) = if x.toNat < n then some rest else none := by
  simp [Form.below, Form.num_one_cons]

/-- A reader of one byte takes that byte where it passes, and otherwise fails. -/
theorem reads_byte {ok : Nat → Bool} (hnil : r [] = none)
    (hcons : ∀ x rest, (r (x :: rest)).map Prod.snd = if ok x.toNat then some rest else none) :
    Reads r (Form.num 1 ok) := fun b => by
  cases b with
  | nil => rw [hnil, Form.num_one_nil]; rfl
  | cons x rest => rw [hcons, Form.num_one_cons]

theorem reads_index (n : Nat) : Reads (rIndex n) (Form.below n) :=
  reads_byte rfl fun x rest => by
    simp only [rIndex, decide_eq_true_eq]
    split <;> rfl

/-- An index of a set of 256 is any byte. -/
theorem reads_indexOfByte : Reads (rIndex 256) (Form.any 1) :=
  reads_byte rfl fun x _ => by
    simp only [rIndex]
    rw [dif_pos x.isLt]
    rfl

theorem reads_enum (values : List α) : Reads (rEnum values) (Form.below values.length) :=
  reads_byte rfl fun x rest => by
    simp only [rEnum, decide_eq_true_eq]
    by_cases h : x.toNat < values.length <;> simp [h]

theorem reads_flag : Reads rFlag (Form.below 2) := reads_enum _

theorem reads_rByte : Reads rByte (Form.any 1) := reads_byte rfl fun _ _ => rfl

theorem reads_set4 : Reads rSet4 (Form.below 16) :=
  reads_byte rfl fun x rest => by
    simp only [rSet4, decide_eq_true_eq]
    split <;> rfl

theorem reads_target : Reads rTarget Form.target :=
  reads_byte rfl fun x rest => by
    have hnational : x = 0xFF ↔ x.toNat = 255 := BitVec.toNat_inj.symm
    simp only [rTarget, hnational, Bool.or_eq_true, decide_eq_true_eq]
    by_cases h : x.toNat = 255
    · simp [h]
    · by_cases h' : x.toNat < 48 <;> simp [h, h']

theorem reads_fallback : Reads rFallback (Form.num 1 fun x => decide (254 ≤ x)) :=
  reads_byte rfl fun x rest => by
    have hnational : x = 0xFF ↔ x.toNat = 255 := BitVec.toNat_inj.symm
    have hblank : x = 0xFE ↔ x.toNat = 254 := BitVec.toNat_inj.symm
    have hx := x.isLt
    simp only [rFallback, hnational, hblank, decide_eq_true_eq]
    by_cases h : x.toNat = 255
    · simp [h]
    · by_cases h' : x.toNat = 254
      · simp [h']
      · have hlow : ¬254 ≤ x.toNat := by omega
        simp [h, h', hlow]

/-- A presence byte that stands for a field without content is a flag. -/
theorem reads_present : Reads (rOpt rNothing) (Form.below 2) :=
  reads_byte rfl fun x rest => by
    have habsent : x = 0 ↔ x.toNat = 0 := BitVec.toNat_inj.symm
    have hpresent : x = 1 ↔ x.toNat = 1 := BitVec.toNat_inj.symm
    simp only [rOpt, rNothing, habsent, hpresent, decide_eq_true_eq]
    by_cases h : x.toNat = 0
    · simp [h]
    · by_cases h' : x.toNat = 1
      · simp [h']
      · have hhigh : ¬x.toNat < 2 := by omega
        simp [h, h', hhigh]

/-! ## The fields of the requests -/

theorem reads_mask : Reads rMask Form.regions :=
  reads_byte rfl fun x rest => by
    have hempty : x = 0 ↔ x.toNat = 0 := BitVec.toNat_inj.symm
    simp only [rMask, rWhen, rByte, ne_eq, hempty, decide_eq_true_eq]
    split <;> rfl

theorem reads_owner : Reads rOwner Form.owner :=
  have hbelow : (fun x : Nat => decide (x < 128)) = fun x => decide (x ≤ 127) :=
    funext fun _ => decide_eq_decide.2 Nat.lt_succ_iff
  (show Form.owner = Form.num 1 _ from congrArg (Form.num 1) hbelow) ▸ reads_natWhen 1

theorem reads_claimant : Reads rClaimant Form.claimant :=
  have hrange : (fun x : Nat => decide (1 ≤ x) && decide (x ≤ 127)) = fun x => decide (1 ≤ x ∧ x ≤ 127) :=
    funext fun _ => (Bool.decide_and _ _).symm
  (show Form.claimant = Form.num 1 _ from congrArg (Form.num 1) hrange) ▸ reads_natWhen 1

theorem reads_cueId : Reads rCueId Form.cue := reads_natWhen 2

theorem reads_ident : Reads rIdent Form.ident := fun b => by
  rw [rIdent, rNat_eq, Form.ident, Form.num_eq]
  by_cases h : 2 ≤ b.length
  · by_cases hlow : spelled 0 (b.take 2) < 8192 <;> simp [h, hlow]
  · simp [h]

/-- An identifier below 8191 (R159). -/
theorem reads_identBelowNull :
    Reads (rWhen rIdent fun i => decide (i ≠ nullIdent)) (Form.num 2 fun x => decide (x < 8191)) := fun b => by
  rw [rWhen, rIdent, rNat_eq, Form.num_eq]
  generalize spelled 0 (b.take 2) = n
  by_cases h : 2 ≤ b.length
  · by_cases hlow : n < 8192
    · have hnull : BitVec.ofNat 13 n = nullIdent ↔ n = 8191 := by
        rw [← BitVec.toNat_inj, BitVec.toNat_ofNat, Nat.mod_eq_of_lt hlow]
        rfl
      by_cases hn : n = 8191
      · simp [h, hn, nullIdent]
      · have hbelow : n < 8191 := by omega
        simp [h, hlow, hnull, hn, hbelow]
    · have hhigh : ¬n < 8191 := by omega
      simp [h, hlow, hhigh]
  · simp [h]

theorem reads_station : Reads rStation Form.station := fun b => by
  rw [rStation, rNat_eq, Form.station, Form.seq, Form.any, Form.num_eq]
  by_cases hday : 2 ≤ b.length
  · rw [if_pos hday, if_pos ⟨hday, rfl⟩]
    dsimp only [Option.bind_some, Form.seq]
    rw [rNat_eq, Form.num_eq]
    by_cases htick : 6 ≤ (b.drop 2).length
    · rw [if_pos htick]
      dsimp only
      by_cases hlast : spelled 0 ((b.drop 2).take 6) < 2332800000000
      · rw [if_pos hlast, if_pos ⟨htick, decide_eq_true hlast⟩]
        rfl
      · rw [if_neg hlast, if_neg fun h => hlast (of_decide_eq_true h.2)]
        rfl
    · rw [if_neg htick, if_neg fun h => htick h.1]
      rfl
  · simp [hday]

theorem reads_binding : Reads rBinding Form.binding := fun b => by
  cases b with
  | nil => rfl
  | cons x rest =>
    simp only [rBinding, Form.binding]
    split
    · rfl
    · split
      · rw [← (reads_rByte.then reads_ident.one) rest, Option.map_map]
        rfl
      · rfl

/-- A packet is loadable by its own bytes, whatever follows it (R166). -/
theorem loadable_take {b : List Byte} : loadable (b.take 188) = true ↔ byteAt b 0 = 0x47 ∧ ident b ≠ 8191 := by
  have hbyte : ∀ i < 188, byteAt (b.take 188) i = byteAt b i := fun i hi => by
    simp [byteAt, List.getElem?_take_of_lt hi]
  rw [loadable, Bool.and_eq_true, decide_eq_true_eq, decide_eq_true_eq, ident, hbyte 0 (by decide),
    hbyte 1 (by decide), hbyte 2 (by decide)]
  rfl

theorem reads_packet : Reads (rWhen rPacket loadable) Form.packet := fun b => by
  rw [rWhen, rPacket, Form.packet]
  by_cases hlen : b.length < 188
  · have hshort : ¬(188 ≤ b.length ∧ byteAt b 0 = 0x47 ∧ ident b ≠ 8191) := fun h => Nat.not_lt.2 h.1 hlen
    rw [if_pos hlen, if_neg hshort]
    rfl
  · rw [if_neg hlen]
    dsimp only
    by_cases hload : loadable (b.take 188) = true
    · rw [if_pos hload, if_pos ⟨Nat.not_lt.1 hlen, loadable_take.1 hload⟩]
      rfl
    · rw [if_neg hload, if_neg fun h => hload (loadable_take.2 h.2)]
      rfl

/-! ## The selectors of CUE_LIST (R109) -/

theorem rOpt_zero (r : Reader α) (rest : List Byte) : rOpt r (0 :: rest) = some (none, rest) := rfl

theorem rOpt_one (r : Reader α) (rest : List Byte) :
    rOpt r (1 :: rest) = (r rest).map fun y => (some y.1, y.2) := rfl

theorem rOpt_neither (r : Reader α) {x : Byte} (h0 : x ≠ 0) (h1 : x ≠ 1) (rest : List Byte) :
    rOpt r (x :: rest) = none := by
  rw [rOpt, if_neg h0, if_neg h1]

/-- A starting position of CUE_LIST. -/
def rPosition : Reader Nat := rWhen (rNat 1) fun n => decide (n ≤ 127)

theorem reads_position : Reads rPosition (Form.below 128) := reads_owner

/-- What two optional selectors amount to: one of them, and not both. -/
def selected : Option Nat → Option Nat → List Byte → Option (CueSelect × List Byte)
  | some id, none, rest => some (.byId id, rest)
  | none, some pos, rest => some (.from pos, rest)
  | some _, some _, _ => none
  | none, none, _ => none

theorem rCueList_eq (b : List Byte) :
    rCueList b = (rOpt rCueId b).bind fun x => (rOpt rPosition x.2).bind fun y => selected x.1 y.1 y.2 := by
  unfold rCueList rThen rPosition
  cases rOpt rCueId b with
  | none => rfl
  | some x =>
    obtain ⟨id, rest⟩ := x
    dsimp only [Option.bind_some]
    cases rOpt (rWhen (rNat 1) fun n => decide (n ≤ 127)) rest with
    | none => rfl
    | some y =>
      obtain ⟨pos, rest'⟩ := y
      cases id <;> cases pos <;> rfl

/-- After a cue id, the absence of a position. -/
theorem selected_byId (id : Nat) (b : List Byte) :
    ((rOpt rPosition b).bind fun y => selected (some id) y.1 y.2).map Prod.snd = Form.below 1 b := by
  cases b with
  | nil => rfl
  | cons x rest =>
    rw [Form.below_cons]
    by_cases h0 : x = 0
    · rw [h0]
      rfl
    · have hx : ¬x.toNat < 1 := fun h => h0 (BitVec.toNat_inj.1 (Nat.lt_one_iff.1 h))
      rw [if_neg hx]
      by_cases h1 : x = 1
      · rw [h1, rOpt_one]
        cases rPosition rest <;> rfl
      · rw [rOpt_neither _ h0 h1]
        rfl

/-- After the absence of a cue id, a position. -/
theorem selected_from (b : List Byte) :
    ((rOpt rPosition b).bind fun y => selected none y.1 y.2).map Prod.snd =
      Form.seq [Form.num 1 fun x => decide (x = 1), Form.below 128] b := by
  cases b with
  | nil => rfl
  | cons x rest =>
    rw [Form.seq, Form.num_one_cons]
    by_cases h1 : x = 1
    · rw [h1, rOpt_one, if_pos (by decide), Option.bind_some, ← reads_position.one rest]
      cases rPosition rest <;> rfl
    · have hx : ¬decide (x.toNat = 1) = true := fun h => h1 (BitVec.toNat_inj.1 (of_decide_eq_true h))
      rw [if_neg hx]
      by_cases h0 : x = 0
      · rw [h0]
        rfl
      · rw [rOpt_neither _ h0 h1]
        rfl

/-- A CUE_LIST body that begins with a present cue id goes on with the absence of a position; any other begins with the
absence of a cue id, and a position follows. -/
theorem reads_cueList : Reads rCueList Form.selector := fun b => by
  rw [rCueList_eq]
  cases b with
  | nil => rfl
  | cons x rest =>
    unfold Form.selector
    simp only [List.head?_cons, Option.some.injEq]
    by_cases h1 : x = 1
    · rw [h1, if_pos rfl, Form.seq, ← reads_cueId.opt, rOpt_one]
      cases rCueId rest with
      | none => rfl
      | some y =>
        change _ = Form.seq [Form.below 1] y.2
        rw [← Reads.one (fun c => selected_byId y.1 c) y.2]
        rfl
    · rw [if_neg h1, Form.seq, Form.below_cons]
      by_cases h0 : x = 0
      · rw [h0, rOpt_zero, if_pos (by decide), Option.bind_some, Option.bind_some]
        exact selected_from rest
      · have hx : ¬x.toNat < 1 := fun h => h0 (BitVec.toNat_inj.1 (Nat.lt_one_iff.1 h))
        rw [rOpt_neither _ h0 h1, if_neg hx]
        rfl

/-! ## A body read whole -/

/-- A body is read whole exactly where its form takes it and leaves nothing. -/
theorem readAll_eq_none (hr : Reads r F) {b : List Byte} : readAll r b = none ↔ F b ≠ some [] := by
  rw [← hr b]
  unfold readAll
  cases r b with
  | none => simp
  | some x =>
    obtain ⟨a, rest⟩ := x
    cases rest <;> simp

end Sys2Proof.Machine
end

section
/-!
PROOFS. The form of each request's body, as its reader takes it: the fields that the owning rule lists, in their order (R200).
-/
namespace Sys2Proof.Machine

/-! ## The general requests, the ports and the tables -/

theorem reads_reportSet : Reads rReportSet (Form.seq (requestForm 0x04)) := (reads_enum _).then reads_set4.one

theorem reads_portConfig : Reads rPortConfig (Form.seq (requestForm 0x0A)) :=
  ((reads_index 12).then <| (reads_enum _).opt.then <| (reads_enum _).opt.then (reads_enum _).opt.one).map fun _ => rfl

theorem reads_portClear : Reads (rThen (rIndex 12) rSet4) (Form.seq (requestForm 0x0B)) :=
  (reads_index 12).then reads_set4.one

theorem reads_componentWrite : Reads rComponentWrite (Form.seq (requestForm 0x0D)) :=
  (reads_indexOfByte.then <| (reads_index 12).then <| reads_ident.then <| reads_ident.then <| (reads_enum _).then <|
    reads_flag.then <| (reads_index 32).opt.then <| reads_flag.then reads_binding.one).map fun _ => rfl

theorem reads_meterWrite : Reads rMeterWrite (Form.seq (requestForm 0x10)) :=
  ((reads_index 32).then <| (reads_nat 4).then <| (reads_nat 4).then (reads_enum _).one).map fun _ => rfl

theorem reads_meterRead : Reads rMeterRead (Form.seq (requestForm 0x11)) :=
  ((reads_index 32).then reads_present.one).map fun _ => rfl

theorem reads_slotRole : Reads rSlotRole (Form.seq [.below 6, .ident, .opt (.any 1)]) :=
  ((reads_index 6).then <| reads_ident.then reads_indexOfByte.opt.one).map fun _ => rfl

theorem reads_slotWrite : Reads rSlotWrite (Form.seq (requestForm 0x12)) :=
  ((reads_index 24).then <| (reads_index 6).then <| (reads_index 6).opt.then (reads_slotRole.list 6).one).map fun _ => rfl

theorem reads_variantWrite : Reads rVariantWrite (Form.seq (requestForm 0x15)) :=
  ((reads_index 48).then <| (reads_index 24).then <|
    (((reads_index 6).then reads_indexOfByte.one).list 255).then <| reads_fallback.then <|
      (reads_nat 4).then <| (reads_nat 4).then (reads_nat 4).one).map fun _ => rfl

/-! ## The schedule, the routes and the claims -/

theorem reads_cueAdd : Reads rCueAdd (Form.seq (requestForm 0x1B)) :=
  (reads_cueId.then <| reads_station.then <| reads_mask.then <| (reads_index 24).then <| reads_target.then <|
    (reads_enum _).then <| (reads_nat 4).then <| (reads_enum _).then reads_owner.one).map fun _ => rfl

theorem reads_cueOwner : Reads (rThen rCueId rOwner) (Form.seq (requestForm 0x1C)) := reads_cueId.then reads_owner.one

theorem reads_routeTake : Reads rRouteTake (Form.seq (requestForm 0x20)) :=
  (reads_mask.then <| (reads_index 24).then <| reads_target.then <| (reads_enum _).then <|
    (reads_nat 4).then reads_owner.one).map fun _ => rfl

theorem reads_routeMask : Reads rRouteMask (Form.seq (requestForm 0x21)) :=
  (reads_mask.then <| (reads_index 24).then reads_owner.one).map fun _ => rfl

theorem reads_routeRead : Reads (rThen (rIndex 8) (rOpt (rIndex 24))) (Form.seq (requestForm 0x23)) :=
  (reads_index 8).then (reads_index 24).opt.one

theorem reads_tallyBind :
    Reads (rThen (rIndex 8) (rOpt (rThen (rIndex 8) (rIndex 24)))) (Form.seq (requestForm 0x24)) :=
  (reads_index 8).then ((reads_index 8).then (reads_index 24).one).opt.one

theorem reads_claim : Reads (rThen rMask rClaimant) (Form.seq (requestForm 0x25)) := reads_mask.then reads_claimant.one

/-! ## The regions, the feeds and the carousels -/

theorem reads_regionConfig : Reads rRegionConfig (Form.seq (requestForm 0x29)) :=
  ((reads_index 8).then <| (reads_nat 4).opt.then <| (reads_enum _).opt.then <|
    (reads_nat 4).opt.then (reads_nat 4).opt.one).map fun _ => rfl

theorem reads_regionRead : Reads rRegionRead (Form.seq (requestForm 0x2C)) :=
  (reads_index 8).then reads_identBelowNull.opt.one

theorem reads_feedBind : Reads (rThen (rIndex 16) (rOpt (rIndex 8))) (Form.seq (requestForm 0x2D)) :=
  (reads_index 16).then (reads_index 8).opt.one

theorem reads_carouselConfig : Reads rCarouselConfig (Form.seq (requestForm 0x2E)) :=
  ((reads_index 32).then <| (reads_index 8).opt.then <| (reads_nat 4).opt.then (reads_enum _).opt.one).map fun _ => rfl

theorem reads_carouselAppend : Reads rCarouselAppend (Form.seq (requestForm 0x2F)) :=
  ((reads_index 32).then <| reads_flag.then (reads_packet.list 8).one).map fun _ => rfl

end Sys2Proof.Machine
end

section
/-!
PROOFS. What leaves the queues of both links as they stand, but for notices within their capacity: reports, health and
switching, the handling of a packet, the multiplexer, and every request's own block (R187, R190, R192).
-/
namespace Sys2Proof.Machine

variable {s t u : State}

/-! ## Queues that stand -/

/-- A link's requests and replies stand as they were, and its notices stay within their capacity. -/
def LinkState.Standing (k k' : LinkState) : Prop :=
  k'.requests = k.requests ∧ k'.replies = k.replies ∧ (k.notices.length ≤ 32 → k'.notices.length ≤ 32)

/-- Both links' queues stand. -/
def SameQueues (s t : State) : Prop := ∀ l, (s.link l).Standing (t.link l)

theorem LinkState.Standing.refl (k : LinkState) : k.Standing k := ⟨rfl, rfl, id⟩

theorem LinkState.sameButNotices.standing {k k' : LinkState} (h : k.sameButNotices k') : k.Standing k' :=
  ⟨(congrArg LinkState.requests h.1 :), (congrArg LinkState.replies h.1 :), h.2⟩

theorem LinkState.Standing.bounded {k k' : LinkState} (h : k.Standing k') (hk : k.bounded) : k'.bounded := by
  obtain ⟨hrequests, hreplies, hnotices⟩ := h
  obtain ⟨hrequests', hreplies', hnotices'⟩ := hk
  exact ⟨hrequests ▸ hrequests', hreplies ▸ hreplies', hnotices hnotices'⟩

theorem SameQueues.refl (s : State) : SameQueues s s := fun _ => .refl _

theorem SameQueues.trans (h : SameQueues s t) (h' : SameQueues t u) : SameQueues s u := fun l => by
  obtain ⟨hrequests, hreplies, hnotices⟩ := h l
  obtain ⟨hrequests', hreplies', hnotices'⟩ := h' l
  exact ⟨hrequests'.trans hrequests, hreplies'.trans hreplies, hnotices' ∘ hnotices⟩

theorem SameQueues.foldl {α : Type} {f : State → α → State} (h : ∀ t x, SameQueues t (f t x)) (l : List α) (s : State) :
    SameQueues s (l.foldl f s) :=
  List.foldlRecOn l f (motive := SameQueues s) (.refl s) fun t ht x _ => ht.trans (h t x)

theorem SameQueues.of_sameButNotices (hm : s.mgmt.sameButNotices t.mgmt) (hc : s.cueLink.sameButNotices t.cueLink) :
    SameQueues s t
  | .management => hm.standing
  | .cue => hc.standing

/-- An event that leaves both links alone leaves their queues. -/
theorem SameQueues.of_links (hm : t.mgmt = s.mgmt) (hc : t.cueLink = s.cueLink) : SameQueues s t :=
  .of_sameButNotices (hm ▸ .refl _) (hc ▸ .refl _)

theorem OnlyReports.queues (h : OnlyReports s t) : SameQueues s t := .of_sameButNotices h.2.1 h.2.2

theorem OnlySwitching.queues (h : OnlySwitching s t) : SameQueues s t := .of_sameButNotices h.2.1 h.2.2

theorem OnlyHealth.queues (h : OnlyHealth s t) : SameQueues s t := .of_sameButNotices h.2.1 h.2.2

theorem OnlyHandling.queues (h : OnlyHandling s t) : SameQueues s t := .of_sameButNotices h.2.1 h.2.2.1

theorem OnlyInstant.queues {g : RegionId} (h : OnlyInstant g s t) : SameQueues s t := .of_sameButNotices h.2.1 h.2.2.1

theorem Answer.Leaves.queues {x : Answer} (h : x.Leaves (OnlySwitching s)) : x.Leaves (SameQueues s) :=
  h.mono fun _ => OnlySwitching.queues

theorem setLink_queues {l : Link} {k : LinkState} (h : (s.link l).Standing k) : SameQueues s (s.setLink l k) := fun l' => by
  rw [State.setLink_link]
  split
  · next he => exact he ▸ h
  · exact .refl _

theorem raiseEvent_queues (c : Cause) (o : ObjRef) (s : State) : SameQueues s (raiseEvent c o s) :=
  (raiseEvent_only s c o).queues

theorem notifyPort_queues (p : PortId) (s : State) : SameQueues s (notifyPort p s) := (notifyMgmt_only s _).queues

theorem settle_queues (s : State) : SameQueues s (settle s) := (settle_only s).queues

/-! ## The general requests, the ports and the feeds -/

theorem doStatusClear_queues (b : Byte) (s : State) : (doStatusClear b s).Leaves (SameQueues s) :=
  SameQueues.of_links rfl rfl

theorem doReportSet_queues (x : Link × Byte) (s : State) : (doReportSet x s).Leaves (SameQueues s) :=
  setLink_queues (l := x.1) ⟨rfl, rfl, id⟩

theorem doReset_queues (x : Unit) (s : State) : (doReset x s).Leaves (SameQueues s) := SameQueues.of_links rfl rfl

theorem doTimeSet_queues (n : Nat) (s : State) : (doTimeSet n s).Leaves (SameQueues s) :=
  SameQueues.trans (t := { s with offset := some (offsetFor s.clock n), falling := pendingCues s })
    (.of_links rfl rfl) (settle_queues _)

theorem setPort_queues (p : PortId) (x : Port) (s : State) : SameQueues s (s.setPort p x) := .of_links rfl rfl

theorem clearLastSeen_queues (p : PortId) (s : State) : SameQueues s (clearLastSeen p s) := .of_links rfl rfl

theorem raiseFlag_queues (p : PortId) (f : PortFlags → PortFlags) (s : State) : SameQueues s (raiseFlag p f s) := by
  unfold raiseFlag
  dsimp only
  split
  · exact setPort_queues p _ s
  · exact (setPort_queues p _ s).trans (notifyPort_queues p _)

theorem loseSync_queues (p : PortId) (s : State) : SameQueues s (loseSync p s) :=
  (((setPort_queues p _ s).trans (clearLastSeen_queues p _)).trans (raiseEvent_queues _ _ _)).trans
    (settle_notifyPort_portLost_only p _ _).queues

theorem offerFifo_queues (p : PortId) (q : Packet) (s : State) : SameQueues s (offerFifo p q s) := by
  unfold offerFifo
  dsimp only
  split
  · exact (setPort_queues p _ s).trans (raiseFlag_queues p _ _)
  · exact raiseFlag_queues p _ s

theorem gatherByte_queues (p : PortId) (bad left : Nat) (q : Option Packet) (b : Byte) (s : State) :
    SameQueues s (gatherByte p bad left q b s) := by
  unfold gatherByte
  dsimp only
  split
  · split
    · exact (setPort_queues p _ s).trans (offerFifo_queues p _ _)
    · exact setPort_queues p _ s
  · exact setPort_queues p _ s

theorem verifySync_queues (p : PortId) (good : Nat) (b : Byte) (s : State) : SameQueues s (verifySync p good b s) := by
  unfold verifySync
  split
  · split
    · exact (setPort_queues p _ s).trans (notifyPort_queues p _)
    · exact setPort_queues p _ s
  · exact setPort_queues p _ s

theorem lockedSync_queues (p : PortId) (bad : Nat) (b : Byte) (s : State) : SameQueues s (lockedSync p bad b s) := by
  unfold lockedSync
  split
  · exact setPort_queues p _ s
  · split
    · exact setPort_queues p _ s
    · exact loseSync_queues p s

theorem lineByte_queues (p : PortId) (b : Byte) (s : State) : SameQueues s (lineByte p b s) := by
  unfold lineByte
  split
  · exact .refl s
  · split
    · exact setPort_queues p _ s
    · exact .refl s
  · exact verifySync_queues p _ b s
  · exact setPort_queues p _ s
  · exact lockedSync_queues p _ b s
  · exact gatherByte_queues p _ _ _ b s

theorem doPortStart_queues (p : PortId) (s : State) : (doPortStart p s).Leaves (SameQueues s) := by
  unfold doPortStart
  split
  · exact (setPort_queues p _ s).trans (notifyPort_queues p _)
  · exact SameQueues.refl s

theorem doPortStop_queues (p : PortId) (s : State) : (doPortStop p s).Leaves (SameQueues s) := by
  change SameQueues s (stopPort p s)
  have hlost : ∀ u : State, SameQueues u (if (s.port p).isLocked then portLost p .portLost (clearLastSeen p u) else u) := by
    intro u
    split
    · exact (clearLastSeen_queues p u).trans (portLost_only _ p _).queues
    · exact .refl u
  unfold stopPort
  dsimp only
  split
  · exact ((setPort_queues p _ s).trans (hlost _)).trans (settle_queues _)
  · exact ((setPort_queues p _ s).trans (hlost _)).trans (settle_notifyPort_only p _).queues

theorem doPortConfig_queues (x : PortConfig) (s : State) : (doPortConfig x s).Leaves (SameQueues s) :=
  (setPort_queues x.port _ s).trans (configPort_only x s).queues

theorem doPortClear_queues (x : PortId × Byte) (s : State) : (doPortClear x s).Leaves (SameQueues s) :=
  setPort_queues x.1 _ s

theorem doFeedBind_queues (x : FeedId × Option RegionId) (s : State) : (doFeedBind x s).Leaves (SameQueues s) := by
  change SameQueues s (bindFeed x.1 x.2 s)
  unfold bindFeed
  split
  · exact .refl s
  · exact .of_links rfl rfl

theorem idleFeed_queues (fd : FeedId) (s : State) : SameQueues s (idleFeed fd s) := by
  unfold idleFeed
  split
  · exact .of_links rfl rfl
  · exact .refl s

/-! ## The tables and the claims -/

theorem rewriteAll_queues (own : RegEntry → Bool) (want : RegionId → List Registration) (s : State) :
    SameQueues s (rewriteAll own want s) :=
  .of_links (congrArg State.mgmt (rewriteAll_only own want s) :) (congrArg State.cueLink (rewriteAll_only own want s) :)

theorem doComponentWrite_queues (x : ComponentId × Component) (s : State) :
    (doComponentWrite x s).Leaves (SameQueues s) := by
  refine .unless (.unless (.unless (.unless (.unless ?_))))
  split
  · trivial
  · exact SameQueues.trans (.of_links rfl rfl) (rewriteAll_queues _ _ (s.setComponent x.1 (some x.2)))

theorem doComponentClear_queues (c : ComponentId) (s : State) : (doComponentClear c s).Leaves (SameQueues s) :=
  .unless (SameQueues.trans (.of_links rfl rfl) (rewriteAll_queues _ _ (s.setComponent c none)))

theorem doMeterWrite_queues (x : MeterWrite) (s : State) : (doMeterWrite x s).Leaves (SameQueues s) :=
  SameQueues.of_links rfl rfl

theorem doMeterRead_queues (x : MeterId × Bool) (s : State) : (doMeterRead x s).Leaves (SameQueues s) := by
  change SameQueues s (if x.2 then s.setMeter x.1 { s.meter x.1 with excess := false } else s)
  split
  · exact .of_links rfl rfl
  · exact .refl s

theorem refreshMeter_queues (m : MeterId) (s : State) : SameQueues s (refreshMeter m s) := by
  unfold refreshMeter
  split
  · split
    · exact .of_links rfl rfl
    · exact .refl s
  · exact .refl s

theorem doSlotWrite_queues (x : SlotId × SlotDef) (s : State) : (doSlotWrite x s).Leaves (SameQueues s) := by
  refine .unless ?_
  split
  · trivial
  · split
    · trivial
    · exact SameQueues.of_links (congrArg State.mgmt (writeSlot_only x.1 x.2 s) :)
        (congrArg State.cueLink (writeSlot_only x.1 x.2 s) :)

theorem doSlotClear_queues (sl : SlotId) (s : State) : (doSlotClear sl s).Leaves (SameQueues s) := by
  unfold doSlotClear
  split
  · trivial
  · exact SameQueues.trans (.of_links rfl rfl) (rewriteAll_queues _ _ ((unbindNational sl s).setSlot sl none))

theorem doVariantWrite_queues (x : VariantId × VariantDef) (s : State) : (doVariantWrite x s).Leaves (SameQueues s) := by
  refine .unless (.unless (.unless (.unless ?_)))
  change SameQueues s (writeVariant x.1 x.2 s)
  rw [writeVariant_only]
  exact SameQueues.trans (.of_links rfl rfl) (notifyMgmt_only _ _).queues

theorem doVariantClear_queues (v : VariantId) (s : State) : (doVariantClear v s).Leaves (SameQueues s) :=
  .unless (P := SameQueues s) (SameQueues.of_links rfl rfl)

theorem doTallyBind_queues (x : TallyId × Option (RegionId × SlotId)) (s : State) :
    (doTallyBind x s).Leaves (SameQueues s) :=
  SameQueues.of_links rfl rfl

theorem setClaims_queues (o : Option Nat) (gs : List RegionId) (s : State) :
    SameQueues s (gs.foldl (fun t g => t.setClaim g o) s) :=
  .foldl (f := fun t g => t.setClaim g o) (fun _ _ => .of_links rfl rfl) gs s

theorem doClaim_queues (x : RegionMask × Nat) (s : State) : (doClaim x s).Leaves (SameQueues s) := by
  unfold doClaim
  split
  · trivial
  · exact setClaims_queues _ _ s

theorem doUnclaim_queues (x : RegionMask × Nat) (s : State) : (doUnclaim x s).Leaves (SameQueues s) :=
  setClaims_queues _ _ s

theorem doClaimBreak_queues (x : RegionMask) (s : State) : (doClaimBreak x s).Leaves (SameQueues s) :=
  setClaims_queues _ _ s

/-! ## The carousels -/

theorem setCarousel_queues (k : CarouselId) (c : Carousel) (s : State) : SameQueues s (s.setCarousel k c) :=
  .of_links rfl rfl

theorem registerLive_queues (k : CarouselId) (l : List Packet) (o : Option RegionId) (s : State) :
    SameQueues s (registerLive k l o s) :=
  .of_links (congrArg State.mgmt (registerLive_only k l o s) :) (congrArg State.cueLink (registerLive_only k l o s) :)

theorem swapEffect_queues (k : CarouselId) (s : State) : SameQueues s (swapEffect k s) :=
  (setCarousel_queues k _ s).trans (registerLive_queues k _ _ _)

theorem endCycle_queues (k : CarouselId) (s : State) : SameQueues s (endCycle k s) :=
  .of_links (congrArg State.mgmt (endCycle_only k s) :) (congrArg State.cueLink (endCycle_only k s) :)

theorem takeSwap_queues (k : CarouselId) (s : State) : SameQueues s (takeSwap k s) := by
  unfold takeSwap
  split
  · exact setCarousel_queues k _ s
  · exact swapEffect_queues k s

theorem intervalReached_queues (k : CarouselId) (s : State) : SameQueues s (intervalReached k s) := by
  unfold intervalReached
  dsimp only
  split
  · split <;> exact setCarousel_queues k _ s
  · exact .refl s

theorem doCarouselConfig_queues (x : CarouselConfig) (s : State) : (doCarouselConfig x s).Leaves (SameQueues s) := by
  unfold doCarouselConfig
  dsimp only
  split
  · exact setCarousel_queues x.carousel _ s
  · refine .unless ?_
    split
    · trivial
    · next g _ _ _ =>
      have hmove := moveRegistrations_only x.carousel (s.carousel x.carousel) g s
      exact SameQueues.trans (.of_links (congrArg State.mgmt hmove :) (congrArg State.cueLink hmove :))
        (setCarousel_queues x.carousel _ _)

theorem doCarouselAppend_queues (x : CarouselAppend) (s : State) : (doCarouselAppend x s).Leaves (SameQueues s) :=
  .unless (.unless (P := SameQueues s) (setCarousel_queues x.carousel _ s))

theorem doCarouselSwap_queues (k : CarouselId) (s : State) : (doCarouselSwap k s).Leaves (SameQueues s) := by
  unfold doCarouselSwap
  dsimp only
  split
  · trivial
  · refine .unless (.unless ?_)
    split
    · trivial
    · exact SameQueues.trans (.of_links rfl rfl) (takeSwap_queues k (s.setRegion _ _))

theorem doCarouselStart_queues (k : CarouselId) (s : State) : (doCarouselStart k s).Leaves (SameQueues s) := by
  unfold doCarouselStart
  dsimp only
  split
  · trivial
  · refine .unless ?_
    split
    · exact SameQueues.refl s
    · exact setCarousel_queues k _ s

theorem doCarouselStop_queues (k : CarouselId) (s : State) : (doCarouselStop k s).Leaves (SameQueues s) := by
  change SameQueues s (if (s.carousel k).state = .idle then s else stopCarousel k s)
  split
  · exact .refl s
  · exact (setCarousel_queues k _ s).trans (endCycle_queues k _)

theorem doCarouselClear_queues (k : CarouselId) (s : State) : (doCarouselClear k s).Leaves (SameQueues s) :=
  .unless (SameQueues.trans (.of_links rfl rfl) (registerLive_queues k [] _ _))

/-! ## The multiplexer and the classifier -/

theorem doRegionConfig_queues (x : RegionConfig) (s : State) : (doRegionConfig x s).Leaves (SameQueues s) :=
  SameQueues.of_links rfl rfl

theorem doRegionRead_queues (x : RegionId × Option Ident) (s : State) : (doRegionRead x s).Leaves (SameQueues s) := by
  unfold doRegionRead
  split <;> exact SameQueues.refl s

/-- At its moment and at any other, a slot instant changes no more than R144 to R160 let it. -/
theorem slotInstant_instant (g : RegionId) (s : State) : OnlyInstant g s (slotInstant g s) := by
  by_cases h : ∃ c, (s.region g).clk = some c ∧ c.next = s.clock
  · obtain ⟨c, hc, hn⟩ := h
    rw [slotInstant_sends hc hn]
    exact (instantBegun_instant g s).trans (sendPacket_instant g _ _ _ _)
  · rw [slotInstant_waits fun c hc hn => h ⟨c, hc, hn⟩]
    exact .refl g s

theorem doRegionStart_queues (g : RegionId) (s : State) : (doRegionStart g s).Leaves (SameQueues s) := by
  unfold doRegionStart
  split
  · exact SameQueues.refl s
  · exact SameQueues.trans (t := openRegion g s) (.of_links rfl rfl) (slotInstant_instant g _).queues

theorem doRegionStop_queues (g : RegionId) (s : State) : (doRegionStop g s).Leaves (SameQueues s) := by
  unfold doRegionStop
  split
  · exact SameQueues.refl s
  · have hflush : SameQueues s (releaseAll ((s.region g).mainQ ++ (s.region g).expQ)
        (s.setRegion g (s.region g).stopped)) := .of_links rfl rfl
    refine hflush.trans (.foldl (fun t k => ?_) _ _)
    split
    · exact endCycle_queues k t
    · exact .refl t

theorem takePacket_queues (s : State) : SameQueues s (takePacket s) := by
  unfold takePacket
  split
  · exact .refl s
  · next p _ =>
    split
    · exact .refl s
    · next a rest _ =>
      have hserved : SameQueues s (served p rest s) := .of_links rfl rfl
      exact (hserved.trans (handlePacket_handling (p := p) (a := a)).queues).trans (settle_queues _)

theorem clockWrap_queues (s : State) : SameQueues s (clockWrap s) := by
  unfold clockWrap
  split
  · exact .of_links rfl rfl
  · exact .refl s

end Sys2Proof.Machine
end

section
/-!
PROOFS. The request rows together: each kind of R189 with its link, the form of its body and what its block leaves of the
links' queues (R187 to R190).
-/
namespace Sys2Proof.Machine

variable {s : State} {l : Link} {kind : Byte}

/-! ## What a request row is -/

/-- Whether the cue link may not carry a request of a kind with a body (R189, R66). -/
def managementOnly (kind : Byte) (body : List Byte) : Prop :=
  kind ∈ managementKinds ∨ (kind = 0x11 ∧ body[1]? = some 1)

/-- The row of a request kind on a link: it takes and answers the request, the bodies that the cue link may not carry are
those of R189, its reader takes the form of its kind, and its block leaves the queues of both links. -/
structure RequestRow (l : Link) (kind : Byte) {α : Type} (m : List Byte → Bool) (r : Reader α)
    (run : α → State → Answer) : Prop where
  exec_eq : ∀ s, exec (commandOf l kind) s = .next (serve l kind m (readAll r) run s)
  carried : ∀ body, m body = true ↔ managementOnly kind body
  reads : Reads r (Form.seq (requestForm kind))
  queues : ∀ x s, (run x s).Leaves (SameQueues s)

/-- A link has a row for a request kind. -/
def HasRow (l : Link) (kind : Byte) : Prop :=
  ∃ (α : Type) (m : List Byte → Bool) (r : Reader α) (run : α → State → Answer), RequestRow l kind m r run

theorem not_managementOnly (hk : kind ∉ managementKinds ∧ kind ≠ 0x11) (body : List Byte) : ¬managementOnly kind body :=
  fun h => h.elim hk.1 fun h => hk.2 h.1

section Rows

variable {α : Type} {r : Reader α} {run : α → State → Answer}

/-- The row of a request that either link may carry. -/
theorem HasRow.both (hx : ∀ s, exec (commandOf l kind) s = .next (serve l kind bothLinks (readAll r) run s))
    (hr : Reads r (Form.seq (requestForm kind))) (hq : ∀ x s, (run x s).Leaves (SameQueues s))
    (hk : kind ∉ managementKinds ∧ kind ≠ 0x11 := by decide) : HasRow l kind :=
  ⟨α, _, r, run, hx, fun body => iff_of_false Bool.false_ne_true (not_managementOnly hk body), hr, hq⟩

/-- The row of a request that the management link alone may carry. -/
theorem HasRow.management (hx : ∀ s, exec (commandOf l kind) s = .next (serve l kind mgmtLink (readAll r) run s))
    (hr : Reads r (Form.seq (requestForm kind))) (hq : ∀ x s, (run x s).Leaves (SameQueues s))
    (hk : kind ∈ managementKinds := by decide) : HasRow l kind :=
  ⟨α, _, r, run, hx, fun _ => iff_of_true rfl (.inl hk), hr, hq⟩

end Rows

/-- METER_READ is the one request that the cue link may carry or not by its body. -/
theorem hasRow_meterRead (l : Link) : HasRow l 0x11 := by
  refine ⟨_, meterReadMgmt, rMeterRead, doMeterRead, fun _ => rfl, fun body => ?_, reads_meterRead, doMeterRead_queues⟩
  rw [meterReadMgmt, decide_eq_true_eq, managementOnly, or_iff_right (by decide), and_iff_right rfl]

/-! ## The rows of R189 -/

/-- The request kinds of R189. -/
def requestKinds : List Byte :=
  [0x01, 0x02, 0x03, 0x04, 0x05, 0x06, 0x07, 0x08, 0x09, 0x0A, 0x0B, 0x0C, 0x0D, 0x0E, 0x0F, 0x10, 0x11, 0x12, 0x13,
   0x14, 0x15, 0x16, 0x17, 0x1B, 0x1C, 0x1D, 0x1E, 0x20, 0x21, 0x22, 0x23, 0x24, 0x25, 0x26, 0x27, 0x28, 0x29, 0x2A,
   0x2B, 0x2C, 0x2D, 0x2E, 0x2F, 0x30, 0x31, 0x32, 0x33, 0x34, 0x35, 0x36]

theorem isRequestKind_iff : isRequestKind kind = true ↔
    1 ≤ kind.toNat ∧ kind.toNat ≤ 0x17 ∨ 0x1B ≤ kind.toNat ∧ kind.toNat ≤ 0x1E ∨
      0x20 ≤ kind.toNat ∧ kind.toNat ≤ 0x36 := by
  simp [isRequestKind, or_assoc]

theorem mem_requestKinds (h : isRequestKind kind = true) : kind ∈ requestKinds := by
  revert kind
  decide

/-- Each arm of `commandOf` but the last is for a kind of R189. -/
theorem commandOf_unlisted (l : Link) (h : isRequestKind kind = false) : commandOf l kind = .unsupportedKind l := by
  have hcode : ∀ n, kind.toNat = n → ¬(1 ≤ n ∧ n ≤ 0x17) ∧ ¬(0x1B ≤ n ∧ n ≤ 0x1E) ∧ ¬(0x20 ≤ n ∧ n ≤ 0x36) := by
    rintro n rfl
    rw [← not_or, ← not_or, ← isRequestKind_iff]
    exact Bool.eq_false_iff.1 h
  unfold commandOf
  split
  case h_51 => rfl
  all_goals next hkind => exact absurd (hcode _ hkind) (by decide)

/-- Every kind of R189 has its row, in the order of the kinds. -/
theorem hasRow_of_mem (l : Link) : ∀ kind ∈ requestKinds, HasRow l kind := by
  have hreads : ∀ {α : Type} (reply : α → State → List Byte) (x : α) (t : State),
      (Answer.ok (reply x t) t).Leaves (SameQueues t) := fun _ _ t => SameQueues.refl t
  simp only [requestKinds, List.forall_mem_cons]
  exact ⟨
    -- IDENTIFY to TIME_READ
    .both (fun _ => rfl) reads_nothing (hreads _),
    .both (fun _ => rfl) reads_nothing (hreads _),
    .management (fun _ => rfl) reads_set4.one doStatusClear_queues,
    .management (fun _ => rfl) reads_reportSet doReportSet_queues,
    .management (fun _ => rfl) reads_nothing doReset_queues,
    .management (fun _ => rfl) reads_station.one doTimeSet_queues,
    .both (fun _ => rfl) reads_nothing (hreads _),
    -- PORT_START to PORT_READ
    .management (fun _ => rfl) (reads_index 12).one doPortStart_queues,
    .management (fun _ => rfl) (reads_index 12).one doPortStop_queues,
    .management (fun _ => rfl) reads_portConfig doPortConfig_queues,
    .management (fun _ => rfl) reads_portClear doPortClear_queues,
    .both (fun _ => rfl) (reads_index 12).one (hreads _),
    -- COMPONENT_WRITE to METER_READ
    .management (fun _ => rfl) reads_componentWrite doComponentWrite_queues,
    .management (fun _ => rfl) reads_indexOfByte.one doComponentClear_queues,
    .both (fun _ => rfl) reads_indexOfByte.one (hreads _),
    .management (fun _ => rfl) reads_meterWrite doMeterWrite_queues,
    hasRow_meterRead l,
    -- SLOT_WRITE to VARIANT_READ
    .management (fun _ => rfl) reads_slotWrite doSlotWrite_queues,
    .management (fun _ => rfl) (reads_index 24).one doSlotClear_queues,
    .both (fun _ => rfl) (reads_index 24).one (hreads _),
    .management (fun _ => rfl) reads_variantWrite doVariantWrite_queues,
    .management (fun _ => rfl) (reads_index 48).one doVariantClear_queues,
    .both (fun _ => rfl) (reads_index 48).one (hreads _),
    -- CUE_ADD to CUE_LIST
    .both (fun _ => rfl) reads_cueAdd fun x t => (doCueAdd_only x t).queues,
    .both (fun _ => rfl) reads_cueOwner fun x t => (doCueCancel_only x t).queues,
    .both (fun _ => rfl) reads_cueOwner fun x t => (doCueConfirm_only x t).queues,
    .both (fun _ => rfl) reads_cueList.one fun x t => (doCueList_only x t).queues,
    -- ROUTE_TAKE to TALLY_BIND
    .both (fun _ => rfl) reads_routeTake fun x t => (doRouteTake_only x t).queues,
    .both (fun _ => rfl) reads_routeMask fun x t => (doRouteHold_only x t).queues,
    .both (fun _ => rfl) reads_routeMask fun x t => (doRouteFree_only x t).queues,
    .both (fun _ => rfl) reads_routeRead fun x t => (doRouteRead_only x t).queues,
    .management (fun _ => rfl) reads_tallyBind doTallyBind_queues,
    -- CLAIM to CLAIM_READ
    .both (fun _ => rfl) reads_claim doClaim_queues,
    .both (fun _ => rfl) reads_claim doUnclaim_queues,
    .management (fun _ => rfl) reads_mask.one doClaimBreak_queues,
    .both (fun _ => rfl) reads_nothing (hreads _),
    -- REGION_CONFIG to FEED_BIND
    .management (fun _ => rfl) reads_regionConfig doRegionConfig_queues,
    .management (fun _ => rfl) (reads_index 8).one doRegionStart_queues,
    .management (fun _ => rfl) (reads_index 8).one doRegionStop_queues,
    .both (fun _ => rfl) reads_regionRead doRegionRead_queues,
    .management (fun _ => rfl) reads_feedBind doFeedBind_queues,
    -- CAROUSEL_CONFIG to CAROUSEL_CLEAR
    .management (fun _ => rfl) reads_carouselConfig doCarouselConfig_queues,
    .management (fun _ => rfl) reads_carouselAppend doCarouselAppend_queues,
    .management (fun _ => rfl) (reads_index 32).one doCarouselSwap_queues,
    .management (fun _ => rfl) (reads_index 32).one doCarouselStart_queues,
    .management (fun _ => rfl) (reads_index 32).one doCarouselStop_queues,
    .both (fun _ => rfl) (reads_index 32).one (hreads _),
    .management (fun _ => rfl) (reads_index 32).one doCarouselClear_queues,
    -- CAPTURE_READ and CAPTURE_RELEASE
    .management (fun _ => rfl) (reads_nat 2).one (hreads _),
    .management (fun _ => rfl) (reads_nat 2).one fun _ _ => SameQueues.of_links rfl rfl,
    fun _ h => absurd h List.not_mem_nil⟩

theorem hasRow (l : Link) (h : isRequestKind kind = true) : HasRow l kind :=
  hasRow_of_mem l kind (mem_requestKinds h)

end Sys2Proof.Machine
end

section
/-!
PROOFS. What the link makes of a request before its block does: the kinds, links and bodies that it refuses (R188, R189, R200),
and the resets (R198).
-/
namespace Sys2Proof.Machine

variable {s : State} {l : Link} {kind : Byte} {body : List Byte}

/-! ## Refusals of the link (R188, R189) -/

/-- A kind that R189 does not list is refused UNSUPPORTED. -/
theorem refuses_unsupported (hc : canTake l s) (h : isRequestKind kind = false) : Refuses l kind body s .unsupported [] := by
  intro tag
  rw [commandOf_unlisted l h]
  refine congrArg Host.Outcome.next ?_
  simp [refuseUnsupported, takeRequest_received s l _ hc, h]

/-- A request that the management link alone may carry is refused NOT_PERMITTED on the cue link. -/
theorem refuses_notPermitted (hc : canTake .cue s) (hk : isRequestKind kind = true) (hm : managementOnly kind body) :
    Refuses .cue kind body s .notPermitted [] := by
  obtain ⟨_, m, r, run, row⟩ := hasRow .cue hk
  exact refuses_notPermitted_of_serve row.exec_eq hc ((row.carried body).2 hm)

/-- A body that does not have the form of its kind is refused BAD_FIELD on a link that may carry the request. -/
theorem refuses_badForm (hc : canTake l s) (hk : isRequestKind kind = true) (hm : l = .management ∨ ¬managementOnly kind body)
    (hform : Form.seq (requestForm kind) body ≠ some []) : Refuses l kind body s .badField [] := by
  obtain ⟨_, m, r, run, row⟩ := hasRow l hk
  have hcarried : l = .management ∨ m body = false :=
    hm.imp_right fun h => Bool.eq_false_iff.2 fun he => h ((row.carried body).1 he)
  exact refuses_badField_of_serve row.exec_eq hc hcarried ((readAll_eq_none row.reads).2 hform)

theorem isRequestKind_of_management : ∀ kind ∈ managementKinds, isRequestKind kind = true := by decide

/-! ## Requests that carry one index alone -/

/-- Any byte is an index of a set of 256. -/
theorem Form.any_one_eq : Form.any 1 = Form.below 256 := funext fun b => by
  cases b with
  | nil => rfl
  | cons x rest =>
    rw [Form.any, Form.num_one_cons, Form.below_cons, if_pos rfl, if_pos x.isLt]

theorem requestForm_oneIndex : ∀ x ∈ oneIndexKinds, requestForm x.1 = [Form.below x.2] := by
  have hbyte : [Form.any 1] = [Form.below 256] := congrArg (fun F => [F]) Form.any_one_eq
  simp only [oneIndexKinds, List.forall_mem_cons]
  exact ⟨rfl, rfl, rfl, hbyte, hbyte, rfl, rfl, rfl, rfl, rfl, rfl, rfl, rfl, rfl, rfl, rfl,
    fun _ h => absurd h List.not_mem_nil⟩

theorem isRequestKind_oneIndex : ∀ x ∈ oneIndexKinds, isRequestKind x.1 = true := by decide

/-- The body of one index ends where the index does not stand, holds one that is too high, or goes on after it. -/
theorem oneIndex_badForm (n : Nat) (b : Byte) :
    (n ≤ b.toNat → Form.seq [Form.below n] [b] ≠ some []) ∧ Form.seq [Form.below n] [] ≠ some [] ∧
      Form.seq [Form.below n] [b, 0] ≠ some [] := by
  have hlong : Form.seq [Form.below n] [b, 0] = if b.toNat < n then some [0] else none := by
    rw [Form.seq, Form.below_cons]
    split <;> rfl
  refine ⟨fun h => ?_, ?_, ?_⟩
  · rw [Form.seq, Form.below_cons, if_neg (Nat.not_lt.2 h)]
    simp
  · rw [Form.seq, Form.below, Form.num_one_nil]
    simp
  · rw [hlong]
    split <;> simp

/-- Settles O8: the kind by the list of R189, the link by the kind and the body, and the body by its form. -/
theorem linksRefuseWhatTheyMayNotCarry : Obligations.LinksRefuseWhatTheyMayNotCarry := by
  refine ⟨fun l kind body s hc hlow hmid hhigh => ?unsupported, fun kind hk body s hc => ?management,
    fun body s hc hclear => ?clear, fun x hx b s hc => ?oneIndex, fun l kind body s hc hk hlink hform => ?form⟩
  case unsupported =>
    refine refuses_unsupported hc (Bool.eq_false_iff.2 fun h => ?_)
    exact (isRequestKind_iff.1 h).elim hlow fun h => h.elim hmid hhigh
  case management => exact refuses_notPermitted hc (isRequestKind_of_management kind hk) (.inl hk)
  case clear => exact refuses_notPermitted hc (by decide) (.inr ⟨rfl, hclear⟩)
  case oneIndex =>
    have hrefuses : ∀ body, Form.seq [Form.below x.2] body ≠ some [] → Refuses .management x.1 body s .badField [] :=
      fun body hbody =>
        refuses_badForm hc (isRequestKind_oneIndex x hx) (.inl rfl) (by rwa [requestForm_oneIndex x hx])
    obtain ⟨hhigh, hshort, hlong⟩ := oneIndex_badForm x.2 b
    exact ⟨fun h => hrefuses _ (hhigh h), hrefuses _ hshort, hrefuses _ hlong⟩
  case form =>
    refine refuses_badForm hc (isRequestKind_iff.2 hk) (hlink.imp_right fun h => ?_) hform
    exact fun hm => hm.elim h.1 h.2

/-! ## The resets (R198) -/

/-- After a reset each field stands at the value that its own chapter gives. -/
theorem resetPart_atReset (cause : ResetCause) (s : State) : AtReset cause (resetPart cause s) :=
  ⟨rfl, rfl, fun p => Vector.getElem_replicate p.isLt, rfl, fun c => Vector.getElem_replicate c.isLt, rfl,
    fun m => Vector.getElem_replicate m.isLt, fun sl => Vector.getElem_replicate sl.isLt,
    fun v => Vector.getElem_replicate v.isLt, rfl, rfl, rfl,
    fun g sl => (congrArg (fun x : Vector Route 24 => x[sl]) (Vector.getElem_replicate g.isLt)).trans
      (Vector.getElem_replicate sl.isLt),
    fun x => Vector.getElem_replicate x.isLt, fun g => Vector.getElem_replicate g.isLt,
    fun g => Vector.getElem_replicate g.isLt, fun fd => Vector.getElem_replicate fd.isLt,
    fun k => Vector.getElem_replicate k.isLt, rfl, rfl, rfl, rfl, rfl⟩

/-- A link that takes nothing answers no request. -/
theorem exec_request_waits (kind : Byte) (h : takeRequest l s = none) : exec (commandOf l kind) s = .next s := by
  cases hk : isRequestKind kind with
  | false =>
    rw [commandOf_unlisted l hk]
    refine congrArg Host.Outcome.next ?_
    simp only [refuseUnsupported, h]
  | true =>
    obtain ⟨_, m, r, run, row⟩ := hasRow l hk
    rw [row.exec_eq]
    simp only [serve, h]

theorem sendsResetReply_of_tx {bytes : List Byte} (h : s.mgmt.tx = some { bytes := bytes, resetReply := true }) :
    s.sendsResetReply = true := by
  simp only [State.sendsResetReply, h]

theorem exec_resetTakesEffect (s : State) :
    exec .resetTakesEffect s = .next (if s.sendsResetReply then resetPart .request s else s) :=
  rfl

/-- The OK reply to a RESET that waits is the one that makes the reset take effect. -/
theorem isResetReply_reset (tag : Byte) (h : s.resetting = true) :
    isResetReply .management { kind := 0x05, tag := tag, body := [0] } s = true := by
  simp [isResetReply, h]

/-- Settles O3: what the two resets leave, and the taking of RESET, the wait for its reply and the beginning of that reply. -/
theorem resetsReturnEveryBlockToReset : Obligations.ResetsReturnEveryBlockToReset := by
  refine ⟨⟨fun s => ⟨_, rfl, resetPart_atReset _ s, rfl⟩, fun s bytes htx => ⟨?effect, ?sent⟩, fun s hno => ?early⟩,
    fun s hc => ?taken, fun s l kind hreset => ?waits, fun s tag rest hreset htx hr => ?begins⟩
  case effect =>
    refine ⟨_, ?_, resetPart_atReset .request s, rfl⟩
    rw [exec_resetTakesEffect, if_pos (sendsResetReply_of_tx htx)]
  case sent => exact ⟨_, congrArg Host.Outcome.next (frameDone_resets htx), resetPart_atReset _ s, rfl⟩
  case early => rw [exec_resetTakesEffect, if_neg (Bool.eq_false_iff.1 hno)]
  case taken => exact answers_of_serve (fun _ => rfl) hc (.inl rfl) (readAll_some _ _ () rfl) rfl
  case waits => exact exec_request_waits kind (takeRequest_none s l (.inl hreset))
  case begins =>
    have hbegin := beginSend_reply (l := .management) htx hr
    rw [isResetReply_reset tag hreset] at hbegin
    exact congrArg Host.Outcome.next hbegin

end Sys2Proof.Machine
end

section
/-!
PROOFS. Requests answered once, and the queues of both links within their capacity through every command and every step
(R187, R188, R190, R192); and the invariants after a reset.
-/
namespace Sys2Proof.Machine

variable {s t : State} {l : Link} {f : Frame} {body : List Byte}

/-! ## One answer to a request (R188, R190) -/

theorem addReply_link (l : Link) (f : Frame) (body : List Byte) (s : State) :
    (addReply l f body s).link l =
      { s.link l with replies := (s.link l).replies ++ [{ kind := f.kind, tag := f.tag, body := body }] } := by
  simp [addReply]

theorem addReply_link_ne {l' : Link} (h : l ≠ l') : (addReply l f body s).link l' = s.link l' := by
  rw [addReply, State.setLink_link, if_neg h]

theorem SameQueues.addReply (h : SameQueues s t) (l : Link) (f : Frame) (body : List Byte) :
    SameQueues (addReply l f body s) (addReply l f body t) := fun l' => by
  by_cases hl : l = l'
  · subst hl
    obtain ⟨hrequests, hreplies, hnotices⟩ := h l
    rw [addReply_link, addReply_link]
    exact ⟨hrequests, congrArg (· ++ _) hreplies, hnotices⟩
  · rw [addReply_link_ne hl, addReply_link_ne hl]
    exact h l'

/-- A request taken in a state has been answered: by a refusal or by an OK reply, and of the links' queues nothing moves but
for that one reply, and notices within their capacity. -/
def Answered (l : Link) (f : Frame) (s t : State) : Prop :=
  ∃ body, ((∃ r refs, t = refuse l f r refs s ∧ body = refusalBody r refs) ∨
    ∃ ok s', t = replied l f ok s' ∧ body = 0 :: ok) ∧ SameQueues (addReply l f body s) t

theorem refuse_answers (l : Link) (f : Frame) (r : Result) (refs : List ObjRef) (s : State) :
    Answered l f s (refuse l f r refs s) :=
  ⟨_, .inl ⟨r, refs, rfl, rfl⟩, raiseEvent_queues _ _ _⟩

/-- Where the owning block leaves the queues, a request is answered. -/
theorem answerRequest_answers {α : Type} {m : List Byte → Bool} {p : List Byte → Option α} {run : α → State → Answer}
    (hq : ∀ x s, (run x s).Leaves (SameQueues s)) (l : Link) (f : Frame) (s : State) :
    Answered l f s (answerRequest l m p run f s) := by
  rcases answerRequest_cases s l m p run f with ⟨r, refs, h⟩ | ⟨x, ok, s', -, hrun, h⟩
  · rw [h]
    exact refuse_answers l f r refs s
  · have hqueues := hq x s
    rw [hrun] at hqueues
    rw [h]
    exact ⟨_, .inr ⟨ok, s', rfl, rfl⟩, SameQueues.addReply hqueues l f _⟩

/-- The command of a frame's own kind answers it. -/
theorem exec_request_answers (hc : canTake l s) (f : Frame) :
    ∃ t, exec (commandOf l f.kind) (received l f s) = .next t ∧ Answered l f s t := by
  cases hk : isRequestKind f.kind with
  | false => exact ⟨_, refuses_unsupported hc hk f.tag, refuse_answers _ _ _ _ _⟩
  | true =>
    obtain ⟨_, m, r, run, row⟩ := hasRow l hk
    refine ⟨_, row.exec_eq _, ?_⟩
    rw [serve_received s l f m _ run hc]
    exact answerRequest_answers row.queues l f s

/-! ## The links' queues within their capacity -/

theorem SameQueues.linksOk (h : SameQueues s t) (hs : s.linksOk) : t.linksOk := fun l => (h l).bounded (hs l)

theorem setLink_linksOk {k : LinkState} (hs : s.linksOk) (hk : k.bounded) : (s.setLink l k).linksOk := fun l' => by
  rw [State.setLink_link]
  split
  · exact hk
  · exact hs l'

/-- A link whose reply queue has room may be answered. -/
theorem addReply_linksOk (hs : s.linksOk) (hroom : (s.link l).replies.length < 8) :
    (addReply l f body s).linksOk := by
  obtain ⟨hrequests, -, hnotices⟩ := hs l
  exact setLink_linksOk hs ⟨hrequests, by simpa using hroom, hnotices⟩

theorem Answered.linksOk (h : Answered l f s t) (hs : s.linksOk) (hc : canTake l s) : t.linksOk := by
  obtain ⟨body, -, hq⟩ := h
  exact hq.linksOk (addReply_linksOk hs hc.2)

/-! ## What the receiver and the transmitter do to them (R187, R190) -/

theorem acceptItem_linksOk (hs : s.linksOk) (l : Link) (x : RxItem) : (acceptItem l s x).linksOk := by
  cases x with
  | discarded => exact (raiseEvent_queues _ _ _).linksOk hs
  | good f =>
    obtain ⟨-, hreplies, hnotices⟩ := hs l
    by_cases hroom : (s.link l).requests.length < 4
    · have hjoin : acceptItem l s (.good f) = _ := acceptFrame_joins (f := f) hroom
      rw [hjoin]
      exact setLink_linksOk hs ⟨by simpa using hroom, hreplies, hnotices⟩
    · have hbusy : acceptItem l s (.good f) = _ := acceptFrame_busy (f := f) (Nat.not_lt.1 hroom)
      rw [hbusy]
      split
      · next hr => exact (raiseEvent_queues _ _ _).linksOk (addReply_linksOk hs hr)
      · exact (raiseEvent_queues _ _ _).linksOk hs

theorem closeGap_queues (l : Link) (s : State) : SameQueues s (closeGap l s) := by
  unfold closeGap
  split
  · exact (setLink_queues (k := { s.link l with rx := none }) ⟨rfl, rfl, id⟩).trans (raiseEvent_queues _ _ _)
  · exact .refl s

theorem receiveByte_linksOk (hs : s.linksOk) (l : Link) (b : Byte) : (receiveByte l b s).linksOk := by
  refine List.foldlRecOn _ _ (motive := State.linksOk) ?_ fun _ ht x _ => acceptItem_linksOk ht l x
  refine SameQueues.linksOk (setLink_queues ?_) ((closeGap_queues l s).linksOk hs)
  exact ⟨rfl, rfl, id⟩

theorem beginSend_linksOk (hs : s.linksOk) (l : Link) : (beginSend l s).linksOk := by
  obtain ⟨hrequests, hreplies, hnotices⟩ := hs l
  cases htx : (s.link l).tx with
  | some x => rwa [beginSend_sending htx]
  | none =>
    cases hr : (s.link l).replies with
    | cons r rest =>
      rw [hr] at hreplies
      rw [beginSend_reply htx hr]
      exact setLink_linksOk hs ⟨hrequests, (Nat.le_succ _).trans hreplies, hnotices⟩
    | nil =>
      cases hn : (s.link l).notices with
      | cons n rest =>
        rw [hn] at hnotices
        rw [beginSend_notice htx hr hn]
        exact setLink_linksOk hs ⟨hrequests, hreplies, (Nat.le_succ _).trans hnotices⟩
      | nil => rwa [beginSend_nothing htx hr hn]

theorem resetPart_linksOk (cause : ResetCause) (s : State) : (resetPart cause s).linksOk := by
  have hlink : ∀ enables, (LinkState.reset cause enables).bounded := fun _ =>
    ⟨Nat.zero_le _, Nat.zero_le _, show 1 ≤ 32 by decide⟩
  rintro (_ | _) <;> exact hlink _

theorem frameDone_linksOk (hs : s.linksOk) (l : Link) : (frameDone l s).linksOk := by
  cases htx : (s.link l).tx with
  | none => rwa [frameDone_idle htx]
  | some x =>
    obtain ⟨bytes, _ | _⟩ := x
    · rw [frameDone_frees htx]
      exact setLink_linksOk hs (hs l)
    · rw [frameDone_resets htx]
      exact resetPart_linksOk _ s

theorem resetTaken_linksOk (hs : s.linksOk) : (if s.sendsResetReply then resetPart .request s else s).linksOk := by
  split
  · exact resetPart_linksOk _ s
  · exact hs

/-! ## What the requests do to them -/

/-- A link that takes a frame had it at the head of its queue, and may take a request. -/
theorem received_of_takeRequest (h : takeRequest l s = some (f, t)) : canTake l t ∧ s = received l f t := by
  unfold takeRequest at h
  split at h
  · exact absurd h (by simp)
  · next hfree =>
    split at h
    · exact absurd h (by simp)
    · next rest hq =>
      obtain ⟨rfl, rfl⟩ := Prod.mk.inj (Option.some.inj h)
      simp only [Bool.or_eq_true, decide_eq_true_eq, not_or, Bool.not_eq_true, Nat.not_le] at hfree
      obtain ⟨hreset, hroom⟩ := hfree
      refine ⟨⟨by simpa using hreset, by simpa using hroom⟩, ?_⟩
      simp only [received, State.setLink_link, if_true, State.setLink_setLink, ← hq]
      exact (State.setLink_self s l).symm

/-- A queue that loses its head stands within its capacity. -/
theorem linksOk_of_received (hs : (received l f s).linksOk) : s.linksOk := fun l' => by
  have hl' := hs l'
  unfold received at hl'
  rw [State.setLink_link] at hl'
  split at hl'
  · next he =>
    obtain ⟨hrequests, hreplies, hnotices⟩ := hl'
    exact he ▸ ⟨(Nat.le_succ _).trans hrequests, hreplies, hnotices⟩
  · exact hl'

/-- A request row keeps the queues within their capacity, whatever waits on its link. -/
theorem exec_request_linksOk (hs : s.linksOk) (l : Link) (kind : Byte) :
    ∃ t, exec (commandOf l kind) s = .next t ∧ t.linksOk := by
  cases htake : takeRequest l s with
  | none => exact ⟨s, exec_request_waits kind htake, hs⟩
  | some x =>
    obtain ⟨f, u⟩ := x
    obtain ⟨hc, rfl⟩ := received_of_takeRequest htake
    have hu := linksOk_of_received hs
    cases hk : isRequestKind kind with
    | true =>
      obtain ⟨_, m, r, run, row⟩ := hasRow l hk
      refine ⟨_, row.exec_eq _, ?_⟩
      simp only [serve, htake]
      split
      · exact (answerRequest_answers row.queues l f u).linksOk hu hc
      · exact hs
    | false =>
      refine ⟨refuseUnsupported l (received l f u), congrArg (exec · _) (commandOf_unlisted l hk), ?_⟩
      simp only [refuseUnsupported, htake]
      split
      · exact hs
      · exact (refuse_answers l f _ _ u).linksOk hu hc

/-! ## Every command and every step -/

/-- Every command completes, and keeps the queues of both links within their capacity. -/
theorem exec_linksOk (hs : s.linksOk) (i : Instr) : ∃ t, exec i s = .next t ∧ t.linksOk := by
  have hrequest := exec_request_linksOk hs
  cases i with
  | powerOnReset => exact ⟨_, rfl, resetPart_linksOk _ s⟩
  | resetTakesEffect => exact ⟨_, rfl, resetTaken_linksOk hs⟩
  | linkByteReceived l b => exact ⟨_, rfl, receiveByte_linksOk hs l b⟩
  | frameGapTimeout l => exact ⟨_, rfl, (closeGap_queues l s).linksOk hs⟩
  | frameSendBegin l => exact ⟨_, rfl, beginSend_linksOk hs l⟩
  | frameSent l => exact ⟨_, rfl, frameDone_linksOk hs l⟩
  | unsupportedKind l => exact hrequest l 0
  | identify l => exact hrequest l 0x01
  | statusRead l => exact hrequest l 0x02
  | statusClear l => exact hrequest l 0x03
  | reportSet l => exact hrequest l 0x04
  | reset l => exact hrequest l 0x05
  | timeSet l => exact hrequest l 0x06
  | timeRead l => exact hrequest l 0x07
  | localClockWrap => exact ⟨_, rfl, (clockWrap_queues s).linksOk hs⟩
  | portStart l => exact hrequest l 0x08
  | portStop l => exact hrequest l 0x09
  | portConfig l => exact hrequest l 0x0A
  | portClear l => exact hrequest l 0x0B
  | portRead l => exact hrequest l 0x0C
  | portLineByte p b => exact ⟨_, rfl, (lineByte_queues p b s).linksOk hs⟩
  | classifierTake => exact ⟨_, rfl, (takePacket_queues s).linksOk hs⟩
  | componentWrite l => exact hrequest l 0x0D
  | componentClear l => exact hrequest l 0x0E
  | componentRead l => exact hrequest l 0x0F
  | meterWrite l => exact hrequest l 0x10
  | meterRead l => exact hrequest l 0x11
  | meterIdleRefresh m => exact ⟨_, rfl, (refreshMeter_queues m s).linksOk hs⟩
  | slotWrite l => exact hrequest l 0x12
  | slotClear l => exact hrequest l 0x13
  | slotRead l => exact hrequest l 0x14
  | variantWrite l => exact hrequest l 0x15
  | variantClear l => exact hrequest l 0x16
  | variantRead l => exact hrequest l 0x17
  | starvationExpiry v => exact ⟨_, rfl, (starvationExpires_only s v).queues.linksOk hs⟩
  | recoveryExpiry v => exact ⟨_, rfl, (recoveryExpires_only s v).queues.linksOk hs⟩
  | cueAdd l => exact hrequest l 0x1B
  | cueFallsDue => exact ⟨_, rfl, cueDue_only.queues.linksOk hs⟩
  | cueCancel l => exact hrequest l 0x1C
  | cueConfirm l => exact hrequest l 0x1D
  | cueList l => exact hrequest l 0x1E
  | routeDeadline g sl => exact ⟨_, rfl, (routeExpires_only g sl).queues.linksOk hs⟩
  | routeTake l => exact hrequest l 0x20
  | routeHold l => exact hrequest l 0x21
  | routeFree l => exact hrequest l 0x22
  | routeRead l => exact hrequest l 0x23
  | tallyBind l => exact hrequest l 0x24
  | claim l => exact hrequest l 0x25
  | unclaim l => exact hrequest l 0x26
  | claimBreak l => exact hrequest l 0x27
  | claimRead l => exact hrequest l 0x28
  | regionConfig l => exact hrequest l 0x29
  | regionStart l => exact hrequest l 0x2A
  | regionStop l => exact hrequest l 0x2B
  | regionRead l => exact hrequest l 0x2C
  | slotInstant g => exact ⟨_, rfl, (slotInstant_instant g s).queues.linksOk hs⟩
  | feedBind l => exact hrequest l 0x2D
  | carouselConfig l => exact hrequest l 0x2E
  | carouselAppend l => exact hrequest l 0x2F
  | carouselSwap l => exact hrequest l 0x30
  | carouselStart l => exact hrequest l 0x31
  | carouselIntervalDeadline k => exact ⟨_, rfl, (intervalReached_queues k s).linksOk hs⟩
  | carouselStop l => exact hrequest l 0x32
  | carouselClear l => exact hrequest l 0x34
  | carouselRead l => exact hrequest l 0x33
  | captureRead l => exact hrequest l 0x35
  | captureRelease l => exact hrequest l 0x36
  | feedGoesIdle fd => exact ⟨_, rfl, (idleFeed_queues fd s).linksOk hs⟩

theorem exec_keeps_linksOk (i : Instr) (s t : State) (hs : s.linksOk) (h : exec i s = .next t) : t.linksOk := by
  obtain ⟨u, hu, hok⟩ := exec_linksOk hs i
  rw [hu] at h
  exact Host.Outcome.next.inj h ▸ hok

theorem step_keeps_linksOk (hs : s.linksOk) (hstep : step s = .next t) : t.linksOk :=
  step_keeps (P := State.linksOk) exec_keeps_linksOk (fun _ h => SameQueues.linksOk (.of_links rfl rfl) h)
    (fun _ _ h => SameQueues.linksOk (.of_links rfl rfl) h) (fun _ _ h => SameQueues.linksOk (.of_links rfl rfl) h) hs hstep

/-- Settles O9: the answer by the row of the frame's kind, and the bounds by every command. -/
theorem everyRequestIsAnsweredOnce : Obligations.EveryRequestIsAnsweredOnce := by
  refine ⟨fun l f s hc => ?_, fun s t hs hstep => step_keeps_linksOk hs hstep⟩
  obtain ⟨t, hexec, body, hanswer, hqueues⟩ := exec_request_answers hc f
  obtain ⟨hrequests, hreplies, -⟩ := hqueues l
  rw [addReply_link] at hrequests hreplies
  exact ⟨t, body, hexec, hanswer, hrequests, hreplies⟩

/-- Settles O60: each invariant holds after a reset of any cause. -/
theorem resetMeetsTheInvariants : Obligations.ResetMeetsTheInvariants :=
  ⟨keptInRegions_clockOk.resetPart .powerOn State.reset, resetPart_metersOk .powerOn State.reset,
    resetPart_poolOk .powerOn State.reset, keptInRegions_namesOk.resetPart .powerOn State.reset,
    resetPart_routesOk .powerOn State.reset, resetPart_linksOk .powerOn State.reset⟩

end Sys2Proof.Machine
end
